-- ==== Sys2Proof/Word.lean ====
section
/-! DEFINITION. The plainest types of the model: bytes, strings of bytes, output levels and input levels. -/

namespace Sys2Proof

/-- One byte of a link (10_encodings.md). -/
abbrev Byte := BitVec 8

/-- A string of bytes, the first sent first. -/
abbrev Bytes := List Byte

/-- The level an output line shows (07, opening): ASSERT conducts, RELEASE does not. -/
inductive Level where
  | release
  | assert
  deriving DecidableEq, Repr

/-- The level an input line reads (07, opening). -/
inductive InLevel where
  | high
  | low
  deriving DecidableEq, Repr

end Sys2Proof
end

