-- ==== Sys2Proof/Syntax.lean ====
section
/-! DEFINITION. The commands of the part: one constructor for each row of spec/opcode_table.json. A request command carries the
fields of its request (10.3): its tag first. -/

namespace Sys2Proof

/-- The commands (the steps of 95_what_each_step_holds.md). -/
inductive Instr where
  /-- Power-on reset ends (R26, R67, R150). -/
  | powerOnReset
  /-- The downstream lane has brought these bytes since the start mark, and now the end mark (R1, R2). -/
  | parcelComplete (bytes : Bytes)
  /-- The period countdown reaches 0 (R26). -/
  | frameBoundary
  /-- The millisecond divider returns to 0 (R27). Inputs accepted at this tick are taken in the given order (R148). -/
  | millisecondTick (order : List (Fin 8))
  /-- The second divider returns to 0 (R28). -/
  | secondTick
  /-- The preroll timer reaches its timeout (R40). -/
  | prerollTimeout
  /-- The stall timer reaches its timeout (R47). -/
  | stallTimeout
  /-- Frame Presentation hands on the stall trigger (R63). -/
  | stallTrigger
  /-- The flow count reaches the flow interval (R181). -/
  | flowInterval
  /-- The ticks left of a running generator reach 0 (R144). -/
  | phaseEnd (g : Fin 4)
  /-- The raw level of an input line becomes this level (R147). -/
  | inputLevelChange (i : Fin 8) (level : InLevel)
  /-- The pending change of an input is accepted (R147). -/
  | acceptedEdge (i : Fin 8)
  /-- The upstream lane finishes sending a parcel (R183). -/
  | transmissionEnd
  | writeTrackTable (tag : Byte) (index : BitVec 16) (count : Byte) (entries : Bytes)
  | writeCompositionTable (tag : Byte) (index : BitVec 16) (count : Byte) (entries : Bytes)
  | writeLicenceTable (tag : Byte) (index : BitVec 16) (count : Byte) (entries : Bytes)
  | writeRoutingMaps (tag : Byte) (index : BitVec 16) (count : Byte) (entries : Bytes)
  | writeLaneSettings (tag : Byte) (index : BitVec 16) (count : Byte) (entries : Bytes)
  | writeCueStore (tag : Byte) (index : BitVec 16) (count : Byte) (entries : Bytes)
  | writeLineSettings (tag : Byte) (index : BitVec 16) (count : Byte) (entries : Bytes)
  | writeInputActions (tag : Byte) (index : BitVec 16) (count : Byte) (entries : Bytes)
  | writeShowSettings (tag : Byte) (index : BitVec 16) (count : Byte) (entries : Bytes)
  /-- A WRITE_TABLE request with its table number (R173). -/
  | writeTable (tag table : Byte) (index : BitVec 16) (count : Byte) (entries : Bytes)
  | readTable (tag table : Byte) (index : BitVec 16) (count : Byte)
  | readMeters (tag : Byte) (index : BitVec 16) (count : Byte)
  /-- A SHOW request with action ARM and its playlist (R35, R175). -/
  | arm (tag : Byte) (slots : Bytes)
  | start (tag : Byte)
  | hold (tag : Byte)
  | resume (tag : Byte)
  | skip (tag : Byte)
  | stop (tag : Byte)
  | clear (tag : Byte)
  | releaseEmergency (tag : Byte)
  | setClock (tag : Byte) (seconds : BitVec 32)
  | queryStatus (tag : Byte)
  | fetchShowings (tag : Byte) (n : BitVec 32)
  | trimShowings (tag : Byte) (n : BitVec 32)
  | setEventEnables (tag : Byte) (bits : BitVec 24)
  | clearEvents (tag : Byte) (bits : BitVec 24)
  | warmReset (tag : Byte)
  /-- A request payload that holds no kind, an unknown kind, or a body of the wrong length or content (R171). -/
  | malformedRequest (payload : Bytes)
  /-- A start mark on the downstream lane (R1). -/
  | startMark
  /-- A byte that makes the parcel in reception too large (R1). -/
  | oversizeParcel
  /-- Supply rise or the reset pin (R73, R141). -/
  | resetAsserted
  /-- One sample period of the speaker lanes (R89, R100). -/
  | samplePeriod
  deriving DecidableEq, Repr

end Sys2Proof
end

