-- ==== Sys2Proof/Config.lean ====
section
/-! DEFINITION. What the part fixes (sizes and limits, each with its rule) and the two free values of the model. -/

namespace Sys2Proof.Config

/-- The cells of the pool (R16). -/
def poolCells : Nat := 8192
/-- The bytes of one cell (R17, 01 section 1.7). -/
def cellBytes : Nat := 256
/-- The most payload bytes of a parcel (R1, R2). -/
def maxPayload : Nat := 1024
/-- The bytes of a parcel header (10.1). -/
def headerBytes : Nat := 10
/-- The largest parcel: header, 1024 payload bytes and the check word (R1, 10.1). -/
def maxParcel : Nat := 1036
/-- The frames one arrival window covers (R55). -/
def windowFrames : Nat := 64
/-- The most items of the subtitle schedule (R105). -/
def scheduleItems : Nat := 96
/-- The most records of the showing log (R161). -/
def logRecords : Nat := 64
/-- The most requests of the management input queue (R170). -/
def inputRequests : Nat := 4
/-- The reply-and-flow slots of the upstream queue (R182). -/
def replyFlowSlots : Nat := 7
/-- The depth of the macro return stack (R134). -/
def macroDepth : Nat := 4
/-- The values a delay line holds (R89). -/
def delayLineSamples : Nat := 2048
/-- Where a 16-bit counter stays (00_scope.md, Counters). -/
def counterMax : Nat := 65535
/-- The greatest sequence number of a showing record, and the greatest booth time (R161, R28). -/
def max32 : Nat := 4294967295
/-- The part identity code and the revision of QUERY_STATUS (10.3). -/
def partIdentity : Nat := 0x0620
def partRevision : Nat := 0x01

/-- FREE VALUE (log 14): the table field of the reply to a WRITE_TABLE or READ_TABLE request whose payload is too short to
hold a table number. R188 returns "the table number as received"; here none was received. -/
opaque absentTable : Bytes → Byte

/-- FREE VALUE (log 14): the index field of the reply to a WRITE_TABLE or READ_TABLE request whose payload is too short to
hold a first index. -/
opaque absentIndex : Bytes → BitVec 16

end Sys2Proof.Config
end

