-- ==== Sys2Proof/Machine/State.lean ====
section
/-! DEFINITION. The state of the part as plain data, one structure for each block, and the state right after power-on reset. -/

namespace Sys2Proof.Machine

/-! ## Names of the spec -/

/-- The show states (R32). -/
inductive ShowState where
  | idle | armed | preroll | playing | holding | stalled | ended | stopped
  deriving DecidableEq, Repr

/-- Why the show last entered STOPPED (R32). -/
inductive StopReason where
  | none | command | prerollTimeout | starved | emergency
  deriving DecidableEq, Repr

/-- Why the licence check barred a composition (R157, R159). -/
inductive BarReason where
  | none | notYet | expired | exhausted | timeUnset
  deriving DecidableEq, Repr

/-- What a track's parcels carry (01, section 1.2). -/
inductive TrackKind where
  | picture | soundMain | soundAux | subtitle
  deriving DecidableEq, Repr

/-- The eye code of a parcel (10.1); `noEye` is code $3. -/
inductive Eye where
  | mono | left | right | noEye
  deriving DecidableEq, Repr

/-- The eyes field of a composition (02, section 2.3). -/
inductive Eyes where
  | mono | stereo
  deriving DecidableEq, Repr

/-- The state of one entry of an arrival window (R56). -/
inductive Arrival where
  | absent | inProgress | complete | damaged
  deriving DecidableEq, Repr

/-- The two edges of an input (07, section 7.3). -/
inductive Edge where
  | falling | rising
  deriving DecidableEq, Repr

/-- The results of a request (R171). -/
inductive Result where
  | done | refusedState | refusedInUse | outOfRange | unknownTable | malformed
  deriving DecidableEq, Repr

/-- The event flags, in the order of their bits (R179, 10.3). -/
inductive Flag where
  | showState | compositionStart | compositionEnd | barred | counted | stall | emergency | overrun | pictureLoss
  | soundGap | subDrop | cueMark | cueNest | inputRefused | mgmtOverrun | logWrap | clip
  deriving DecidableEq, Repr

/-- The show commands that carry no operand (R34). -/
inductive ShowCommand where
  | start | hold | resume | skip | stop | clear
  deriving DecidableEq, Repr

/-! ## Tables -/

/-- One entry of table 1, the track table (R4). An absent language tag or channel count is `none`. -/
structure TrackEntry where
  valid    : Bool
  kind     : TrackKind
  slot     : Nat
  channels : Option Nat
  language : Option (BitVec 16)
  quota    : Nat
  deriving DecidableEq, Repr

/-- One slot of table 2, the composition table (R30). `sheet` holds the first entry and the count of the cue sheet. -/
structure Composition where
  valid      : Bool
  id         : BitVec 32
  rateCode   : Nat
  duration   : Nat
  countFrame : Nat
  tolerance  : Nat
  eyes       : Eyes
  licence    : Option Nat
  sheet      : Option (Nat × Nat)
  map        : Nat
  subtitle   : Option Nat
  fader      : Option Nat
  deriving DecidableEq, Repr

/-- One entry of table 3, the licence table (R155). `allowed = none` is UNLIMITED. -/
structure Licence where
  valid       : Bool
  id          : BitVec 32
  windowStart : Option Nat
  windowEnd   : Option Nat
  allowed     : Option Nat
  used        : Nat
  deriving DecidableEq, Repr

/-- One contribution of a lane recipe (R80). -/
structure Contribution where
  channel : Nat
  gain    : Nat
  invert  : Bool
  deriving DecidableEq, Repr

/-- One entry of table 4, the recipe of one lane in one map (R80). -/
structure Recipe where
  enabled       : Bool
  contributions : List Contribution
  deriving DecidableEq, Repr

/-- One entry of table 5, lane settings (R83). -/
structure LaneSetting where
  trim  : Nat
  delay : Nat
  deriving DecidableEq, Repr

/-- The mode of a pulse generator (R142). -/
inductive PulseMode where
  | single | repeating
  deriving DecidableEq, Repr

/-- The ten kinds of cue with their parameters (R123). `callMacro` is the kind MACRO. -/
inductive Cue where
  | empty
  | lineLevel (line : Nat) (level : Level)
  | linePulse (generator line : Nat) (mode : PulseMode) (count pulse space : Nat)
  | pulseStop (generator : Nat)
  | fader (target rate : Nat)
  | route (map : Nat)
  | subtitles (track : Option Nat)
  | callMacro (first length : Nat)
  | mark (tag : Nat)
  | holdShow
  deriving DecidableEq, Repr

/-- One entry of table 6, the cue store (R123). -/
structure CueEntry where
  trigger : Nat
  cue     : Cue
  deriving DecidableEq, Repr

/-- One entry of table 7, line settings (R139). A safety level of NONE is `none`. -/
structure LineSetting where
  idle   : Level
  safety : Option Level
  deriving DecidableEq, Repr

/-- The actions of an input (R146). `runMacro` is the action MACRO. -/
inductive InputAction where
  | nothing | start | hold | resume | stop | skip
  | runMacro (first length : Nat)
  | emergency
  deriving DecidableEq, Repr

/-- One entry of table 8, input actions (R146). -/
structure InputEntry where
  enabled  : Bool
  edge     : Edge
  debounce : Nat
  action   : InputAction
  deriving DecidableEq, Repr

/-- Table 10, show settings (R29). -/
structure ShowSettings where
  prerollDepth   : Nat
  prerollTimeout : Nat
  stallLimit     : Nat
  stallTimeout   : Nat
  resumeRate     : Nat
  flowInterval   : Nat
  idleRate       : Nat
  deriving DecidableEq, Repr

/-- The loaded tables. Tables 11 and 12 are views of other state and table 9 has no contents. -/
structure Tables where
  track       : List TrackEntry
  composition : List Composition
  licence     : List Licence
  routing     : List Recipe
  lane        : List LaneSetting
  cue         : List CueEntry
  line        : List LineSetting
  input       : List InputEntry
  settings    : ShowSettings
  deriving DecidableEq, Repr

/-! ## Reel link port, unpacker, cell pool -/

/-- The receive framing state (R1). -/
inductive Framing where
  | hunting | receiving
  deriving DecidableEq, Repr

/-- The reel link port and the counters of table 12's global entry (R1, R25). -/
structure Port where
  framing   : Framing
  crcErrors : Nat
  malformed : Nat
  fills     : Nat
  deriving DecidableEq, Repr

/-- A unit in assembly (01, section 1.3). `bytes` are the bytes its cells hold, so the byte count is their number. -/
structure Assembly where
  frame   : Nat
  eye     : Eye
  bytes   : Bytes
  cells   : Nat
  damaged : Bool
  deriving DecidableEq, Repr

/-- A complete sound unit in a unit queue (01, section 1.3). -/
structure SoundUnit where
  frame : Nat
  bytes : Bytes
  cells : Nat
  deriving DecidableEq, Repr

/-- The picture arrival windows of one track (R55). `main` is the MONO window, or the LEFT one of a STEREO track, whose RIGHT
window is `right`. The two always have the same base, which is held once. -/
structure Window where
  base  : Nat
  eyes  : Eyes
  main  : List Arrival
  right : List Arrival
  deriving DecidableEq, Repr

/-- The twelve counters of a track in table 12 (R25). -/
structure Counters where
  accepted      : Nat
  notScheduled  : Nat
  duplicates    : Nat
  gaps          : Nat
  damagedUnits  : Nat
  dropped       : Nat
  overruns      : Nat
  malformed     : Nat
  outOfOrder    : Nat
  pictureLate   : Nat
  pictureEarly  : Nat
  delivered     : Nat
  deriving DecidableEq, Repr

/-- The run state and the counters of one track (01, sections 1.3 and 1.10). -/
structure Track where
  expected  : Option Nat
  assembly  : Option Assembly
  queue     : List SoundUnit
  lastFrame : Option Nat
  cellsHeld : Nat
  window    : Option Window
  counters  : Counters
  deriving DecidableEq, Repr

/-! ## Show sequencer and show clock -/

/-- The show sequencer (R32). A stopped timer is `none`; position 0 means that no position is current; an absent playlist
is `[]`. -/
structure Sequencer where
  state        : ShowState
  playlist     : List Nat
  position     : Nat
  frame        : Nat
  cleared      : Bool
  prerollTimer : Option Nat
  stallTimer   : Option Nat
  reason       : StopReason
  deriving DecidableEq, Repr

/-- The show clock (R26, R27, R28). Unset booth time is `none`. -/
structure Clock where
  period    : Nat
  countdown : Nat
  msDivider : Nat
  secDivider : Nat
  booth     : Option Nat
  deriving DecidableEq, Repr

/-! ## Sound path -/

/-- The master fader (R91). -/
structure Fader where
  value  : Nat
  target : Nat
  rate   : Nat
  saved  : Nat
  muted  : Bool
  deriving DecidableEq, Repr

/-- One speaker lane: the samples left of the block in play and the delay in force for it, the delay line (newest first;
a value that is not listed is 0, log 19), the sample now on the lane, the peak meter and the clip count (R72, R89, R100, R101). -/
structure Lane where
  block : List Int
  delay : Nat
  line  : List Int
  out   : Int
  peak  : Nat
  clips : Nat
  deriving DecidableEq, Repr

/-- The sound path (04, opening). -/
structure Sound where
  activeMap : Nat
  fader     : Fader
  lanes     : List Lane
  deriving DecidableEq, Repr

/-! ## Subtitle engine -/

/-- A subtitle item (R102). Each holds 2 cells. -/
structure Item where
  id       : BitVec 16
  inFrame  : Nat
  outFrame : Nat
  region   : Nat
  fadeIn   : Nat
  fadeOut  : Nat
  text     : Bytes
  track    : Nat
  deriving DecidableEq, Repr

/-- An item in a region of the display set, with its last sent opacity (R107). -/
structure Shown where
  item    : Item
  opacity : Nat
  deriving DecidableEq, Repr

/-- The subtitle engine (R103). -/
structure Subtitles where
  schedule  : List Item
  regions   : List (Option Shown)
  active    : Option Nat
  refused   : Nat
  stale     : Nat
  late      : Nat
  preempted : Nat
  deriving DecidableEq, Repr

/-! ## Cue engine -/

/-- The sheet cursor with its sheet end (R125). -/
structure Cursor where
  next : Nat
  stop : Nat
  deriving DecidableEq, Repr

/-- A return point of the macro stack (R134): the sheet's work at the boundary, or a run with its next entry and the count of
its entries still to take. -/
inductive ReturnPoint where
  | sheet
  | run (next left : Nat)
  deriving DecidableEq, Repr

/-- The cue engine (R125). The newest return point is the head of `stack`. -/
structure CueEngine where
  cursor      : Option Cursor
  stack       : List ReturnPoint
  pendingHold : Bool
  lastMark    : Nat
  deriving DecidableEq, Repr

/-! ## Booth lines -/

/-- The phase of a pulse generator (R142). -/
inductive Phase where
  | idle | pulse | space
  deriving DecidableEq, Repr

/-- A pulse generator (R142). -/
structure Generator where
  phase      : Phase
  line       : Nat
  mode       : PulseMode
  pulse      : Nat
  space      : Nat
  pulsesLeft : Nat
  ticksLeft  : Nat
  deriving DecidableEq, Repr

/-- An input line (R147): its raw and debounced levels, and the debounce state, STABLE as `none` and PENDING with its count. -/
structure Input where
  raw       : InLevel
  debounced : InLevel
  waiting   : Option Nat
  deriving DecidableEq, Repr

/-- The booth lines (R140, R142, R147, R149). -/
structure Booth where
  cueLevels  : List Level
  generators : List Generator
  inputs     : List Input
  latch      : Bool
  deriving DecidableEq, Repr

/-! ## Licence and showing accounting -/

/-- The outcome of a showing record (R160). -/
inductive Outcome where
  | opened | counted | short | impaired
  | barred (reason : BarReason)
  deriving DecidableEq, Repr

/-- A showing record (R160). `counted` is the counted mark (10.5). -/
structure Record where
  number    : Nat
  id        : BitVec 32
  position  : Nat
  licence   : Option Nat
  startTime : Option Nat
  countTime : Option Nat
  presented : Nat
  repeated  : Nat
  impaired  : Bool
  counted   : Bool
  outcome   : Outcome
  deriving DecidableEq, Repr

/-- Licence and showing accounting (R159). The log holds its newest record first. -/
structure Accounting where
  log        : List Record
  nextNumber : Nat
  drops      : Nat
  lastBarred : BarReason
  deriving DecidableEq, Repr

/-! ## Management and reports -/

/-- A management request (R171, 10.3). `malformed` keeps the payload of a request that R171 refuses. -/
inductive Request where
  | writeTable (tag table : Byte) (index : BitVec 16) (count : Byte) (entries : Bytes)
  | readTable (tag table : Byte) (index : BitVec 16) (count : Byte)
  | arm (tag : Byte) (slots : Bytes)
  | showCommand (tag : Byte) (command : ShowCommand)
  | releaseEmergency (tag : Byte)
  | setClock (tag : Byte) (seconds : BitVec 32)
  | queryStatus (tag : Byte)
  | fetchShowings (tag : Byte) (n : BitVec 32)
  | trimShowings (tag : Byte) (n : BitVec 32)
  | setEventEnables (tag : Byte) (bits : BitVec 24)
  | clearEvents (tag : Byte) (bits : BitVec 24)
  | warmReset (tag : Byte)
  | malformed (payload : Bytes)
  deriving DecidableEq, Repr

/-- The kinds of upstream parcel (10.1). -/
inductive UpKind where
  | reply | event | flow
  deriving DecidableEq, Repr

/-- An upstream parcel: its kind and its payload (10.3). -/
structure UpParcel where
  kind    : UpKind
  payload : Bytes
  deriving DecidableEq, Repr

/-- Management and reports (R170, R179 to R183). `slots` are the parcels in the reply-and-flow slots, oldest first; `lane` is
the parcel being sent, `none` when the lane is IDLE; `reserved` says that the request being executed has reserved its slot. -/
structure Mgmt where
  requests  : List Request
  flags     : BitVec 17
  enables   : BitVec 17
  flowCount : Nat
  eventSlot : Option Bytes
  slots     : List UpParcel
  reserved  : Bool
  lane      : Option UpParcel
  deriving DecidableEq, Repr

/-! ## Projector link -/

/-- A record of the projector link (R64, R119, 10.6). -/
inductive LinkRecord where
  | picture (track : Nat) (first last : Bool) (eye : Eye) (frame : Nat) (payload : Bytes)
  | showFrame (track frame : Nat)
  | repeatFrame (track frame : Nat)
  | hold
  | black
  | showItem (region track : Nat) (id : BitVec 16) (opacity : Nat) (text : Bytes)
  | setOpacity (region opacity : Nat)
  | clearRegion (region : Nat)
  deriving DecidableEq, Repr

/-! ## The state -/

/-- The state of the part. `link` (every record handed to the projector link so far, oldest first) and `pending` (the commands
that wait) are the model's own; all else is the spec's. -/
structure State where
  tables    : Tables
  port      : Port
  tracks    : List Track
  freeCells : Nat
  seq       : Sequencer
  clk       : Clock
  repeats   : Nat
  snd       : Sound
  sub       : Subtitles
  cue       : CueEngine
  booth     : Booth
  acct      : Accounting
  mgmt      : Mgmt
  link      : List LinkRecord
  inReset   : Bool
  pending   : List Instr
  deriving DecidableEq, Repr

/-- The faults of the part: none. Nothing in the spec stops the part, so no command raises a fault (log 23). -/
inductive Fault where
  deriving DecidableEq, Repr

/-- The refusals of the model. -/
inductive Refusal where
  /-- Raised by `exec` for a command that has no meaning yet; safe. Every command has one, so nothing raises it. -/
  | notModelled (mnemonic : String)
  deriving DecidableEq, Repr

/-! ## Power-on values -/

/-- The invalid entry of table 1 (R4). -/
def TrackEntry.invalid : TrackEntry :=
  { valid := false, kind := .picture, slot := 0, channels := none, language := none, quota := 0 }

/-- The invalid slot of table 2 (R30). -/
def Composition.invalid : Composition :=
  { valid := false, id := 0, rateCode := 0, duration := 1, countFrame := 0, tolerance := 0, eyes := .mono,
    licence := none, sheet := none, map := 0, subtitle := none, fader := none }

/-- The invalid entry of table 3 (R155). -/
def Licence.invalid : Licence :=
  { valid := false, id := 0, windowStart := none, windowEnd := none, allowed := some 0, used := 0 }

/-- A recipe after power-on reset (R80). -/
def Recipe.off : Recipe := { enabled := false, contributions := [] }

/-- Lane settings after power-on reset (R83). -/
def LaneSetting.off : LaneSetting := { trim := 0, delay := 0 }

/-- A cue-store entry after power-on reset (R123). -/
def CueEntry.blank : CueEntry := { trigger := 0, cue := .empty }

/-- A line's settings after power-on reset (R139). -/
def LineSetting.off : LineSetting := { idle := .release, safety := none }

/-- Entries 1 to 7 of table 8 after power-on reset (R146). -/
def InputEntry.off : InputEntry := { enabled := false, edge := .falling, debounce := 0, action := .nothing }

/-- Entry 0 of table 8 after power-on reset: the fire-alarm contact (R146). -/
def InputEntry.alarm : InputEntry := { enabled := true, edge := .falling, debounce := 10, action := .emergency }

/-- Table 10 after power-on reset (R29, 02 section 2.2). -/
def ShowSettings.defaults : ShowSettings :=
  { prerollDepth := 8, prerollTimeout := 30, stallLimit := 12, stallTimeout := 20, resumeRate := 4096, flowInterval := 8,
    idleRate := 0 }

/-- The tables after power-on reset. -/
def Tables.powerOn : Tables :=
  { track := List.replicate 32 TrackEntry.invalid
    composition := List.replicate 8 Composition.invalid
    licence := List.replicate 16 Licence.invalid
    routing := List.replicate 192 Recipe.off
    lane := List.replicate 24 LaneSetting.off
    cue := List.replicate 512 CueEntry.blank
    line := List.replicate 16 LineSetting.off
    input := InputEntry.alarm :: List.replicate 7 InputEntry.off
    settings := ShowSettings.defaults }

/-- Counters at 0 (R25). -/
def Counters.zero : Counters :=
  { accepted := 0, notScheduled := 0, duplicates := 0, gaps := 0, damagedUnits := 0, dropped := 0, overruns := 0,
    malformed := 0, outOfOrder := 0, pictureLate := 0, pictureEarly := 0, delivered := 0 }

/-- An empty run state with counters at 0 (R6, R25). -/
def Track.empty : Track :=
  { expected := none, assembly := none, queue := [], lastFrame := none, cellsHeld := 0, window := none,
    counters := Counters.zero }

/-- The sequencer after each reset (R32). -/
def Sequencer.reset : Sequencer :=
  { state := .idle, playlist := [], position := 0, frame := 0, cleared := false, prerollTimer := none, stallTimer := none,
    reason := .none }

/-- The clock when power-on reset ends: P and the countdown are 2000 (R26), the dividers 0 (R27), booth time unset (R28). -/
def Clock.powerOn : Clock := { period := 2000, countdown := 2000, msDivider := 0, secDivider := 0, booth := none }

/-- The master fader after power-on reset, with the mute latch as the emergency latch is (R91). -/
def Fader.powerOn (latch : Bool) : Fader := { value := 0, target := 0, rate := 4096, saved := 0, muted := latch }

/-- A lane when power-on reset ends: a silent block of 2000 samples is in play (R73), its delay line holds zeros (R89). -/
def Lane.powerOn : Lane := { block := List.replicate 2000 0, delay := 0, line := [], out := 0, peak := 0, clips := 0 }

/-- The sound path when power-on reset ends (R82, R91). -/
def Sound.powerOn (latch : Bool) : Sound :=
  { activeMap := 0, fader := Fader.powerOn latch, lanes := List.replicate 24 Lane.powerOn }

/-- The subtitle engine after each reset (R103). -/
def Subtitles.reset : Subtitles :=
  { schedule := [], regions := List.replicate 4 none, active := none, refused := 0, stale := 0, late := 0, preempted := 0 }

/-- The cue engine after each reset (R125). -/
def CueEngine.reset : CueEngine := { cursor := none, stack := [], pendingHold := false, lastMark := 0 }

/-- An IDLE generator (R142). Its other parts are not read: DESIGN CHOICE (log 17). -/
def Generator.off : Generator :=
  { phase := .idle, line := 0, mode := .single, pulse := 0, space := 0, pulsesLeft := 0, ticksLeft := 0 }

/-- An input when power-on reset ends: its debounced level is its raw level, STABLE (R147). -/
def Input.powerOn (raw : InLevel) : Input := { raw := raw, debounced := raw, waiting := none }

/-- The booth lines when power-on reset ends with these raw levels on the inputs (R140, R142, R147). The latch is set when
input 0, whose entry is the EMERGENCY entry of power-on, reads LOW (R149, R150). -/
def Booth.powerOn (raw : List InLevel) : Booth :=
  { cueLevels := List.replicate 16 .release
    generators := List.replicate 4 Generator.off
    inputs := raw.map Input.powerOn
    latch := raw[0]? = some .low }

/-- Accounting after power-on reset (R159). -/
def Accounting.powerOn : Accounting := { log := [], nextNumber := 1, drops := 0, lastBarred := .none }

/-- Management after power-on reset (R170, R179 to R183). EMERGENCY, bit 6, is set when the reset ends with the latch set. -/
def Mgmt.powerOn (latch : Bool) : Mgmt :=
  { requests := [], flags := if latch then 0x40 else 0, enables := 0, flowCount := 0, eventSlot := none, slots := [],
    reserved := false, lane := none }

/-- The part when power-on reset ends with these raw levels on its inputs. The BLACK that ends the reset joins the records
already on the projector link (R67). -/
def State.powerOn (raw : List InLevel) (link : List LinkRecord) (pending : List Instr) : State :=
  { tables := Tables.powerOn
    port := { framing := .hunting, crcErrors := 0, malformed := 0, fills := 0 }
    tracks := List.replicate 32 Track.empty
    freeCells := Config.poolCells
    seq := Sequencer.reset
    clk := Clock.powerOn
    repeats := 0
    snd := Sound.powerOn (Booth.powerOn raw).latch
    sub := Subtitles.reset
    cue := CueEngine.reset
    booth := Booth.powerOn raw
    acct := Accounting.powerOn
    mgmt := Mgmt.powerOn (Booth.powerOn raw).latch
    link := link ++ [.black]
    inReset := false
    pending := pending }

/-- The machine right after power-on reset, with every input HIGH, as an input with nothing connected reads (log 8). -/
def State.reset : State := State.powerOn (List.replicate 8 .high) [] []

end Sys2Proof.Machine
end

