-- ==== Sys2Proof/Machine/Operands.lean ====
section
/-! DEFINITION. The byte layouts of 10_encodings.md: fields, codes, the check word, downstream parcels, requests, table entries,
showing records, upstream parcels and projector-link records. Nothing here reads the state of the part. -/

namespace Sys2Proof.Machine

/-! ## Fields -/

/-- A field of `k` bytes, most significant byte first (10, opening). -/
def be : Nat → Nat → Bytes
  | 0, _ => []
  | k + 1, n => BitVec.ofNat 8 (n / 256 ^ k) :: be k n

/-- The number that a field holds, most significant byte first. -/
def beNat (b : Bytes) : Nat := b.foldl (fun a x => a * 256 + x.toNat) 0

/-- The number in the `len` bytes from offset `off`. -/
def field (b : Bytes) (off len : Nat) : Nat := beNat ((b.drop off).take len)

/-- Bit `i` of the byte at offset `off`. -/
def bitAt (b : Bytes) (off i : Nat) : Bool := (b.getD off 0).getLsbD i

/-- One byte whose bits are these, bit 0 first. -/
def bits (l : List Bool) : Byte := BitVec.ofNat 8 (l.foldr (fun x a => x.toNat + 2 * a) 0)

/-- The code of a yes/no, clear/set or latch field (10.3). -/
def boolByte (b : Bool) : Byte := if b then 1 else 0

/-- A value if it is present. -/
def ifPresent {α : Type} (p : Bool) (a : α) : Option α := if p then some a else none

/-- An optional field's value bytes: 0 when it is absent (R187). -/
def optField (k : Nat) (o : Option Nat) : Bytes := be k (o.getD 0)

/-! ## Codes (10.3) -/

def ShowState.code : ShowState → Byte
  | .idle => 0 | .armed => 1 | .preroll => 2 | .playing => 3 | .holding => 4 | .stalled => 5 | .ended => 6 | .stopped => 7

def StopReason.code : StopReason → Byte
  | .none => 0 | .command => 1 | .prerollTimeout => 2 | .starved => 3 | .emergency => 4

def BarReason.code : BarReason → Byte
  | .none => 0 | .notYet => 1 | .expired => 2 | .exhausted => 3 | .timeUnset => 4

def Result.code : Result → Byte
  | .done => 0 | .refusedState => 1 | .refusedInUse => 2 | .outOfRange => 3 | .unknownTable => 4 | .malformed => 5

def Eye.code : Eye → Byte
  | .mono => 0 | .left => 1 | .right => 2 | .noEye => 3

/-- The bit of a flag in the flag and enable fields (10.3). -/
def Flag.bit : Flag → Nat
  | .showState => 0 | .compositionStart => 1 | .compositionEnd => 2 | .barred => 3 | .counted => 4 | .stall => 5
  | .emergency => 6 | .overrun => 7 | .pictureLoss => 8 | .soundGap => 9 | .subDrop => 10 | .cueMark => 11 | .cueNest => 12
  | .inputRefused => 13 | .mgmtOverrun => 14 | .logWrap => 15 | .clip => 16

/-! ## The check word (R185) -/

/-- `n` steps of the CRC-16 with generator $1021, most significant bit first. -/
def crcBits : Nat → BitVec 16 → BitVec 16
  | 0, c => c
  | n + 1, c => crcBits n (if c.getLsbD 15 then (c <<< 1) ^^^ 0x1021#16 else c <<< 1)

/-- One byte of the CRC-16. -/
def crcByte (c : BitVec 16) (b : Byte) : BitVec 16 := crcBits 8 (c ^^^ ((b.setWidth 16) <<< 8))

/-- CRC-16: initial value $FFFF, no reflection, no final inversion (R185). -/
def crc16 (b : Bytes) : BitVec 16 := b.foldl crcByte 0xFFFF#16

/-- Bytes followed by their check word, high byte first (R185). -/
def withCheck (b : Bytes) : Bytes := b ++ be 2 (crc16 b).toNat

/-! ## Downstream parcels (10.1) -/

/-- The kinds of downstream parcel; `unknown` is a kind code that holds none of the three (R3, R185). -/
inductive ParcelKind where
  | essence | mgmt | fill | unknown
  deriving DecidableEq, Repr

/-- A parcel that has passed R2. -/
structure Parcel where
  kind     : ParcelKind
  track    : Nat
  first    : Bool
  last     : Bool
  eye      : Eye
  sequence : Nat
  frame    : Nat
  payload  : Bytes
  deriving DecidableEq, Repr

/-- The kind field: bits 7 to 5 of byte 0. -/
def ParcelKind.ofCode (n : Nat) : ParcelKind :=
  if n = 1 then .essence else if n = 2 then .mgmt else if n = 3 then .fill else .unknown

/-- The eye field: bits 5 and 4 of byte 1. -/
def Eye.ofCode (n : Nat) : Eye :=
  if n = 0 then .mono else if n = 1 then .left else if n = 2 then .right else .noEye

/-- What the integrity checks of R2 find. -/
inductive Integrity where
  | malformed
  | crcError
  | good (p : Parcel)
  deriving DecidableEq, Repr

/-- The fields of a parcel of `len` payload bytes (10.1). -/
def readParcel (b : Bytes) (len : Nat) : Parcel :=
  { kind := ParcelKind.ofCode ((b.getD 0 0).toNat / 32)
    track := (b.getD 0 0).toNat % 32
    first := bitAt b 1 7
    last := bitAt b 1 6
    eye := Eye.ofCode ((b.getD 1 0).toNat / 16 % 4)
    sequence := field b 2 2
    frame := field b 4 3
    payload := (b.drop Config.headerBytes).take len }

/-- The integrity checks of R2, in order. Bytes after the check word are ignored. -/
def checkParcel (b : Bytes) : Integrity :=
  if b.length < Config.headerBytes then .malformed
  else if Config.maxPayload < field b 8 2 then .malformed
  else if b.length < Config.headerBytes + field b 8 2 + 2 then .malformed
  else if field b (Config.headerBytes + field b 8 2) 2 ≠ (crc16 (b.take (Config.headerBytes + field b 8 2))).toNat then .crcError
  else .good (readParcel b (field b 8 2))

/-! ## Requests (10.3) -/

/-- The codes of the request kinds. -/
def Request.kindCode : Request → Byte
  | .writeTable .. => 0x01 | .readTable .. => 0x02 | .arm .. => 0x03 | .showCommand .. => 0x03 | .releaseEmergency _ => 0x03
  | .setClock .. => 0x04 | .queryStatus _ => 0x05 | .fetchShowings .. => 0x06 | .trimShowings .. => 0x07
  | .setEventEnables .. => 0x08 | .clearEvents .. => 0x09 | .warmReset _ => 0x0A
  | .malformed payload => match payload with
    | kind :: _ :: _ => kind
    | _ => 0

/-- The tag a reply returns (R171): 0 when the payload is too short to hold a kind and a tag. -/
def Request.tag : Request → Byte
  | .writeTable tag .. => tag | .readTable tag .. => tag | .arm tag _ => tag | .showCommand tag _ => tag
  | .releaseEmergency tag => tag | .setClock tag _ => tag | .queryStatus tag => tag | .fetchShowings tag _ => tag
  | .trimShowings tag _ => tag | .setEventEnables tag _ => tag | .clearEvents tag _ => tag | .warmReset tag => tag
  | .malformed payload => match payload with
    | _ :: tag :: _ => tag
    | _ => 0

/-- The show commands by their action codes. -/
def ShowCommand.code : ShowCommand → Byte
  | .start => 1 | .hold => 2 | .resume => 3 | .skip => 4 | .stop => 5 | .clear => 6

/-- The payload of a request (10.3). -/
def Request.encode : Request → Bytes
  | .writeTable tag table index count entries => [0x01, tag, table] ++ be 2 index.toNat ++ [count] ++ entries
  | .readTable tag table index count => [0x02, tag, table] ++ be 2 index.toNat ++ [count]
  | .arm tag slots => [0x03, tag, 0x00, BitVec.ofNat 8 slots.length] ++ slots
  | .showCommand tag c => [0x03, tag, c.code]
  | .releaseEmergency tag => [0x03, tag, 0x07]
  | .setClock tag seconds => [0x04, tag] ++ be 4 seconds.toNat
  | .queryStatus tag => [0x05, tag]
  | .fetchShowings tag n => [0x06, tag] ++ be 4 n.toNat
  | .trimShowings tag n => [0x07, tag] ++ be 4 n.toNat
  | .setEventEnables tag m => [0x08, tag] ++ be 3 m.toNat
  | .clearEvents tag m => [0x09, tag] ++ be 3 m.toNat
  | .warmReset tag => [0x0A, tag]
  | .malformed payload => payload

/-- A SHOW body (10.3): an action, and for ARM a count and exactly that many slot numbers. -/
def parseShow (tag : Byte) (body : Bytes) : Option Request :=
  match body with
  | action :: rest =>
    if action = 0 then
      match rest with
      | n :: slots => if slots.length = n.toNat then some (.arm tag slots) else none
      | [] => none
    else if rest ≠ [] then none
    else if action = 1 then some (.showCommand tag .start)
    else if action = 2 then some (.showCommand tag .hold)
    else if action = 3 then some (.showCommand tag .resume)
    else if action = 4 then some (.showCommand tag .skip)
    else if action = 5 then some (.showCommand tag .stop)
    else if action = 6 then some (.showCommand tag .clear)
    else if action = 7 then some (.releaseEmergency tag)
    else none
  | [] => none

/-- The request of a kind and a body; none where R171 refuses it with MALFORMED. The entries of a WRITE_TABLE are judged later,
by R173. -/
def parseBody (kind tag : Byte) (body : Bytes) : Option Request :=
  if kind = 1 then
    match body with
    | table :: i1 :: i0 :: count :: entries => some (.writeTable tag table (BitVec.ofNat 16 (beNat [i1, i0])) count entries)
    | _ => none
  else if kind = 2 then
    match body with
    | [table, i1, i0, count] => some (.readTable tag table (BitVec.ofNat 16 (beNat [i1, i0])) count)
    | _ => none
  else if kind = 3 then parseShow tag body
  else if kind = 4 then if body.length = 4 then some (.setClock tag (BitVec.ofNat 32 (beNat body))) else none
  else if kind = 5 then if body = [] then some (.queryStatus tag) else none
  else if kind = 6 then if body.length = 4 then some (.fetchShowings tag (BitVec.ofNat 32 (beNat body))) else none
  else if kind = 7 then if body.length = 4 then some (.trimShowings tag (BitVec.ofNat 32 (beNat body))) else none
  else if kind = 8 then if body.length = 3 then some (.setEventEnables tag (BitVec.ofNat 24 (beNat body))) else none
  else if kind = 9 then if body.length = 3 then some (.clearEvents tag (BitVec.ofNat 24 (beNat body))) else none
  else if kind = 10 then if body = [] then some (.warmReset tag) else none
  else none

/-- The request that a MGMT payload carries (R171). -/
def parseRequest (payload : Bytes) : Request :=
  match payload with
  | kind :: tag :: body => (parseBody kind tag body).getD (.malformed payload)
  | _ => .malformed payload

/-- Is this payload one that R171 refuses with MALFORMED? -/
def payloadMalformed (payload : Bytes) : Bool := parseRequest payload = .malformed payload

/-! ## Table entries (10.4, R186) -/

/-- The last index of a table; none for a number that names no table (R172). -/
def tableEntries (table : Nat) : Option Nat :=
  match table with
  | 1 => some 32 | 2 => some 8 | 3 => some 16 | 4 => some 192 | 5 => some 24 | 6 => some 512 | 7 => some 16 | 8 => some 8
  | 10 => some 1 | 11 => some 24 | 12 => some 33
  | _ => none

/-- The size of a table's entries in bytes (10.4). -/
def entrySize (table : Nat) : Nat :=
  match table with
  | 1 => 8 | 2 => 24 | 3 => 18 | 4 => 13 | 5 => 4 | 6 => 12 | 7 => 2 | 8 => 6 | 10 => 8 | 11 => 5 | 12 => 26
  | _ => 0

/-- The entries of a table that fit in one reply: floor(1017 / size) (10.4). -/
def entriesPerReply (table : Nat) : Nat := 1017 / entrySize table

/-- A decoded table entry. -/
inductive Entry where
  | track (e : TrackEntry)
  | composition (e : Composition)
  | licence (e : Licence)
  | routing (e : Recipe)
  | lane (e : LaneSetting)
  | cue (e : CueEntry)
  | line (e : LineSetting)
  | input (e : InputEntry)
  | settings (e : ShowSettings)
  deriving DecidableEq, Repr

/-- Table 1's kind codes. -/
def TrackKind.ofCode (n : Nat) : TrackKind :=
  if n = 0 then .picture else if n = 1 then .soundMain else if n = 2 then .soundAux else .subtitle

def TrackKind.code : TrackKind → Nat
  | .picture => 0 | .soundMain => 1 | .soundAux => 2 | .subtitle => 3

def TrackKind.isSound : TrackKind → Bool
  | .soundMain => true | .soundAux => true | .picture => false | .subtitle => false

/-- Is a channel count in the range of its kind (01, section 1.2)? An absent one is. -/
def channelsInRange (kind : TrackKind) (channels : Option Nat) : Bool :=
  match kind, channels with
  | .soundMain, some n => 1 ≤ n ∧ n ≤ 16
  | .soundAux, some n => 1 ≤ n ∧ n ≤ 8
  | _, _ => true

/-- The fields of a valid table 1 entry as its bytes hold them. -/
def rawTrack (b : Bytes) : TrackEntry :=
  { valid := true
    kind := TrackKind.ofCode (field b 0 1 % 4)
    slot := field b 1 1
    channels := ifPresent (bitAt b 0 6) (field b 2 1)
    language := ifPresent (bitAt b 0 5) (BitVec.ofNat 16 (field b 4 2))
    quota := field b 6 2 }

/-- R5's checks on the contents of a valid entry: MALFORMED first, then OUT_OF_RANGE (R173). -/
def TrackEntry.judge (e : TrackEntry) : Option Result :=
  if e.kind.isSound ≠ e.channels.isSome then some .malformed
  else if e.language.isSome ∧ e.kind ≠ .subtitle then some .malformed
  else if 7 < e.slot ∨ 8192 < e.quota then some .outOfRange
  else if channelsInRange e.kind e.channels = false then some .outOfRange
  else none

/-- The fields of a valid table 2 slot as its bytes hold them (R186). -/
def rawComposition (b : Bytes) : Composition :=
  { valid := true
    id := BitVec.ofNat 32 (field b 2 4)
    rateCode := field b 1 1
    duration := field b 6 3
    countFrame := field b 9 3
    tolerance := field b 12 2
    eyes := if bitAt b 0 0 then .stereo else .mono
    licence := ifPresent (bitAt b 0 6) (field b 14 1)
    sheet := ifPresent (bitAt b 0 5) (field b 16 2, field b 18 2)
    map := field b 15 1
    subtitle := ifPresent (bitAt b 0 4) (field b 20 1)
    fader := ifPresent (bitAt b 0 3) (field b 22 2) }

/-- R31's checks on the contents of a valid slot: is every field within its range? -/
def Composition.inRange (e : Composition) : Bool :=
  e.rateCode ≤ 7 ∧ 1 ≤ e.duration ∧ e.countFrame < e.duration ∧ e.licence.all (· ≤ 15) ∧
  e.sheet.all (fun x => x.1 ≤ 511 ∧ 1 ≤ x.2 ∧ x.2 ≤ 512 ∧ x.1 + x.2 ≤ 512) ∧ e.map ≤ 7 ∧
  e.subtitle.all (fun t => 1 ≤ t ∧ t ≤ 31) ∧ e.fader.all (· ≤ 32768)

/-- The fields of a valid table 3 entry as its bytes hold them (R186). -/
def rawLicence (b : Bytes) : Licence :=
  { valid := true
    id := BitVec.ofNat 32 (field b 2 4)
    windowStart := ifPresent (bitAt b 0 6) (field b 6 4)
    windowEnd := ifPresent (bitAt b 0 5) (field b 10 4)
    allowed := ifPresent (!bitAt b 0 4) (field b 14 2)
    used := field b 16 2 }

/-- R156's checks on the contents of a valid entry. -/
def Licence.inRange (e : Licence) : Bool :=
  e.allowed.all (· ≤ 65534) &&
  (match e.windowStart, e.windowEnd with
   | some a, some z => decide (a < z)
   | _, _ => true)

/-- The first `n` contributions of a table 4 entry. -/
def rawContributions (b : Bytes) : Nat → List Contribution
  | 0 => []
  | n + 1 => rawContributions b n ++
    [{ channel := field b (1 + 3 * n) 1 % 32, gain := field b (2 + 3 * n) 2, invert := bitAt b (1 + 3 * n) 7 }]

/-- A table 6 entry's cue from its kind code, or none where a parameter is outside its range (R123, R186). -/
def rawCue (b : Bytes) : Option Cue :=
  let kind := field b 0 1
  if kind = 0 then some .empty
  else if kind = 1 then
    if field b 4 1 ≤ 15 ∧ field b 5 1 ≤ 1 then
      some (.lineLevel (field b 4 1) (if field b 5 1 = 1 then .assert else .release))
    else none
  else if kind = 2 then
    if field b 4 1 ≤ 3 ∧ field b 5 1 ≤ 15 ∧ field b 6 1 ≤ 1 ∧ 1 ≤ field b 8 2 ∧ 1 ≤ field b 10 2 then
      some (.linePulse (field b 4 1) (field b 5 1) (if field b 6 1 = 1 then .repeating else .single) (field b 7 1)
        (field b 8 2) (field b 10 2))
    else none
  else if kind = 3 then if field b 4 1 ≤ 3 then some (.pulseStop (field b 4 1)) else none
  else if kind = 4 then
    if field b 4 2 ≤ 32768 ∧ 1 ≤ field b 6 2 then some (.fader (field b 4 2) (field b 6 2)) else none
  else if kind = 5 then if field b 4 1 ≤ 7 then some (.route (field b 4 1)) else none
  else if kind = 6 then
    if field b 4 1 = 0 then some (.subtitles none)
    else if field b 4 1 = 1 ∧ 1 ≤ field b 5 1 ∧ field b 5 1 ≤ 31 then some (.subtitles (some (field b 5 1)))
    else none
  else if kind = 7 then
    if field b 4 2 ≤ 511 ∧ 1 ≤ field b 6 1 ∧ field b 6 1 ≤ 16 ∧ field b 4 2 + field b 6 1 ≤ 512 then
      some (.callMacro (field b 4 2) (field b 6 1))
    else none
  else if kind = 8 then some (.mark (field b 4 2))
  else some .holdShow

/-- The entry that table 6 stores for a cue written with this trigger: an EMPTY cue clears the entry, whose trigger is then 0 (R124). -/
def CueEntry.stored (trigger : Nat) (c : Cue) : CueEntry := { trigger := if c = .empty then 0 else trigger, cue := c }

/-- Table 8's action, or none where its macro is outside its range. The macro bytes are read for MACRO alone (R186). -/
def rawAction (b : Bytes) : Option InputAction :=
  let code := field b 2 1
  if code = 0 then some .nothing
  else if code = 1 then some .start
  else if code = 2 then some .hold
  else if code = 3 then some .resume
  else if code = 4 then some .stop
  else if code = 5 then some .skip
  else if code = 6 then
    if field b 3 2 ≤ 511 ∧ 1 ≤ field b 5 1 ∧ field b 5 1 ≤ 16 ∧ field b 3 2 + field b 5 1 ≤ 512 then
      some (.runMacro (field b 3 2) (field b 5 1))
    else none
  else some .emergency

/-- Table 10's fields. -/
def rawSettings (b : Bytes) : ShowSettings :=
  { prerollDepth := field b 0 1, prerollTimeout := field b 1 1, stallLimit := field b 2 1, stallTimeout := field b 3 1,
    resumeRate := field b 4 2, flowInterval := field b 6 1, idleRate := field b 7 1 }

/-- R29's ranges. -/
def ShowSettings.inRange (e : ShowSettings) : Bool :=
  1 ≤ e.prerollDepth ∧ e.prerollDepth ≤ 32 ∧ 1 ≤ e.prerollTimeout ∧ e.prerollTimeout ≤ 255 ∧ 1 ≤ e.stallLimit ∧
  e.stallLimit ≤ 255 ∧ 1 ≤ e.stallTimeout ∧ e.stallTimeout ≤ 255 ∧ 1 ≤ e.resumeRate ∧ e.resumeRate ≤ 65535 ∧
  1 ≤ e.flowInterval ∧ e.flowInterval ≤ 255 ∧ e.idleRate ≤ 7

/-- Decoding one table entry together with the checks on its contents, in the order of R173: those that name MALFORMED, then
those that name OUT_OF_RANGE. An entry of tables 1 to 3 written with valid no is stored as the invalid entry whatever else it
holds (R5, R31, R156). -/
def decodeEntry (table : Nat) (b : Bytes) : Except Result Entry :=
  match table with
  | 1 =>
    if bitAt b 0 7 then
      match (rawTrack b).judge with
      | some r => .error r
      | none => .ok (.track (rawTrack b))
    else .ok (.track TrackEntry.invalid)
  | 2 =>
    if bitAt b 0 7 then
      if (rawComposition b).inRange then .ok (.composition (rawComposition b)) else .error .outOfRange
    else .ok (.composition Composition.invalid)
  | 3 =>
    if bitAt b 0 7 then
      if (rawLicence b).inRange then .ok (.licence (rawLicence b)) else .error .outOfRange
    else .ok (.licence Licence.invalid)
  | 4 =>
    if 4 < field b 0 1 % 8 then .error .malformed
    else if (rawContributions b (field b 0 1 % 8)).all (fun c => c.channel ≤ 23) then
      .ok (.routing { enabled := bitAt b 0 7, contributions := rawContributions b (field b 0 1 % 8) })
    else .error .outOfRange
  | 5 =>
    if field b 0 2 ≤ 32768 ∧ field b 2 2 ≤ 2047 then .ok (.lane { trim := field b 0 2, delay := field b 2 2 })
    else .error .outOfRange
  | 6 =>
    if 9 < field b 0 1 then .error .malformed
    else
      match rawCue b with
      | some c => .ok (.cue (CueEntry.stored (field b 1 3) c))
      | none => .error .outOfRange
  | 7 =>
    if field b 0 1 ≤ 1 ∧ field b 1 1 ≤ 2 then
      .ok (.line { idle := if field b 0 1 = 1 then .assert else .release
                   safety := if field b 1 1 = 0 then none else some (if field b 1 1 = 1 then .assert else .release) })
    else .error .outOfRange
  | 8 =>
    if 7 < field b 2 1 then .error .malformed
    else
      match rawAction b with
      | some a =>
        .ok (.input { enabled := bitAt b 0 7, edge := if bitAt b 0 0 then .rising else .falling, debounce := field b 1 1,
                      action := a })
      | none => .error .outOfRange
  | 10 => if (rawSettings b).inRange then .ok (.settings (rawSettings b)) else .error .outOfRange
  | _ => .error .unknownTable

/-- The bytes of a cue's parameters from offset 4 (10.4), with zeros after them (R187). -/
def Cue.parameters : Cue → Bytes
  | .empty => be 8 0
  | .lineLevel line level => be 1 line ++ be 1 (if level = .assert then 1 else 0) ++ be 6 0
  | .linePulse g line mode count pulse space =>
    be 1 g ++ be 1 line ++ be 1 (if mode = .repeating then 1 else 0) ++ be 1 count ++ be 2 pulse ++ be 2 space
  | .pulseStop g => be 1 g ++ be 7 0
  | .fader target rate => be 2 target ++ be 2 rate ++ be 4 0
  | .route map => be 1 map ++ be 7 0
  | .subtitles track => be 1 (if track.isSome then 1 else 0) ++ optField 1 track ++ be 6 0
  | .callMacro first length => be 2 first ++ be 1 length ++ be 5 0
  | .mark tag => be 2 tag ++ be 6 0
  | .holdShow => be 8 0

/-- The kind code of a cue (10.4). -/
def Cue.code : Cue → Nat
  | .empty => 0 | .lineLevel .. => 1 | .linePulse .. => 2 | .pulseStop _ => 3 | .fader .. => 4 | .route _ => 5
  | .subtitles _ => 6 | .callMacro .. => 7 | .mark _ => 8 | .holdShow => 9

/-- The action code of an input action (10.4). -/
def InputAction.code : InputAction → Nat
  | .nothing => 0 | .start => 1 | .hold => 2 | .resume => 3 | .stop => 4 | .skip => 5 | .runMacro .. => 6 | .emergency => 7

/-- A contribution's three bytes. -/
def Contribution.encode (c : Contribution) : Bytes := be 1 (c.channel + if c.invert then 128 else 0) ++ be 2 c.gain

/-- The bytes of a table entry, as a READ_TABLE returns it (10.4, R187). DEDUCED (log 29): the allowed bytes of a table 3 entry whose
UNLIMITED bit is set are sent as 0, as unused bytes are. -/
def encodeEntry : Entry → Bytes
  | .track e =>
    [bits [decide (e.kind.code % 2 = 1), decide (e.kind.code / 2 = 1), false, false, false, e.language.isSome, e.channels.isSome,
      e.valid]] ++ be 1 e.slot ++ optField 1 e.channels ++ [0] ++ be 2 ((e.language.map BitVec.toNat).getD 0) ++ be 2 e.quota
  | .composition e =>
    [bits [decide (e.eyes = .stereo), false, false, e.fader.isSome, e.subtitle.isSome, e.sheet.isSome, e.licence.isSome,
      e.valid]] ++ be 1 e.rateCode ++ be 4 e.id.toNat ++ be 3 e.duration ++ be 3 e.countFrame ++ be 2 e.tolerance ++
      optField 1 e.licence ++ be 1 e.map ++ optField 2 (e.sheet.map Prod.fst) ++ optField 2 (e.sheet.map Prod.snd) ++
      optField 1 e.subtitle ++ [0] ++ optField 2 e.fader
  | .licence e =>
    [bits [false, false, false, false, e.allowed.isNone, e.windowEnd.isSome, e.windowStart.isSome, e.valid]] ++ [0] ++
      be 4 e.id.toNat ++ optField 4 e.windowStart ++ optField 4 e.windowEnd ++ optField 2 e.allowed ++ be 2 e.used
  | .routing e =>
    be 1 (e.contributions.length + if e.enabled then 128 else 0) ++ e.contributions.flatMap Contribution.encode ++
      be (12 - 3 * e.contributions.length) 0
  | .lane e => be 2 e.trim ++ be 2 e.delay
  | .cue e => be 1 e.cue.code ++ be 3 e.trigger ++ e.cue.parameters
  | .line e =>
    [if e.idle = .assert then 1 else 0, match e.safety with
      | none => 0
      | some .assert => 1
      | some .release => 2]
  | .input e =>
    [bits [decide (e.edge = .rising), false, false, false, false, false, false, e.enabled]] ++ be 1 e.debounce ++
      be 1 e.action.code ++
      (match e.action with
       | .runMacro first length => be 2 first ++ be 1 length
       | _ => be 3 0)
  | .settings e =>
    be 1 e.prerollDepth ++ be 1 e.prerollTimeout ++ be 1 e.stallLimit ++ be 1 e.stallTimeout ++ be 2 e.resumeRate ++
      be 1 e.flowInterval ++ be 1 e.idleRate

/-- A table 11 entry (10.4). -/
def encodeMeter (l : Lane) : Bytes := be 3 l.peak ++ be 2 l.clips

/-- A track entry of table 12 (10.4, R25). -/
def encodeCounters (t : Track) : Bytes :=
  be 2 t.counters.accepted ++ be 2 t.counters.notScheduled ++ be 2 t.counters.duplicates ++ be 2 t.counters.gaps ++
  be 2 t.counters.damagedUnits ++ be 2 t.counters.dropped ++ be 2 t.counters.overruns ++ be 2 t.counters.malformed ++
  be 2 t.counters.outOfOrder ++ be 2 t.counters.pictureLate ++ be 2 t.counters.pictureEarly ++ be 2 t.counters.delivered ++
  be 2 t.cellsHeld

/-- The global entry of table 12 (10.4, R25). -/
def encodeGlobal (p : Port) (free : Nat) : Bytes :=
  be 2 p.crcErrors ++ be 2 p.malformed ++ be 2 p.fills ++ be 2 free ++ be 18 0

/-! ## Showing records (10.5) -/

def Outcome.code : Outcome → Byte
  | .opened => 0 | .counted => 1 | .short => 2 | .impaired => 3 | .barred _ => 4

/-- A showing record in a FETCH_SHOWINGS reply: 28 bytes. -/
def Record.encode (r : Record) : Bytes :=
  be 4 r.number ++ be 4 r.id.toNat ++ be 1 r.position ++
  [bits [false, false, false, r.counted, r.impaired, r.countTime.isSome, r.startTime.isSome, r.licence.isSome]] ++
  optField 1 r.licence ++ [r.outcome.code, match r.outcome with
    | .barred reason => reason.code
    | _ => 0, 0] ++
  optField 4 r.startTime ++ optField 4 r.countTime ++ be 3 r.presented ++ be 3 r.repeated

/-! ## What the part sends (R185, 10.1, 10.6) -/

/-- The kind code of an upstream parcel (10.1). -/
def UpKind.code : UpKind → Nat
  | .reply => 4 | .event => 5 | .flow => 6

/-- An upstream parcel as sent: track 0, both fragment flags set, eye 0, sequence and frame index 0 (R185). -/
def UpParcel.encode (p : UpParcel) : Bytes :=
  withCheck (be 1 (p.kind.code * 32) ++ [0xC0] ++ be 2 0 ++ be 3 0 ++ [0] ++ be 2 p.payload.length ++ p.payload)

/-- The fragment flags and eye byte of a forwarded picture parcel, its unused bits 0 (R187). -/
def fragmentByte (first last : Bool) (eye : Eye) : Byte :=
  BitVec.ofNat 8 ((if first then 128 else 0) + (if last then 64 else 0) + eye.code.toNat * 16)

/-- A projector-link record as sent (10.6), with its check word (R185). -/
def LinkRecord.encode (r : LinkRecord) : Bytes :=
  withCheck <| match r with
    | .picture track first last eye frame payload =>
      [0x10] ++ be 1 track ++ [fragmentByte first last eye] ++ be 3 frame ++ be 2 payload.length ++ payload
    | .showFrame track frame => [0x20] ++ be 1 track ++ be 3 frame
    | .repeatFrame track frame => [0x21] ++ be 1 track ++ be 3 frame
    | .hold => [0x22]
    | .black => [0x23]
    | .showItem region track id opacity text =>
      [0x30] ++ be 1 region ++ be 1 track ++ be 2 id.toNat ++ be 1 opacity ++ be 2 text.length ++ text
    | .setOpacity region opacity => [0x31] ++ be 1 region ++ be 1 opacity
    | .clearRegion region => [0x32] ++ be 1 region

/-- The bytes of a downstream MGMT parcel that carries a request, with its check word (10.1). What the store sends; sequence,
fragment flags, eye and frame index are not examined (R3). -/
def mgmtParcel (payload : Bytes) : Bytes :=
  withCheck ([0x40, 0xC0] ++ be 2 0 ++ be 3 0 ++ [0] ++ be 2 payload.length ++ payload)

end Sys2Proof.Machine
end

