-- ==== Sys2Proof/Machine/Ops.lean ====
section
/-! DEFINITION. The named operations over the state: counters, look-ups in the tables, updates of one track, one lane or one
line, the cell pool, the projector link, and the playlist's current and next slots. -/

namespace Sys2Proof.Machine

/-! ## Counters (00_scope.md, Counters) -/

/-- A 16-bit counter rises by `k` and stays at 65535. -/
def satAdd (n k : Nat) : Nat := min (n + k) Config.counterMax

/-- A 16-bit counter rises by 1. -/
def satInc (n : Nat) : Nat := satAdd n 1

/-! ## Tables -/

/-- An entry of table 1. Entry 0 reads as invalid at all times (R4). -/
def State.trackEntry (s : State) (t : Nat) : TrackEntry :=
  if t = 0 then TrackEntry.invalid else s.tables.track.getD t TrackEntry.invalid

/-- A slot of table 2. -/
def State.composition (s : State) (slot : Nat) : Composition := s.tables.composition.getD slot Composition.invalid

/-- An entry of table 3. -/
def State.licence (s : State) (i : Nat) : Licence := s.tables.licence.getD i Licence.invalid

/-- An entry of table 6. -/
def State.cueEntry (s : State) (i : Nat) : CueEntry := s.tables.cue.getD i CueEntry.blank

/-- An entry of table 8. -/
def State.inputEntry (s : State) (i : Nat) : InputEntry := s.tables.input.getD i InputEntry.off

/-- Samples per frame at a frame-rate code (R26). -/
def samplesPerFrame (code : Nat) : Nat :=
  match code with
  | 0 => 2000 | 1 => 1920 | 2 => 1600 | 3 => 1000 | 4 => 960 | 5 => 800 | 6 => 500 | _ => 400

/-- The S of the idle frame rate code of table 10 (R26). -/
def State.idlePeriod (s : State) : Nat := samplesPerFrame s.tables.settings.idleRate

/-! ## Position and slots (02, section 2.4) -/

/-- The slot at a playlist position, counted from 1; none outside the playlist. -/
def Sequencer.slotAt (q : Sequencer) (position : Nat) : Option Nat :=
  if position = 0 then none else q.playlist[position - 1]?

/-- The slot at the current position. -/
def Sequencer.currentSlot (q : Sequencer) : Option Nat := q.slotAt q.position

/-- The slot at the next position, if there is one. -/
def Sequencer.nextSlot (q : Sequencer) : Option Nat := if q.position = 0 then none else q.slotAt (q.position + 1)

/-- Is a show armed or running: ARMED, PREROLL, PLAYING, HOLDING or STALLED? -/
def ShowState.active : ShowState → Bool
  | .armed => true | .preroll => true | .playing => true | .holding => true | .stalled => true
  | .idle => false | .ended => false | .stopped => false

/-- Is a show running: PREROLL, PLAYING, HOLDING or STALLED? -/
def ShowState.running : ShowState → Bool
  | .preroll => true | .playing => true | .holding => true | .stalled => true
  | .idle => false | .armed => false | .ended => false | .stopped => false

/-- Is a composition on the timeline: PLAYING, HOLDING or STALLED? -/
def ShowState.onAir : ShowState → Bool
  | .playing => true | .holding => true | .stalled => true
  | .idle => false | .armed => false | .preroll => false | .ended => false | .stopped => false

/-- The composition at the current position. -/
def State.currentComposition (s : State) : Composition :=
  match s.seq.currentSlot with
  | some slot => s.composition slot
  | none => Composition.invalid

/-- Is an essence track scheduled (R7)? -/
def State.scheduled (s : State) (t : Nat) : Bool :=
  (s.trackEntry t).valid && s.seq.state.active &&
    (s.seq.currentSlot == some (s.trackEntry t).slot || s.seq.nextSlot == some (s.trackEntry t).slot)

/-- The essence track numbers, 1 to 31. -/
def essenceTracks : List Nat := List.range' 1 31

/-- The first valid track of a kind that names a slot. ARM leaves at most one PICTURE, SOUND_MAIN and SOUND_AUX track (R35). -/
def State.trackOf (s : State) (kind : TrackKind) (slot : Nat) : Option Nat :=
  essenceTracks.find? fun t => (s.trackEntry t).valid && (s.trackEntry t).kind == kind && (s.trackEntry t).slot == slot

/-- The current composition's track of a kind. -/
def State.currentTrack (s : State) (kind : TrackKind) : Option Nat :=
  match s.seq.currentSlot with
  | some slot => s.trackOf kind slot
  | none => none

/-! ## Tracks and the cell pool -/

/-- A track's run state and counters. -/
def State.track (s : State) (t : Nat) : Track := s.tracks.getD t Track.empty

/-- One track changes. -/
def State.updTrack (s : State) (t : Nat) (f : Track → Track) : State := { s with tracks := s.tracks.modify t f }

/-- The counters of one track change. -/
def State.count (s : State) (t : Nat) (f : Counters → Counters) : State :=
  s.updTrack t fun k => { k with counters := f k.counters }

/-- A grant (R16): cells move from the free count to a track's cells held. -/
def State.grantCells (s : State) (t n : Nat) : State :=
  { s.updTrack t (fun k => { k with cellsHeld := k.cellsHeld + n }) with freeCells := s.freeCells - n }

/-- A return (R16): cells move from a track's cells held back to the free count. -/
def State.returnCells (s : State) (t n : Nat) : State :=
  { s.updTrack t (fun k => { k with cellsHeld := k.cellsHeld - n }) with freeCells := s.freeCells + n }

/-- Does a grant of `n` cells to a track succeed (R17, R18)? -/
def State.grantSucceeds (s : State) (t n : Nat) : Bool :=
  n ≤ s.freeCells ∧ (s.track t).cellsHeld + n ≤ (s.trackEntry t).quota

/-! ## Projector link (R64) -/

/-- A record is handed to the projector link, which refuses none. -/
def State.send (s : State) (r : LinkRecord) : State := { s with link := s.link ++ [r] }

/-! ## Arrival windows (R55) -/

/-- The window entries of an eye: the RIGHT window for RIGHT, the other window for MONO and LEFT. -/
def Window.entries (w : Window) (eye : Eye) : List Arrival :=
  match eye with
  | .right => w.right
  | .mono => w.main
  | .left => w.main
  | .noEye => w.main

/-- The entry of a frame in an eye's window. -/
def Window.entry (w : Window) (eye : Eye) (frame : Nat) : Arrival := (w.entries eye).getD (frame - w.base) .absent

/-- Does the window cover a frame (R55)? -/
def Window.covers (w : Window) (frame : Nat) : Bool := w.base ≤ frame ∧ frame < w.base + Config.windowFrames

/-- One entry of an eye's window changes. -/
def Window.set (w : Window) (eye : Eye) (frame : Nat) (a : Arrival) : Window :=
  match eye with
  | .right => { w with right := w.right.set (frame - w.base) a }
  | .mono => { w with main := w.main.set (frame - w.base) a }
  | .left => { w with main := w.main.set (frame - w.base) a }
  | .noEye => { w with main := w.main.set (frame - w.base) a }

/-- New windows: base 0 and every entry ABSENT (R8). -/
def Window.create (eyes : Eyes) : Window :=
  { base := 0, eyes := eyes, main := List.replicate Config.windowFrames .absent
    right := match eyes with
      | .stereo => List.replicate Config.windowFrames .absent
      | .mono => [] }

/-- Is a frame COMPLETE on every eye of the track (R60)? -/
def Window.shows (w : Window) (frame : Nat) : Bool :=
  match w.eyes with
  | .mono => w.entry .mono frame == .complete
  | .stereo => w.entry .left frame == .complete && w.entry .right frame == .complete

/-- The entries move on by one frame: the first leaves, and an ABSENT one enters (R57). -/
def advanceEntries (l : List Arrival) : List Arrival :=
  match l with
  | [] => []
  | _ :: rest => rest ++ [.absent]

/-- The windows move on past frame `f` (R57). -/
def Window.advance (w : Window) (f : Nat) : Window :=
  { w with base := f + 1, main := advanceEntries w.main, right := advanceEntries w.right }

/-- One track's window changes, if it has one. -/
def State.updWindow (s : State) (t : Nat) (f : Window → Window) : State :=
  s.updTrack t fun k => { k with window := k.window.map f }

/-- The window base that FLOW reports and QUERY_STATUS carry (R71). -/
def State.windowBase (s : State) : Nat :=
  if s.seq.state.active then
    match s.currentTrack .picture with
    | some t => ((s.track t).window.map Window.base).getD 0
    | none => 0
  else 0

/-! ## Output lines (R141) -/

/-- The running generator that owns a line, if there is one (R142). -/
def Booth.owner (b : Booth) (line : Nat) : Option Generator :=
  b.generators.find? fun g => g.phase != .idle && g.line == line

/-- The level an output line shows: safety, then generator, then cue level (R141). -/
def State.lineLevel (s : State) (line : Nat) : Level :=
  if s.inReset then .release
  else
    match (if s.booth.latch then (s.tables.line.getD line LineSetting.off).safety else none) with
    | some level => level
    | none =>
      match s.booth.owner line with
      | some g => if g.phase = .pulse then .assert else .release
      | none => s.booth.cueLevels.getD line .release

end Sys2Proof.Machine
end

