-- ==== Sys2Proof/Machine/Flags.lean ====
section
/-! DEFINITION. The event flags and EVENT reports (R179, R180), FLOW reports (R181), the upstream queue and its arbiter (R182,
R183), and what ends every event: the report of a change of show state (R33). -/

namespace Sys2Proof.Machine

/-! ## Event flags -/

/-- Is a flag set in a set of flags? -/
def flagSet (m : BitVec 17) (f : Flag) : Bool := m.getLsbD f.bit

/-- A set of flags with one flag set. -/
def withFlag (m : BitVec 17) (f : Flag) : BitVec 17 := m ||| (1#17 <<< f.bit)

/-- The payload of an EVENT parcel made now (R180, 10.3). -/
def State.eventPayload (s : State) : Bytes :=
  be 3 (s.mgmt.flags &&& s.mgmt.enables).toNat ++ be 2 s.cue.lastMark ++ [s.acct.lastBarred.code]

/-- An EVENT report: the event slot holds a parcel with the present values, made new or rewritten (R180). -/
def State.eventReport (s : State) : State := { s with mgmt := { s.mgmt with eventSlot := some s.eventPayload } }

/-- A block raises a flag. A clear flag becomes set, and the transition of an enabled flag makes an EVENT report; a set flag
stays set and nothing is handed on (R179, R180). -/
def State.raise (s : State) (f : Flag) : State :=
  if flagSet s.mgmt.flags f then s
  else
    let s' := { s with mgmt := { s.mgmt with flags := withFlag s.mgmt.flags f } }
    if flagSet s.mgmt.enables f then s'.eventReport else s'

/-! ## FLOW reports -/

/-- The entries of a FLOW parcel: each scheduled sound track with the units in its queue, in track order (R181, 10.3). -/
def State.flowEntries (s : State) : List (Nat × Nat) :=
  (essenceTracks.filter fun t => s.scheduled t && (s.trackEntry t).kind.isSound).map fun t => (t, (s.track t).queue.length)

/-- The payload of a FLOW parcel made now (R181, 10.3). -/
def State.flowPayload (s : State) : Bytes :=
  [s.seq.state.code, s.seq.reason.code] ++ be 1 s.seq.position ++ be 3 s.seq.frame ++ be 3 s.windowBase ++ be 2 s.freeCells ++
  be 1 s.flowEntries.length ++ be 3 0 ++ s.flowEntries.flatMap fun e => be 1 e.1 ++ be 2 e.2

/-- The reply-and-flow slots that are taken or reserved (R182). -/
def Mgmt.slotsTaken (m : Mgmt) : Nat := m.slots.length + if m.reserved then 1 else 0

/-- A FLOW report is queued, or lost when every slot is taken; the flow count becomes 0 either way (R181, R182). -/
def State.flowReport (s : State) : State :=
  let slots := if s.mgmt.slotsTaken < Config.replyFlowSlots then s.mgmt.slots ++ [⟨.flow, s.flowPayload⟩] else s.mgmt.slots
  { s with mgmt := { s.mgmt with slots := slots, flowCount := 0 } }

/-- A change of show state, judged over one event from the state it found: SHOW_STATE is raised once and one FLOW report is
made (R33, R181). -/
def State.reportChange (found : ShowState) (s : State) : State :=
  if s.seq.state = found then s else (s.raise .showState).flowReport

/-! ## The upstream lane -/

/-- The arbiter's choice: the oldest REPLY, else the EVENT, else the oldest FLOW (R183). Answers the parcel chosen and what the
queue holds without it. -/
def Mgmt.choose (m : Mgmt) : Option (UpParcel × Option Bytes × List UpParcel) :=
  match m.slots.find? (fun p => p.kind == .reply) with
  | some p => some (p, m.eventSlot, m.slots.eraseP fun p => p.kind == .reply)
  | none =>
    match m.eventSlot with
    | some e => some (⟨.event, e⟩, none, m.slots)
    | none =>
      match m.slots with
      | p :: rest => some (p, none, rest)
      | [] => none

/-- An IDLE lane takes the parcel the arbiter chooses; its slot is free from then (R182, R183). It acts once an event's work is
complete (log 9). -/
def State.arbitrate (s : State) : State :=
  match s.mgmt.lane with
  | some _ => s
  | none =>
    match s.mgmt.choose with
    | some (p, e, slots) => { s with mgmt := { s.mgmt with lane := some p, eventSlot := e, slots := slots } }
    | none => s

/-- One event taken whole: its work, the report of a change of show state, and the arbiter's look at an IDLE lane. -/
def event (work : State → State) (s : State) : State := (State.reportChange s.seq.state (work s)).arbitrate

/-- What a command does: its work, unless the part is held in power-on reset, when it does nothing (log 7). No command of this
part ends in a fault or a refusal. -/
def run (work : State → State) (s : State) : Host.Outcome State Fault Refusal := .next (if s.inReset then s else work s)

end Sys2Proof.Machine
end

