-- ==== Sys2Proof/Machine/Booth.lean ====
section
/-! DEFINITION. The booth lines' own state: cue levels (R140), pulse generators (R142 to R145) and the level an EMERGENCY input is
active at (R150). The latch and the inputs' actions reach other blocks and stand in Machine/Emergency.lean. -/

namespace Sys2Proof.Machine

/-- The cue level of a line changes (R140). -/
def State.setCueLevel (s : State) (line : Nat) (level : Level) : State :=
  { s with booth := { s.booth with cueLevels := s.booth.cueLevels.set line level } }

/-- A generator. -/
def State.generator (s : State) (g : Nat) : Generator := s.booth.generators.getD g Generator.off

/-- The generators change. -/
def State.setGenerators (s : State) (l : List Generator) : State := { s with booth := { s.booth with generators := l } }

/-- A generator becomes IDLE and gives up its line. -/
def Generator.stopped (g : Generator) : Generator := { g with phase := .idle }

/-- A generator that owns a line gives it up: a takeover (R143). -/
def Generator.giveUp (line : Nat) (g : Generator) : Generator :=
  if g.phase ≠ .idle ∧ g.line = line then g.stopped else g

/-- A LINE_PULSE action: any generator that owns the line stops, and this one starts its pattern on it. Without effect while the
latch is set (R143). -/
def State.linePulse (s : State) (g line : Nat) (mode : PulseMode) (count pulse space : Nat) : State :=
  if s.booth.latch then s
  else
    s.setGenerators ((s.booth.generators.map (Generator.giveUp line)).set g
      { phase := .pulse, line := line, mode := mode, pulse := pulse, space := space, pulsesLeft := count, ticksLeft := pulse })

/-- A PULSE_STOP action (R145). -/
def State.pulseStop (s : State) (g : Nat) : State := s.setGenerators (s.booth.generators.modify g Generator.stopped)

/-- The latch stops every generator (R145). -/
def State.stopGenerators (s : State) : State := s.setGenerators (s.booth.generators.map Generator.stopped)

/-- The end of a running generator's phase (R144). -/
def Generator.endPhase (g : Generator) : Generator :=
  match g.phase with
  | .idle => g
  | .space => { g with phase := .pulse, ticksLeft := g.pulse }
  | .pulse =>
    match g.mode with
    | .single => { g with phase := .idle, ticksLeft := 0 }
    | .repeating =>
      if g.pulsesLeft = 0 then { g with phase := .space, ticksLeft := g.space }
      else if g.pulsesLeft = 1 then { g with phase := .idle, pulsesLeft := 0, ticksLeft := 0 }
      else { g with phase := .space, ticksLeft := g.space, pulsesLeft := g.pulsesLeft - 1 }

/-- A millisecond tick reaches a generator (R144). -/
def Generator.tick (g : Generator) : Generator :=
  if g.phase = .idle then g
  else if g.ticksLeft ≤ 1 then g.endPhase else { g with ticksLeft := g.ticksLeft - 1 }

/-- The level at which an EMERGENCY input is active (R146, R150). -/
def Edge.activeLevel : Edge → InLevel
  | .falling => .low
  | .rising => .high

/-- An input line's state. -/
def State.input (s : State) (i : Nat) : Input := s.booth.inputs.getD i (Input.powerOn .high)

/-- One input line changes. -/
def State.updInput (s : State) (i : Nat) (f : Input → Input) : State :=
  { s with booth := { s.booth with inputs := s.booth.inputs.modify i f } }

/-- Is an entry an EMERGENCY input that is active at a debounced level (R150)? -/
def InputEntry.activeAt (e : InputEntry) (level : InLevel) : Bool :=
  e.enabled && e.action == .emergency && level == e.edge.activeLevel

/-- Is an input an active EMERGENCY input (R150)? -/
def State.emergencyActive (s : State) (i : Nat) : Bool := (s.inputEntry i).activeAt (s.input i).debounced

end Sys2Proof.Machine
end

