-- ==== Sys2Proof/Machine/Account.lean ====
section
/-! DEFINITION. Licence and showing accounting: the licence check (R157), the showing log (R161), the open record (R162 to R166)
and BARRED records (R167). -/

namespace Sys2Proof.Machine

/-- The licence check against one entry at a booth time: the first test that holds bars with its reason; none passes (R157). -/
def Licence.check (l : Licence) (booth : Option Nat) : Option BarReason :=
  if (l.windowStart.isSome ∨ l.windowEnd.isSome) ∧ booth = none then some .timeUnset
  else if ∃ a ∈ l.windowStart, ∃ b ∈ booth, b < a then some .notYet
  else if ∃ z ∈ l.windowEnd, ∃ b ∈ booth, z ≤ b then some .expired
  else if ∃ n ∈ l.allowed, n ≤ l.used then some .exhausted
  else if l.used = 65535 then some .exhausted
  else none

/-- The licence check of a composition. One without a licence index passes without condition (R157). -/
def State.licenceCheck (s : State) (c : Composition) : Option BarReason :=
  match c.licence with
  | some i => (s.licence i).check s.clk.booth
  | none => none

/-- The number after a sequence number: 1 after 4,294,967,295 (R161). -/
def nextNumber (n : Nat) : Nat := if n = Config.max32 then 1 else n + 1

/-- Is number `m` at or above number `n`, `next` being the next to be given (R161)? -/
def numberAtOrAbove (next m n : Nat) : Bool :=
  ((next : Int) - m) % Config.max32 ≤ ((next : Int) - n) % Config.max32

/-- A record joins the log with the next sequence number. A full log first loses its oldest record, the drop count rises and
LOG_WRAP is raised (R161). -/
def State.joinLog (s : State) (r : Record) : State :=
  let s' := if s.acct.log.length < Config.logRecords then s
    else { s with acct := { s.acct with log := s.acct.log.take (Config.logRecords - 1), drops := satInc s.acct.drops } }.raise .logWrap
  { s' with acct := { s'.acct with log := { r with number := s'.acct.nextNumber } :: s'.acct.log,
                                   nextNumber := nextNumber s'.acct.nextNumber } }

/-- A new record of the composition at the current position, with booth time as its start time (R162, R167). -/
def State.newRecord (s : State) (outcome : Outcome) : Record :=
  { number := 0, id := s.currentComposition.id, position := s.seq.position, licence := s.currentComposition.licence,
    startTime := s.clk.booth, countTime := none, presented := 0, repeated := 0, impaired := false, counted := false,
    outcome := outcome }

/-- A composition is barred: its BARRED record is written, the last barred reason set and BARRED raised (R158, R167). -/
def State.writeBarred (s : State) (reason : BarReason) : State :=
  let s' := s.joinLog (s.newRecord (.barred reason))
  { s' with acct := { s'.acct with lastBarred := reason } }.raise .barred

/-- The OPEN record of the composition that starts (R162). -/
def State.openRecord (s : State) : State := s.joinLog (s.newRecord .opened)

/-- The open record: the newest record, when its outcome is OPEN (R159). -/
def Accounting.openRecord? (a : Accounting) : Option Record :=
  match a.log with
  | r :: _ => if r.outcome = .opened then some r else none
  | [] => none

/-- The open record changes; without one nothing does. -/
def Accounting.updOpen (a : Accounting) (f : Record → Record) : Accounting :=
  match a.log with
  | r :: rest => if r.outcome = .opened then { a with log := f r :: rest } else a
  | [] => a

/-- A verdict reaches the open record: the counts rise, and repeats past the tolerance at or before the count frame impair the
showing (R163). -/
def Record.verdict (r : Record) (c : Composition) (frame : Nat) (shown : Bool) : Record :=
  if shown then { r with presented := r.presented + 1 }
  else
    { r with presented := r.presented + 1, repeated := r.repeated + 1,
             impaired := r.impaired || (decide (c.tolerance < r.repeated + 1 ∧ frame ≤ c.countFrame) && !r.counted) }

/-- The used count of a licence entry rises by 1 (R164). -/
def State.useLicence (s : State) (i : Nat) : State :=
  { s with tables := { s.tables with licence := s.tables.licence.modify i fun l => { l with used := l.used + 1 } } }

/-- The count is judged at the count frame: an unimpaired showing is counted (R164). -/
def State.judgeCount (s : State) : State :=
  match s.acct.openRecord? with
  | some r =>
    if r.impaired then s
    else
      let s' := { s with acct := s.acct.updOpen fun r => { r with counted := true, countTime := s.clk.booth } }
      (match r.licence with
       | some i => s'.useLicence i
       | none => s').raise .counted
  | none => s

/-- Accounting takes the verdict on frame `f` of the current composition, and judges the count at its count frame (R163, R164). -/
def State.accountVerdict (s : State) (f : Nat) (shown : Bool) : State :=
  let c := s.currentComposition
  let s' := { s with acct := s.acct.updOpen fun r => r.verdict c f shown }
  if f = c.countFrame then s'.judgeCount else s'

/-- The outcome of a record that closes, except at warm reset (R165). -/
def Record.closing (r : Record) : Outcome := if r.counted then .counted else if r.impaired then .impaired else .short

/-- The open record closes (R165). -/
def State.closeRecord (s : State) : State :=
  { s with acct := s.acct.updOpen fun r => { r with outcome := r.closing } }

/-- Accounting's part of a warm reset: the open record closes as COUNTED or SHORT, the drop count and the last barred reason are
cleared (R166). -/
def Accounting.warm (a : Accounting) : Accounting :=
  { a.updOpen (fun r => { r with outcome := if r.counted then .counted else .short }) with drops := 0, lastBarred := .none }

end Sys2Proof.Machine
end

