-- ==== Sys2Proof/Machine/Sound.lean ====
section
/-! DEFINITION. The sound path: taking units (R75, R76), the mixing chain (R84 to R88), blocks and delay lines (R72, R89), the
master fader and its events (R91 to R98), and the meters (R100). -/

namespace Sys2Proof.Machine

/-! ## The chain (R84 to R88) -/

/-- `x` scaled by `q`: floor((x × q + 16384) / 32768) (R84). -/
def scaleBy (x q : Int) : Int := (x * q + 16384) / 32768

/-- The term of one contribution: s × g, its sign reversed when inverted (R85). -/
def Contribution.term (c : Contribution) (inputs : List Int) : Int :=
  let x := inputs.getD c.channel 0 * (c.gain : Int)
  if c.invert then -x else x

/-- The mixed value m1 of a lane from the input channels of one sample (R85). -/
def mixValue (cs : List Contribution) (inputs : List Int) : Int := scaleBy ((cs.map fun c => c.term inputs).sum) 1

/-- The gain of sample `i` in a block of `n` samples whose fader goes from `f0` to `f1` (R87). -/
def sampleGain (f0 f1 : Int) (n i : Nat) : Int := f0 + ((f1 - f0) * ((i : Int) + 1)).tdiv n

/-- The value y of one sample of a lane before the clamp: mix, trim, fader. A disabled lane's y is 0 (R82, R85 to R87). -/
def chainValue (r : Recipe) (trim : Nat) (gain : Int) (inputs : List Int) : Int :=
  if r.enabled then scaleBy (scaleBy (mixValue r.contributions inputs) trim) gain else 0

/-- The clamp to the 24-bit range (R88). -/
def clamp24 (y : Int) : Int := if 8388607 < y then 8388607 else if y < -8388608 then -8388608 else y

/-- The unclamped values of a lane's block (R85 to R87). -/
def chainBlock (r : Recipe) (trim : Nat) (f0 f1 : Int) (inputs : List (List Int)) : List Int :=
  inputs.zipIdx.map fun x => chainValue r trim (sampleGain f0 f1 inputs.length x.2) x.1

/-- How many values of a block are clamped (R88). -/
def clampCount (ys : List Int) : Nat := ys.countP fun y => clamp24 y ≠ y

/-! ## Units (R75, R76, R79) -/

/-- The samples of a sound unit's payload: 3 bytes of two's complement each, most significant first (10.2). -/
def samplesOf : Bytes → List Int
  | a :: b :: c :: rest => (a ++ b ++ c : BitVec 24).toInt :: samplesOf rest
  | _ => []

/-- `k` sample frames of `n` channels (10.2). -/
def sampleFrames (n : Nat) : Nat → List Int → List (List Int)
  | 0, _ => []
  | k + 1, l => l.take n :: sampleFrames n k (l.drop n)

/-- A list of `k` channels: the first ones given, then zeros (R79). -/
def padChannels (k : Nat) (l : List Int) : List Int := l.take k ++ List.replicate (k - l.length) 0

/-- The 24 input channels of each sample of a block of `p` samples, from the main and auxiliary units with their channel
counts (R79). -/
def inputChannels (p : Nat) (main aux : Option (SoundUnit × Nat)) : List (List Int) :=
  let frames (u : Option (SoundUnit × Nat)) : List (List Int) :=
    match u with
    | some (x, n) => sampleFrames n p (samplesOf x.bytes)
    | none => List.replicate p []
  List.zipWith (fun a b => padChannels 16 a ++ padChannels 8 b) (frames main) (frames aux)

/-- The cells of several units together. -/
def unitCells (us : List SoundUnit) : Nat := (us.map SoundUnit.cells).sum

/-- The work on one sound track's queue at a boundary that presents frame `f`: stale units are removed, the unit of `f` is taken
or SOUND_GAP raised, and the cells of the units removed return (R75, R76). -/
def State.takeUnit (s : State) (t f : Nat) : State × Option SoundUnit :=
  let stale := (s.track t).queue.takeWhile fun u => decide (u.frame < f)
  match (s.track t).queue.dropWhile fun u => decide (u.frame < f) with
  | u :: rest =>
    if u.frame = f then
      ((s.updTrack t fun k => { k with queue := rest }).returnCells t (unitCells stale + u.cells), some u)
    else (((s.updTrack t fun k => { k with queue := u :: rest }).returnCells t (unitCells stale)).raise .soundGap, none)
  | [] => (((s.updTrack t fun k => { k with queue := [] }).returnCells t (unitCells stale)).raise .soundGap, none)

/-- The unit of an optional sound track, with its channel count (R75). -/
def State.takeTrack (s : State) (t : Option Nat) (f : Nat) : State × Option (SoundUnit × Nat) :=
  match t with
  | some n => ((s.takeUnit n f).1, (s.takeUnit n f).2.map fun u => (u, (s.trackEntry n).channels.getD 0))
  | none => (s, none)

/-! ## The master fader (R91, R92) -/

/-- One step of the fader from `f0` toward target `t` at rate `k` (R92). -/
def faderStep (f0 t k : Nat) : Nat :=
  let step : Int := ((k : Int) * ((t : Int) - f0)).tdiv 65536
  if step ≠ 0 then ((f0 : Int) + step).toNat else if f0 < t then f0 + 1 else if t < f0 then f0 - 1 else f0

/-- The fader changes. -/
def State.updFader (s : State) (f : Fader → Fader) : State := { s with snd := { s.snd with fader := f s.snd.fader } }

/-- The mix settings in force when a boundary is raised: the active map and the fader's values at the start and the end of the
block (R72, R92). Tables 4 and 5 do not change within a boundary. -/
structure Mix where
  map : Nat
  f0  : Nat
  f1  : Nat
  deriving DecidableEq, Repr

/-- The mix settings as they now stand. -/
def State.mix (s : State) : Mix :=
  { map := s.snd.activeMap, f0 := s.snd.fader.value, f1 := faderStep s.snd.fader.value s.snd.fader.target s.snd.fader.rate }

/-- The fader steps as the block is formed (R92). -/
def State.stepFader (s : State) : State := s.updFader fun f => { f with value := faderStep f.value f.target f.rate }

/-! ## Blocks (R72, R77) -/

/-- The lanes with their numbers change. -/
def State.mapLanes (s : State) (f : Nat → Lane → Lane) : State :=
  { s with snd := { s.snd with lanes := s.snd.lanes.mapIdx f } }

/-- The settings of a lane. -/
def State.laneSetting (s : State) (j : Nat) : LaneSetting := s.tables.lane.getD j LaneSetting.off

/-- The recipe of a lane in a map (R80). -/
def State.recipe (s : State) (map j : Nat) : Recipe := s.tables.routing.getD (map * 24 + j) Recipe.off

/-- A silent block of P samples replaces the block in play (R72, R77). Its values are what the chain gives for inputs of 0
(R90), whatever the mix settings. -/
def State.silentBlock (s : State) : State :=
  s.mapLanes fun j l => { l with block := List.replicate s.clk.period 0, delay := (s.laneSetting j).delay }

/-- A block formed from input channels replaces the block in play; clamped samples are counted and raise CLIP (R72, R88). -/
def State.soundBlock (s : State) (m : Mix) (inputs : List (List Int)) : State :=
  let ys (j : Nat) : List Int := chainBlock (s.recipe m.map j) (s.laneSetting j).trim m.f0 m.f1 inputs
  let s' := s.mapLanes fun j l =>
    { l with block := (ys j).map clamp24, delay := (s.laneSetting j).delay, clips := satAdd l.clips (clampCount (ys j)) }
  if (List.range s.snd.lanes.length).any fun j => 0 < clampCount (ys j) then s'.raise .clip else s'

/-- The block of a presented frame `f` of the current composition: its sound tracks' units, mixed (R75, R79). When no unit is
taken every input is 0, and so is the block (R90). -/
def State.frameBlock (s : State) (m : Mix) (f : Nat) : State :=
  let r1 := s.takeTrack (s.currentTrack .soundMain) f
  let r2 := r1.1.takeTrack (s.currentTrack .soundAux) f
  match r1.2, r2.2 with
  | none, none => r2.1.silentBlock
  | main, aux => r2.1.soundBlock m (inputChannels s.clk.period main aux)

/-! ## One sample period (R89, R100) -/

/-- A lane sends a sample: the next value of the block in play enters the delay line, the value `delay` samples back is sent, and
the peak meter takes its magnitude. -/
def Lane.sample (l : Lane) : Lane :=
  let line := (l.block.headD 0 :: l.line).take Config.delayLineSamples
  let out := line.getD l.delay 0
  { l with block := l.block.tail, line := line, out := out, peak := max l.peak out.natAbs }

/-- What a serial sample port sends in a sample period: the output sample of each of its 8 lanes as a 24-bit signed value, in lane
order; port 0 carries lanes 0 to 7, port 1 lanes 8 to 15, port 2 lanes 16 to 23 (R73). -/
def State.portSamples (s : State) (port : Fin 3) : List (BitVec 24) :=
  ((s.snd.lanes.drop (8 * port.val)).take 8).map fun l => BitVec.ofInt 24 l.out

/-! ## Events of the fader -/

/-- A FADER cue (R93): the saved target alone when muted or in HOLDING or STALLED. -/
def State.faderCue (s : State) (target rate : Nat) : State :=
  if s.snd.fader.muted ∨ s.seq.state = .holding ∨ s.seq.state = .stalled then s.updFader fun f => { f with saved := target }
  else s.updFader fun f => { f with target := target, rate := rate }

/-- A composition start's fader target, if it has one (R94). -/
def State.startFader (s : State) (target : Option Nat) : State :=
  match target with
  | some t => s.updFader fun f => { f with target := t }
  | none => s

/-- The hold event (R95). -/
def State.holdEvent (s : State) : State :=
  s.updFader fun f => if f.muted then f else { f with saved := f.target, value := 0, target := 0 }

/-- The resume event (R96). -/
def State.resumeEvent (s : State) : State :=
  s.updFader fun f =>
    if f.muted then f else { f with value := 0, target := f.saved, rate := s.tables.settings.resumeRate }

/-- The setting of the emergency latch: the fader is cut and muted, the block in play replaced by zeros, every delay line
zeroed (R97). -/
def State.muteSound (s : State) : State :=
  (s.updFader fun f => { f with value := 0, target := 0, muted := true }).mapLanes
    fun _ l => { l with block := l.block.map fun _ => 0, line := [] }

/-- The release of the emergency latch (R98). -/
def State.unmuteSound (s : State) : State := s.updFader fun f => { f with muted := false }

/-- A map becomes the active routing map (R82). -/
def State.activateMap (s : State) (map : Nat) : State := { s with snd := { s.snd with activeMap := map } }

/-- The sound path's part of a warm reset, after P has been set (R74, R91, R100, R101). -/
def State.warmSound (s : State) : State :=
  (s.updFader fun f => { f with value := 0, target := 0 }).mapLanes
    fun j l => { l with block := List.replicate s.clk.period 0, delay := (s.laneSetting j).delay, line := [], peak := 0,
                        clips := 0 }

end Sys2Proof.Machine
end

