-- ==== Sys2Proof/Machine/Subtitle.lean ====
section
/-! DEFINITION. The subtitle engine: the offer of an item (R104, R105), the work at a frame boundary (R109 to R112), a switch of
the active track (R116) and the removal of a track's items (R118). -/

namespace Sys2Proof.Machine

/-- The cells of an item (R102). -/
def itemCells : Nat := 2

/-- Items are removed: each one's cells return (R102). -/
def State.returnItems (s : State) (items : List Item) : State := items.foldl (fun s i => s.returnCells i.track itemCells) s

/-- A region of the display set. -/
def State.region (s : State) (r : Nat) : Option Shown := s.sub.regions.getD r none

/-- A region of the display set changes. -/
def State.setRegion (s : State) (r : Nat) (x : Option Shown) : State :=
  { s with sub := { s.sub with regions := s.sub.regions.set r x } }

/-- The regions in order. -/
def regionNumbers : List Nat := [0, 1, 2, 3]

/-- A region that holds an item meeting the test is emptied: a CLEAR_REGION record is sent and the item's cells return. -/
def State.emptyRegion (test : Item → Bool) (s : State) (r : Nat) : State :=
  match s.region r with
  | some x =>
    if test x.item then ((s.setRegion r none).send (.clearRegion r)).returnCells x.item.track itemCells else s
  | none => s

/-- Every region that holds an item meeting the test is emptied, in order from 0 to 3. -/
def State.emptyRegions (s : State) (test : Item → Bool) : State := regionNumbers.foldl (State.emptyRegion test) s

/-- The items of the schedule meeting the test are removed without a record. -/
def State.dropItems (s : State) (test : Item → Bool) : State :=
  ({ s with sub := { s.sub with schedule := s.sub.schedule.filter fun i => !test i } }).returnItems (s.sub.schedule.filter test)

/-- A track that stops being scheduled takes its items with it (R118). -/
def State.removeTrackItems (s : State) (t : Nat) : State :=
  (s.dropItems fun i => i.track == t).emptyRegions fun i => i.track == t

/-! ## Offers -/

/-- The place of an item: after every item whose in-frame is at or below its own, before every item above it (R105). -/
def insertItem (i : Item) : List Item → List Item
  | [] => [i]
  | j :: rest => if j.inFrame ≤ i.inFrame then j :: insertItem i rest else i :: j :: rest

/-- The next frame that an item's composition will present: f for the composition at the current position, 0 for the next
one (R104). -/
def State.itemFrame (s : State) (t : Nat) : Nat :=
  if s.seq.currentSlot = some (s.trackEntry t).slot then s.seq.frame else 0

/-- The unpacker offers a completed item: it is discarded as stale, admitted, or refused by a full schedule (R104, R105). -/
def State.offerItem (s : State) (i : Item) : State :=
  if i.outFrame ≤ s.itemFrame i.track then
    ({ s with sub := { s.sub with stale := satInc s.sub.stale } }).returnCells i.track itemCells
  else if s.sub.schedule.length < Config.scheduleItems then
    { s with sub := { s.sub with schedule := insertItem i s.sub.schedule
                                 late := if i.inFrame < s.itemFrame i.track then satInc s.sub.late else s.sub.late } }
  else
    (({ s with sub := { s.sub with refused := satInc s.sub.refused } }).returnCells i.track itemCells).raise .subDrop

/-! ## Opacity (R108) -/

/-- The fade-in part at frame `f`. -/
def Item.fadeInPart (i : Item) (f : Nat) : Nat :=
  if i.fadeIn = 0 ∨ i.fadeIn ≤ f - i.inFrame then 255 else 255 * (f - i.inFrame + 1) / (i.fadeIn + 1)

/-- The fade-out part at frame `f`. -/
def Item.fadeOutPart (i : Item) (f : Nat) : Nat :=
  if i.fadeOut = 0 ∨ i.fadeOut < i.outFrame - f then 255 else 255 * (i.outFrame - f) / (i.fadeOut + 1)

/-- The opacity at frame `f`: the lesser of the two parts. -/
def Item.opacity (i : Item) (f : Nat) : Nat := min (i.fadeInPart f) (i.fadeOutPart f)

/-! ## Work at a boundary that presents frame `f`, above 0 -/

/-- Does an item's track name the slot at the current position? -/
def State.ofCurrent (s : State) (i : Item) : Bool := s.seq.currentSlot == some (s.trackEntry i.track).slot

/-- Step 2 takes an item: of the active track, of the current composition, begun and not over (R110). -/
def State.itemDue (s : State) (f : Nat) (i : Item) : Bool :=
  s.sub.active == some i.track && s.ofCurrent i && decide (i.inFrame ≤ f) && decide (f < i.outFrame)

/-- An item enters its region; a holder is preempted (R110). Its opacity is sent later in the step. -/
def State.admitItem (f : Nat) (s : State) (i : Item) : State :=
  match s.region i.region with
  | some x =>
    (({ s with sub := { s.sub with preempted := satInc s.sub.preempted } }).returnCells x.item.track itemCells).setRegion i.region
      (some ⟨i, i.opacity f⟩)
  | none => s.setRegion i.region (some ⟨i, i.opacity f⟩)

/-- The records of step 2 for one region whose holder changed (R110). -/
def State.sendAdmission (before : List (Option Shown)) (s : State) (r : Nat) : State :=
  let s' := if (before.getD r none).isSome then s.send (.clearRegion r) else s
  match s.region r with
  | some x => s'.send (.showItem r x.item.track x.item.id x.opacity x.item.text)
  | none => s'

/-- Step 2: the due items of the schedule move to the display set in schedule order; then the records are sent by region
(R110). -/
def State.admitItems (s : State) (f : Nat) : State :=
  let due := s.sub.schedule.filter (s.itemDue f)
  let before := s.sub.regions
  let s1 := { s with sub := { s.sub with schedule := s.sub.schedule.filter fun i => !s.itemDue f i } }
  let s2 := due.foldl (State.admitItem f) s1
  (regionNumbers.filter fun r => due.any fun i => i.region == r).foldl (State.sendAdmission before) s2

/-- Step 4 for one region: SET_OPACITY when the opacity at `f` differs from the last sent one (R112). -/
def State.refreshRegion (f : Nat) (s : State) (r : Nat) : State :=
  match s.region r with
  | some x =>
    if x.item.opacity f = x.opacity then s
    else (s.setRegion r (some ⟨x.item, x.item.opacity f⟩)).send (.setOpacity r (x.item.opacity f))
  | none => s

/-- The engine's work at a boundary that presents frame `f`: expiry, admission, unshown expiry, opacity refresh (R109). A
boundary that presents frame 0 does none. A region that got its SHOW_ITEM at this boundary already has its opacity at `f`,
so the refresh leaves it. -/
def State.subtitleWork (s : State) (f : Nat) : State :=
  if f = 0 then s
  else
    let s1 := s.emptyRegions fun i => decide (i.outFrame ≤ f)
    let s2 := s1.admitItems f
    let s3 := s2.dropItems fun i => s2.ofCurrent i && decide (i.outFrame ≤ f)
    regionNumbers.foldl (State.refreshRegion f) s3

/-! ## The active track -/

/-- An event names the active track: naming another one is a switch, which empties every region (R115, R116). -/
def State.nameActive (s : State) (t : Option Nat) : State :=
  if s.sub.active = t then s
  else ({ s with sub := { s.sub with active := t } }).emptyRegions fun _ => true

end Sys2Proof.Machine
end

