-- ==== Sys2Proof/Machine/Unpack.lean ====
section
/-! DEFINITION. The unpacker: scheduling (R8, R9), sequence following (R10, R11), content checks and assembly (R12 to R15), cell
grants (R17 to R19), completion (R21, R22) and picture cut-through (R23, R24). -/

namespace Sys2Proof.Machine

/-! ## Scheduling -/

/-- A track stops being scheduled: its subtitle items go, all it holds is freed, its run state is emptied and its windows are
removed; its counters stay (R9). -/
def State.unscheduleTrack (s : State) (t : Nat) : State :=
  let s' := s.removeTrackItems t
  { s'.updTrack t (fun k => { Track.empty with counters := k.counters }) with
    freeCells := s'.freeCells + (s'.track t).cellsHeld }

/-- The eyes of the composition that a track belongs to. -/
def State.trackEyes (s : State) (t : Nat) : Eyes := (s.composition (s.trackEntry t).slot).eyes

/-- A track becomes scheduled: its run state is emptied, and a picture track gets its windows (R8). -/
def State.scheduleTrack (s : State) (t : Nat) : State :=
  let s' := s.unscheduleTrack t
  if (s.trackEntry t).kind = .picture then s'.updTrack t fun k => { k with window := some (Window.create (s.trackEyes t)) } else s'

/-- The valid tracks that name a slot. -/
def State.slotTracks (s : State) (slot : Nat) : List Nat :=
  essenceTracks.filter fun t => (s.trackEntry t).valid && (s.trackEntry t).slot == slot

/-- The tracks of a slot become scheduled. -/
def State.scheduleSlot (s : State) (slot : Option Nat) : State :=
  match slot with
  | some n => (s.slotTracks n).foldl State.scheduleTrack s
  | none => s

/-- The tracks of a slot stop being scheduled. -/
def State.unscheduleSlot (s : State) (slot : Option Nat) : State :=
  match slot with
  | some n => (s.slotTracks n).foldl State.unscheduleTrack s
  | none => s

/-- Every scheduled track stops being scheduled (R7). -/
def State.unscheduleAll (s : State) : State := (essenceTracks.filter s.scheduled).foldl State.unscheduleTrack s

/-! ## Assembly -/

/-- The unit in assembly of a track. -/
def State.assembly (s : State) (t : Nat) : Option Assembly := (s.track t).assembly

/-- The unit in assembly of a track becomes this. -/
def State.setAssembly (s : State) (t : Nat) (a : Option Assembly) : State := s.updTrack t fun k => { k with assembly := a }

/-- Has the track an intact unit in assembly? -/
def State.intact (s : State) (t : Nat) : Bool :=
  match s.assembly t with
  | some a => !a.damaged
  | none => false

/-- An intact unit in assembly is damaged: its cells return, and a picture unit's entry becomes DAMAGED if it is still in the
window. A unit already damaged is not damaged again (R12). -/
def State.damage (s : State) (t : Nat) : State :=
  match s.assembly t with
  | some a =>
    if a.damaged then s
    else
      ((s.returnCells t a.cells).setAssembly t (some { a with bytes := [], cells := 0, damaged := true })).updWindow t
        fun w => if w.covers a.frame then w.set a.eye a.frame .damaged else w
  | none => s

/-- Damage that the damaged-unit counter counts (R12). -/
def State.damageCounted (s : State) (t : Nat) : State :=
  if s.intact t then (s.damage t).count t fun c => { c with damagedUnits := satInc c.damagedUnits } else s

/-- A dropped fragment is counted (R12, R15, R23). -/
def State.countDropped (s : State) (t : Nat) : State := s.count t fun c => { c with dropped := satInc c.dropped }

/-- A malformed parcel or unit of a track is counted (R13, R18, R21, R22). -/
def State.countMalformed (s : State) (t : Nat) : State := s.count t fun c => { c with malformed := satInc c.malformed }

/-- An out-of-order unit is counted (R21, R22, R24). -/
def State.countOutOfOrder (s : State) (t : Nat) : State := s.count t fun c => { c with outOfOrder := satInc c.outOfOrder }

/-- A delivered unit is counted (R21, R22, R24). -/
def State.countDelivered (s : State) (t : Nat) : State := s.count t fun c => { c with delivered := satInc c.delivered }

/-- On a last fragment the unit leaves assembly. -/
def State.leaveIfLast (s : State) (t : Nat) (last : Bool) : State := if last then s.setAssembly t none else s

/-- A first fragment ends whatever is in assembly (R14). -/
def State.endAssembly (s : State) (t : Nat) : State := (s.damageCounted t).setAssembly t none

/-- A new unit with the parcel's frame index and eye (R14). -/
def newAssembly (p : Parcel) : Assembly := { frame := p.frame, eye := p.eye, bytes := [], cells := 0, damaged := false }

/-- A failed grant: the unit is damaged, the parcel dropped and counted, OVERRUN raised (R19). -/
def State.overrun (s : State) (t : Nat) (last : Bool) : State :=
  (((s.damage t).count t fun c => { c with overruns := satInc c.overruns }).raise .overrun).leaveIfLast t last

/-! ## Completion -/

/-- A unit discarded by a completion check: its cells return (R21, R22). -/
def State.discardUnit (s : State) (t cells : Nat) : State := s.returnCells t cells

/-- A sound unit completes intact (R21). -/
def State.completeSound (s : State) (t : Nat) (a : Assembly) : State :=
  let e := s.trackEntry t
  let size := samplesPerFrame (s.composition e.slot).rateCode * e.channels.getD 0 * 3
  let s' := s.setAssembly t none
  if a.bytes.length ≠ size then (s'.discardUnit t a.cells).countMalformed t
  else if ∃ m ∈ (s.track t).lastFrame, a.frame ≤ m then (s'.discardUnit t a.cells).countOutOfOrder t
  else
    (s'.updTrack t fun k => { k with queue := k.queue ++ [{ frame := a.frame, bytes := a.bytes, cells := a.cells }],
                                     lastFrame := some a.frame }).countDelivered t

/-- The item that a subtitle unit's bytes hold (10.2). -/
def readItem (t : Nat) (b : Bytes) : Item :=
  { id := BitVec.ofNat 16 (field b 0 2), inFrame := field b 2 3, outFrame := field b 5 3, region := field b 8 1,
    fadeIn := field b 9 1, fadeOut := field b 10 1, text := b.drop 13, track := t }

/-- Steps 1 to 4 of R22: do the bytes hold a well-formed item? -/
def itemWellFormed (b : Bytes) : Bool :=
  13 ≤ b.length ∧ 1 ≤ field b 11 2 ∧ field b 11 2 ≤ 480 ∧ b.length = 13 + field b 11 2 ∧ field b 2 3 < field b 5 3 ∧
  field b 8 1 ≤ 3

/-- A subtitle unit completes intact (R22). -/
def State.completeSubtitle (s : State) (t : Nat) (a : Assembly) : State :=
  let s' := s.setAssembly t none
  if itemWellFormed a.bytes = false then (s'.discardUnit t a.cells).countMalformed t
  else if ∃ m ∈ (s.track t).lastFrame, a.frame ≤ m then (s'.discardUnit t a.cells).countOutOfOrder t
  else ((s'.updTrack t fun k => { k with lastFrame := some a.frame }).countDelivered t).offerItem (readItem t a.bytes)

/-! ## Taking payload -/

/-- The cells that a sound unit of `b` bytes in `c` cells needs for `len` more bytes (R17). -/
def soundCellsNeeded (b c len : Nat) : Nat := (b + len + (Config.cellBytes - 1)) / Config.cellBytes - c

/-- An intact sound unit takes a parcel's payload (R17). -/
def State.takeSound (s : State) (t : Nat) (a : Assembly) (p : Parcel) : State :=
  let need := soundCellsNeeded a.bytes.length a.cells p.payload.length
  if s.grantSucceeds t need then
    let a' := { a with bytes := a.bytes ++ p.payload, cells := a.cells + need }
    let s' := (s.grantCells t need).setAssembly t (some a')
    if p.last then s'.completeSound t a' else s'
  else s.overrun t p.last

/-- An intact subtitle unit takes a parcel's payload, at most 512 bytes in all (R18). -/
def State.takeSubtitle (s : State) (t : Nat) (a : Assembly) (p : Parcel) : State :=
  if 512 < a.bytes.length + p.payload.length then ((s.countMalformed t).damage t).leaveIfLast t p.last
  else
    let a' := { a with bytes := a.bytes ++ p.payload }
    let s' := s.setAssembly t (some a')
    if p.last then s'.completeSubtitle t a' else s'

/-- The first fragment of a subtitle unit is given its 2 cells before its payload is stored (R18). -/
def State.startSubtitle (s : State) (t : Nat) (p : Parcel) : State :=
  let s' := s.setAssembly t (some (newAssembly p))
  if s'.grantSucceeds t itemCells then
    let a := { newAssembly p with cells := itemCells }
    ((s'.grantCells t itemCells).setAssembly t (some a)).takeSubtitle t a p
  else s'.overrun t p.last

/-- A continuation that differs from what is in assembly (R15): with no unit it is dropped; a damaged unit absorbs it; an intact
unit is damaged, by `harm`, and the parcel is dropped with it. -/
def State.differing (s : State) (t : Nat) (last : Bool) (harm : State → Nat → State) : State :=
  match s.assembly t with
  | some _ => ((harm s t).countDropped t).leaveIfLast t last
  | none => s.countDropped t

/-- A continuation on a sound or subtitle track (R15). -/
def State.continueUnit (s : State) (t : Nat) (p : Parcel) (take : State → Nat → Assembly → Parcel → State) : State :=
  match s.assembly t with
  | some a => if a.damaged ∨ a.frame ≠ p.frame then s.differing t p.last State.damageCounted else take s t a p
  | none => s.differing t p.last State.damageCounted

/-! ## Picture -/

/-- A picture parcel is forwarded on the projector link (R24). -/
def State.forward (s : State) (p : Parcel) : State := s.send (.picture p.track p.first p.last p.eye p.frame p.payload)

/-- A picture parcel's last fragment completes its entry (R24). -/
def State.completePicture (s : State) (t : Nat) (p : Parcel) : State :=
  if p.last then
    ((s.updWindow t fun w => w.set p.eye p.frame .complete).countDelivered t).setAssembly t none
  else s

/-- A late or early parcel is counted and PICTURE_LOSS raised (R23). -/
def State.pictureLost (s : State) (t : Nat) (late : Bool) : State :=
  (s.count t fun c => if late then { c with pictureLate := satInc c.pictureLate }
    else { c with pictureEarly := satInc c.pictureEarly }).raise .pictureLoss

/-- A picture first fragment: it ends what is in assembly (R14), then meets the window test (R23) and its entry (R24). -/
def State.firstPicture (s : State) (t : Nat) (p : Parcel) : State :=
  let s' := s.endAssembly t
  match (s'.track t).window with
  | some w =>
    if w.covers p.frame then
      if w.entry p.eye p.frame = .complete then s'.countOutOfOrder t
      else
        (((s'.updWindow t fun w => w.set p.eye p.frame .inProgress).setAssembly t (some (newAssembly p))).forward p).completePicture t p
    else s'.pictureLost t (decide (p.frame < w.base))
  | none => s'

/-- A picture continuation: the window test comes first (R23), then R15 and R24. -/
def State.continuePicture (s : State) (t : Nat) (p : Parcel) : State :=
  match (s.track t).window with
  | some w =>
    if w.covers p.frame then
      match s.assembly t with
      | some a =>
        if a.damaged ∨ a.frame ≠ p.frame ∨ a.eye ≠ p.eye then s.differing t p.last State.damageCounted
        else (s.forward p).completePicture t p
      | none => s.differing t p.last State.damageCounted
    else (s.pictureLost t (decide (p.frame < w.base))).differing t p.last State.damage
  | none => s

/-! ## Essence parcels -/

/-- The content checks of R13: frame index below D, and on a picture track an eye of the composition. -/
def State.contentOk (s : State) (p : Parcel) : Bool :=
  let e := s.trackEntry p.track
  let c := s.composition e.slot
  decide (p.frame < c.duration) &&
    (e.kind != .picture ||
      match c.eyes with
      | .mono => p.eye == .mono
      | .stereo => p.eye == .left || p.eye == .right)

/-- The fragment handling of a parcel that has passed R13 (R14, R15). -/
def State.fragment (s : State) (p : Parcel) : State :=
  let t := p.track
  match (s.trackEntry t).kind with
  | .picture => if p.first then s.firstPicture t p else s.continuePicture t p
  | .subtitle => if p.first then (s.endAssembly t).startSubtitle t p else s.continueUnit t p State.takeSubtitle
  | .soundMain =>
    if p.first then ((s.endAssembly t).setAssembly t (some (newAssembly p))).takeSound t (newAssembly p) p
    else s.continueUnit t p State.takeSound
  | .soundAux =>
    if p.first then ((s.endAssembly t).setAssembly t (some (newAssembly p))).takeSound t (newAssembly p) p
    else s.continueUnit t p State.takeSound

/-- What the sequence check of R11 finds. -/
inductive SequenceCheck where
  | accepted | duplicate | gap
  deriving DecidableEq, Repr

/-- The sequence check of R11: `q` against the expected sequence, with 16-bit wrap. -/
def checkSequence (expected : Option Nat) (q : Nat) : SequenceCheck :=
  match expected with
  | none => .accepted
  | some e => if q = e then .accepted else if (q + 1) % 65536 = e then .duplicate else .gap

/-- A parcel accepted by the sequence check: the expected sequence moves on, the parcel is counted and its contents checked
(R11, R13). -/
def State.acceptParcel (s : State) (p : Parcel) : State :=
  let t := p.track
  let s' := (s.updTrack t fun k => { k with expected := some ((p.sequence + 1) % 65536) }).count t
    fun c => { c with accepted := satInc c.accepted }
  if s'.contentOk p then s'.fragment p else (s'.countMalformed t).damageCounted t

/-- An ESSENCE parcel on a track of 1 to 31 (R10, R11). -/
def State.essence (s : State) (p : Parcel) : State :=
  let t := p.track
  if s.scheduled t then
    match checkSequence (s.track t).expected p.sequence with
    | .accepted => s.acceptParcel p
    | .duplicate => s.count t fun c => { c with duplicates := satInc c.duplicates }
    | .gap => ((s.count t fun c => { c with gaps := satInc c.gaps }).damageCounted t).acceptParcel p
  else s.count t fun c => { c with notScheduled := satInc c.notScheduled }

end Sys2Proof.Machine
end

