-- ==== Sys2Proof/Machine/Show.lean ====
section
/-! DEFINITION. The show sequencer: arming (R35, R36), readiness (R37), the show commands (R38 to R54) and the position advance
(R49). The boundary's work stands in Machine/Boundary.lean. -/

namespace Sys2Proof.Machine

/-- The sequencer changes. -/
def State.updSeq (s : State) (f : Sequencer → Sequencer) : State := { s with seq := f s.seq }

/-- The period in force changes (R26). -/
def State.setPeriod (s : State) (p : Nat) : State := { s with clk := { s.clk with period := p } }

/-- The sheet cursor becomes none (R126). -/
def State.clearCursor (s : State) : State := { s with cue := { s.cue with cursor := none } }

/-- The consecutive-repeat count becomes 0 (R62). -/
def State.clearRepeats (s : State) : State := { s with repeats := 0 }

/-! ## Arming -/

/-- Do triggers stay within D and not decrease in store order (R35, check 9)? -/
def triggersOk (duration : Nat) : List Nat → Bool
  | [] => true
  | [a] => decide (a ≤ duration)
  | a :: b :: rest => decide (a ≤ duration ∧ a ≤ b) && triggersOk duration (b :: rest)

/-- The valid tracks of a kind that name a slot. -/
def State.kindTracks (s : State) (kind : TrackKind) (slot : Nat) : List Nat :=
  (s.slotTracks slot).filter fun t => (s.trackEntry t).kind == kind

/-- The checks of R35 on one slot of the playlist, with the slot before it. -/
def State.armSlotOk (s : State) (before : Option Nat) (slot : Nat) : Bool :=
  let c := s.composition slot
  decide (slot ≤ 7) && c.valid && before != some slot &&
  (s.kindTracks .picture slot).length == 1 &&
  decide ((s.kindTracks .soundMain slot).length ≤ 1 ∧ (s.kindTracks .soundAux slot).length ≤ 1) &&
  (s.kindTracks .soundMain slot ++ s.kindTracks .soundAux slot).all (fun t =>
    (s.trackEntry t).channels.isSome && channelsInRange (s.trackEntry t).kind (s.trackEntry t).channels) &&
  decide (c.countFrame < c.duration) &&
  c.licence.all (fun i => (s.licence i).valid) &&
  c.subtitle.all (fun t => (s.trackEntry t).valid && (s.trackEntry t).kind == .subtitle && (s.trackEntry t).slot == slot) &&
  c.sheet.all (fun x => triggersOk c.duration ((List.range' x.1 x.2).map fun i => (s.cueEntry i).trigger))

/-- The first position from `p` on that fails R35's checks. -/
def State.firstFailing (s : State) (before : Option Nat) (p : Nat) : List Nat → Option Nat
  | [] => none
  | slot :: rest => if s.armSlotOk before slot then s.firstFailing (some slot) (p + 1) rest else some p

/-- The failing position of a playlist: 0 for a wrong length, else the first position that fails (R35). -/
def State.armFailure (s : State) (slots : List Nat) : Option Nat :=
  if slots.length = 0 ∨ 16 < slots.length then some 0 else s.firstFailing none 1 slots

/-- The show enters ARMED with a playlist, and the tracks of positions 1 and 2 become scheduled (R36). -/
def State.enterArmed (s : State) (slots : List Nat) : State :=
  let s' := { s with seq := { state := .armed, playlist := slots, position := 1, frame := 0, cleared := false, prerollTimer := none,
                              stallTimer := none, reason := .none } }
  (s'.scheduleSlot s'.seq.currentSlot).scheduleSlot s'.seq.nextSlot

/-- ARM: the state after it, its result and the failing position of its reply (R35, R175, R188). -/
def State.armShow (s : State) (slots : List Nat) : State × Result × Nat :=
  if s.seq.state.active ∨ s.booth.latch then (s, .refusedState, 0)
  else
    match s.armFailure slots with
    | some p => (s, .malformed, p)
    | none => (s.enterArmed slots, .done, 0)

/-! ## Readiness (R37) -/

/-- The frames that readiness at `f` judges: the smaller of R and D − f. -/
def State.readyFrames (s : State) (f : Nat) : Nat := min s.tables.settings.prerollDepth (s.currentComposition.duration - f)

/-- Is every window entry of the next frames COMPLETE? -/
def State.pictureReady (s : State) (f : Nat) : Bool :=
  match s.currentTrack .picture with
  | some t =>
    match (s.track t).window with
    | some w => (List.range' f (s.readyFrames f)).all w.shows
    | none => false
  | none => false

/-- Does a sound track hold enough units with frame indices from `f` on? An absent track is ready. -/
def State.soundReady (s : State) (t : Option Nat) (f : Nat) : Bool :=
  match t with
  | some n => decide (s.readyFrames f ≤ ((s.track n).queue.filter fun u => decide (f ≤ u.frame)).length)
  | none => true

/-- The readiness predicate, judged at the next frame f of the composition at the current position (R37). -/
def State.ready (s : State) : Bool :=
  s.pictureReady s.seq.frame && s.soundReady (s.currentTrack .soundMain) s.seq.frame &&
    s.soundReady (s.currentTrack .soundAux) s.seq.frame

/-! ## Entries to the show states -/

/-- The show enters PREROLL with the timer at 0. From another state a BLACK is sent; from PREROLL none (R40, R49, R67). -/
def State.enterPreroll (s : State) : State :=
  let s' := if s.seq.state = .preroll then s else s.send .black
  s'.updSeq fun q => { q with state := .preroll, prerollTimer := some 0, stallTimer := none }

/-- The show enters ENDED (R49, R62, R67, R26). -/
def State.enterEnded (s : State) : State :=
  (((s.send .black).updSeq fun q =>
    { q with state := .ended, position := 0, frame := 0, prerollTimer := none, stallTimer := none }).setPeriod s.idlePeriod).clearRepeats.clearCursor

/-- The show enters STOPPED with a reason: the open record closes, every track stops being scheduled, BLACK is sent, the timers
stop and P becomes the idle S (R51, R62, R126). -/
def State.enterStopped (s : State) (reason : StopReason) : State :=
  ((((s.closeRecord.unscheduleAll.send .black).updSeq fun q =>
    { q with state := .stopped, reason := reason, prerollTimer := none, stallTimer := none }).setPeriod s.idlePeriod).clearRepeats).clearCursor

/-- The show enters HOLDING (R43). -/
def State.enterHolding (s : State) : State := (s.updSeq fun q => { q with state := .holding }).holdEvent

/-- The show enters STALLED on the stall trigger (R45, R62). -/
def State.enterStalled (s : State) : State :=
  (((s.updSeq fun q => { q with state := .stalled, stallTimer := some 0 }).raise .stall).holdEvent).clearRepeats

/-! ## The position advance (R49) -/

/-- The composition at the current position leaves it: the tracks of its slot stop being scheduled, f becomes 0, licence cleared
no, the cursor none and the repeat count 0 (R49, R62, R126). -/
def State.leavePosition (s : State) : State :=
  (((s.unscheduleSlot s.seq.currentSlot).updSeq fun q => { q with frame := 0, cleared := false }).clearCursor).clearRepeats

/-- The position moves on by one: past the end it becomes 0; otherwise the tracks of the new next slot become scheduled. -/
def State.movePosition (s : State) : State :=
  if s.seq.playlist.length ≤ s.seq.position then s.updSeq fun q => { q with position := 0 }
  else
    let s' := s.updSeq fun q => { q with position := q.position + 1 }
    s'.scheduleSlot s'.seq.nextSlot

/-- The position advance, over barred compositions too; it ends with a cleared composition at the current position, or past the
end with position 0. The number bounds the repeats: a playlist has at most 16 positions (R49). -/
def State.advance : Nat → State → State
  | 0, s => s
  | n + 1, s =>
    let s' := s.leavePosition.movePosition
    if s'.seq.position = 0 then s'
    else
      match s'.licenceCheck s'.currentComposition with
      | some reason => State.advance n (s'.writeBarred reason)
      | none => s'.updSeq fun q => { q with cleared := true }

/-- The whole advance from the present position. -/
def State.advancePosition (s : State) : State := State.advance (s.seq.playlist.length + 1) s

/-! ## Show commands (R34) -/

/-- START (R38). -/
def State.startShow (s : State) : Option State := if s.seq.state = .armed then some s.enterPreroll else none

/-- HOLD (R43). -/
def State.holdShow (s : State) : Option State := if s.seq.state = .playing then some s.enterHolding else none

/-- RESUME (R44). -/
def State.resumeShow (s : State) : Option State :=
  if s.seq.state = .holding then some (s.updSeq fun q => { q with state := .playing }).resumeEvent else none

/-- What SKIP ends: the open record with COMPOSITION_END, the timers, and a hold or a stall (R50). -/
def State.endBySkip (s : State) : State :=
  let s1 := if s.seq.state.onAir then s.closeRecord.raise .compositionEnd else s
  let s2 := s1.updSeq fun q => { q with prerollTimer := none, stallTimer := none }
  if s.seq.state = .holding ∨ s.seq.state = .stalled then s2.resumeEvent else s2

/-- SKIP (R50): the current composition ends at once and the position advances into PREROLL or ENDED. -/
def State.skipShow (s : State) : Option State :=
  if s.seq.state.running then
    let s' := s.endBySkip.advancePosition
    some (if s'.seq.position = 0 then s'.enterEnded else s'.enterPreroll)
  else none

/-- STOP (R51). -/
def State.stopShow (s : State) : Option State := if s.seq.state.active then some (s.enterStopped .command) else none

/-- CLEAR (R54): scheduled tracks stop being scheduled, the playlist is removed and P becomes the idle S. -/
def State.clearShow (s : State) : Option State :=
  if s.seq.state = .armed ∨ s.seq.state = .ended ∨ s.seq.state = .stopped then
    some ((({ s.unscheduleAll with seq := Sequencer.reset }).setPeriod s.idlePeriod).clearRepeats).clearCursor
  else none

/-- A show command against the show state as it stands; none when it is refused (R34). -/
def State.showCommand (s : State) (c : ShowCommand) : Option State :=
  match c with
  | .start => s.startShow
  | .hold => s.holdShow
  | .resume => s.resumeShow
  | .skip => s.skipShow
  | .stop => s.stopShow
  | .clear => s.clearShow

end Sys2Proof.Machine
end

