-- ==== Sys2Proof/Machine/Cue.lean ====
section
/-! DEFINITION. The cue engine: taking one entry (R130 to R133), macros and the return stack (R134, R135), the sheet's work at a
boundary (R127, R128) and macros run from booth inputs (R136). -/

namespace Sys2Proof.Machine

/-- The cue engine changes. -/
def State.updCue (s : State) (f : CueEngine → CueEngine) : State := { s with cue := f s.cue }

/-- MARK: the last mark tag is set and CUE_MARK raised (R132). -/
def State.markCue (s : State) (tag : Nat) : State := (s.updCue fun c => { c with lastMark := tag }).raise .cueMark

/-- One entry is taken by its kind; `expand` runs a macro from its first entry over its length (R130 to R134). -/
def State.takeCue (expand : Nat → Nat → State → State) (s : State) (c : Cue) : State :=
  match c with
  | .empty => s
  | .lineLevel line level => s.setCueLevel line level
  | .linePulse g line mode count pulse space => s.linePulse g line mode count pulse space
  | .pulseStop g => s.pulseStop g
  | .fader target rate => s.faderCue target rate
  | .route map => s.activateMap map
  | .subtitles track => s.nameActive track
  | .callMacro first length => expand first length s
  | .mark tag => s.markCue tag
  | .holdShow => s.updCue fun k => { k with pendingHold := true }

/-- A return point joins the newest end of the stack (R134). -/
def State.pushReturn (s : State) (r : ReturnPoint) : State := s.updCue fun c => { c with stack := r :: c.stack }

/-- The newest return point is removed (R134). -/
def State.popReturn (s : State) : State := s.updCue fun c => { c with stack := c.stack.tail }

/-- A run takes `left` entries from index `i` on, one after another. A MACRO's return point names this run's next entry and how many
it still has to take (R134). -/
def State.runEntries (expand : ReturnPoint → Nat → Nat → State → State) : Nat → Nat → State → State
  | 0, _, s => s
  | left + 1, i, s =>
    State.runEntries expand left (i + 1) (s.takeCue (expand (.run (i + 1) left)) (s.cueEntry i).cue)

/-- A MACRO taken with room for `n` more return points: with none it is skipped and CUE_NEST raised (R135); otherwise its return
point is added, its entries run, and the return point is removed (R134). -/
def State.expandMacro : Nat → ReturnPoint → Nat → Nat → State → State
  | 0, _, _, _, s => s.raise .cueNest
  | n + 1, back, first, length, s =>
    (State.runEntries (State.expandMacro n) length first (s.pushReturn back)).popReturn

/-- Each expansion starts with the stack empty and the pending hold clear (R125). -/
def State.startExpansion (s : State) : State := s.updCue fun c => { c with stack := [], pendingHold := false }

/-- When an expansion ends with the pending hold set, one HOLD goes to the sequencer; in a state other than PLAYING it has no
effect (R133, R43). -/
def State.endExpansion (s : State) : State :=
  let s' := s.updCue fun c => { c with stack := [], pendingHold := false }
  if s.cue.pendingHold then s'.holdShow.getD s' else s'

/-- The due entries of the current sheet at frame `f`: while the entry at the cursor has a trigger at or below `f`, the cursor
moves past it and it is taken. The number bounds the entries of a sheet (R127). -/
def State.sheetWork (f : Nat) : Nat → State → State
  | 0, s => s
  | n + 1, s =>
    match s.cue.cursor with
    | some k =>
      if k.next < k.stop ∧ (s.cueEntry k.next).trigger ≤ f then
        State.sheetWork f n ((s.updCue fun c => { c with cursor := some { k with next := k.next + 1 } }).takeCue
          (State.expandMacro Config.macroDepth .sheet) (s.cueEntry k.next).cue)
      else s
    | none => s

/-- The cue work of a boundary at frame `f`, in its expansion. -/
def State.cueWork (s : State) (f : Nat) : State := State.sheetWork f 512 s

/-- A macro run from a booth input: the outer run of a new expansion, at depth 0 (R136). -/
def State.inputMacro (s : State) (first length : Nat) : State :=
  (State.runEntries (State.expandMacro Config.macroDepth) length first s.startExpansion).endExpansion

end Sys2Proof.Machine
end

