-- ==== Sys2Proof/Machine/Boundary.lean ====
section
/-! DEFINITION. The frame boundary: presentation of a frame (R41, R42, R57, R60 to R63), the end boundary (R48), the work in each
show state (R39, R46, R66), and the flow count (R181). -/

namespace Sys2Proof.Machine

/-- The start of a composition, at the boundary that presents its frame 0 (R42): P, COMPOSITION_START, the routing map, the fader
target, the active subtitle track, the sheet cursor and the open record. -/
def State.startComposition (s : State) : State :=
  let c := s.currentComposition
  let s1 := ((s.setPeriod (samplesPerFrame c.rateCode)).raise .compositionStart).activateMap c.map
  let s2 := (s1.startFader c.fader).nameActive c.subtitle
  (s2.updCue fun k => { k with cursor := c.sheet.map fun x => { next := x.1, stop := x.1 + x.2 } }).openRecord

/-- The verdict on frame `f` (R60): SHOW when its entries are COMPLETE on every eye. -/
def State.verdict (s : State) (f : Nat) : Bool :=
  match s.currentTrack .picture with
  | some t =>
    match (s.track t).window with
    | some w => w.shows f
    | none => false
  | none => false

/-- The marker of a verdict (R65). -/
def State.sendVerdict (s : State) (f : Nat) (shown : Bool) : State :=
  let t := (s.currentTrack .picture).getD 0
  s.send (if shown then .showFrame t f else .repeatFrame t f)

/-- The consecutive-repeat count after a verdict, and the stall trigger when it exceeds the stall limit (R62, R63). -/
def State.countRepeat (s : State) (shown : Bool) : State :=
  let s' := { s with repeats := if shown then 0 else s.repeats + 1 }
  if s.tables.settings.stallLimit < s'.repeats then s'.enterStalled else s'

/-- The windows of the current composition's picture track move past frame `f` (R57). -/
def State.advanceWindows (s : State) (f : Nat) : State :=
  match s.currentTrack .picture with
  | some t => s.updWindow t fun w => w.advance f
  | none => s

/-- Frame Presentation's work on frame `f`, in the order of R61. -/
def State.present (s : State) (f : Nat) : State :=
  let shown := s.verdict f
  ((((s.sendVerdict f shown).accountVerdict f shown).countRepeat shown).advanceWindows f)

/-- A PLAYING boundary that presents frame f (R41): the composition start when f is 0, Frame Presentation, the sound block, the
subtitle engine's work, and then the due cues (R127). Afterwards f is one more. -/
def State.playFrame (m : Mix) (s : State) : State :=
  let f := s.seq.frame
  let s1 := if f = 0 then s.startComposition else s
  let s2 := (s1.updSeq fun q => { q with frame := f + 1 }).present f
  ((s2.frameBlock m f).subtitleWork f).cueWork f

/-- What follows an advance made at a boundary (R49): ENDED past the end; the new composition's frame 0 when it is ready; else
PREROLL. -/
def State.afterAdvance (m : Mix) (s : State) : State :=
  if s.seq.position = 0 then s.enterEnded.silentBlock
  else if s.ready then
    (s.updSeq fun q => { q with state := .playing, prerollTimer := none, stallTimer := none }).playFrame m
  else s.enterPreroll.silentBlock

/-- The end boundary (R48): the trigger-D cues, the close of the record, COMPOSITION_END, the advance. -/
def State.endBoundary (m : Mix) (s : State) : State :=
  ((((s.cueWork s.seq.frame).closeRecord).raise .compositionEnd).advancePosition).afterAdvance m

/-- A boundary taken in PLAYING (R41). -/
def State.playBoundary (m : Mix) (s : State) : State :=
  if s.seq.frame < s.currentComposition.duration then s.playFrame m else s.endBoundary m

/-- A boundary in PREROLL (R39). -/
def State.prerollBoundary (m : Mix) (s : State) : State :=
  if s.ready then
    let enter (s : State) : State := s.updSeq fun q => { q with state := .playing, cleared := true, prerollTimer := none }
    if s.seq.cleared then (enter s).playBoundary m
    else
      match s.licenceCheck s.currentComposition with
      | none => (enter s).playBoundary m
      | some reason => ((s.writeBarred reason).advancePosition).afterAdvance m
  else s.silentBlock

/-- A boundary in STALLED (R46, R66). -/
def State.stalledBoundary (m : Mix) (s : State) : State :=
  if s.ready then ((s.updSeq fun q => { q with state := .playing, stallTimer := none }).resumeEvent).playBoundary m
  else (s.send .hold).silentBlock

/-- The work of a boundary in each show state (R26, R53, R66, R69). -/
def State.boundaryWork (m : Mix) (s : State) : State :=
  match s.seq.state with
  | .preroll => s.prerollBoundary m
  | .playing => s.playBoundary m
  | .stalled => s.stalledBoundary m
  | .holding => (s.send .hold).silentBlock
  | .idle => s.silentBlock
  | .armed => s.silentBlock
  | .ended => s.silentBlock
  | .stopped => s.silentBlock

/-- The countdown is loaded with P (R26). -/
def State.reloadCountdown (s : State) : State := { s with clk := { s.clk with countdown := s.clk.period } }

/-- The flow count at a boundary that found `found` (R181): in PREROLL, PLAYING and STALLED, when the show state did not change,
it rises by 1, and at the flow interval one FLOW report is queued. -/
def State.countFlow (found : ShowState) (s : State) : State :=
  if s.seq.state = found ∧ (found = .preroll ∨ found = .playing ∨ found = .stalled) then
    if s.tables.settings.flowInterval ≤ s.mgmt.flowCount + 1 then s.flowReport
    else { s with mgmt := { s.mgmt with flowCount := s.mgmt.flowCount + 1 } }
  else s

/-- A frame boundary (R26). The block is mixed with the settings in force when the boundary is raised, and the fader steps before
anything is handed to it (R72); a pending hold is handed on when the boundary's work is complete (R133). -/
def State.frameBoundary (s : State) : State :=
  ((State.boundaryWork s.mix s.stepFader.startExpansion).endExpansion.reloadCountdown).countFlow s.seq.state

end Sys2Proof.Machine
end

