-- ==== Sys2Proof/Machine/Emergency.lean ====
section
/-! DEFINITION. The emergency latch (R149 to R153) and the inputs' debounce and actions (R147, R148). -/

namespace Sys2Proof.Machine

/-- The sequencer's and Frame Presentation's part of the setting of the latch: STOPPED with reason EMERGENCY from every state but
IDLE, and one BLACK in every state (R52, R68). -/
def State.emergencyShow (s : State) : State :=
  match s.seq.state with
  | .idle => s.send .black
  | .stopped => (s.send .black).updSeq fun q => { q with reason := .emergency }
  | .armed => s.enterStopped .emergency
  | .preroll => s.enterStopped .emergency
  | .playing => s.enterStopped .emergency
  | .holding => s.enterStopped .emergency
  | .stalled => s.enterStopped .emergency
  | .ended => s.enterStopped .emergency

/-- An EMERGENCY input becomes active: the latch is set and its effects follow; while it is already set nothing more happens
(R150, R151). -/
def State.setLatch (s : State) : State :=
  if s.booth.latch then s
  else
    let s' := s.emergencyShow.muteSound.stopGenerators
    { s' with booth := { s'.booth with latch := true } }.raise .emergency

/-- RELEASE_EMERGENCY; none when it is refused (R153). -/
def State.releaseLatch (s : State) : Option State :=
  if s.booth.latch ∧ (List.range s.booth.inputs.length).all (fun i => !s.emergencyActive i) then
    some { s.unmuteSound with booth := { s.booth with latch := false } }
  else none

/-- The edge of an accepted change to a level (07, section 7.3). -/
def edgeTo : InLevel → Edge
  | .low => .falling
  | .high => .rising

/-- The action of an accepted active edge (R148). -/
def State.inputAction (s : State) (a : InputAction) : State :=
  match a with
  | .nothing => s
  | .start => (s.startShow).getD (s.raise .inputRefused)
  | .hold => (s.holdShow).getD (s.raise .inputRefused)
  | .resume => (s.resumeShow).getD (s.raise .inputRefused)
  | .stop => (s.stopShow).getD (s.raise .inputRefused)
  | .skip => (s.skipShow).getD (s.raise .inputRefused)
  | .runMacro first length => s.inputMacro first length
  | .emergency => s

/-- An input's pending change is accepted: its debounced level becomes its raw level, and the edge goes to its entry (R147, R148,
R150). -/
def State.acceptChange (s : State) (i : Nat) : State :=
  let e := s.inputEntry i
  let level := (s.input i).raw
  let s' := s.updInput i fun k => { k with debounced := k.raw, waiting := none }
  if e.enabled then
    if e.action = .emergency then if level = e.edge.activeLevel then s'.setLatch else s'
    else if edgeTo level = e.edge then s'.inputAction e.action else s'
  else s'

/-- An accepted edge, one event taken whole (R148). -/
def State.acceptEdge (s : State) (i : Nat) : State := event (fun s => s.acceptChange i) s

/-- The raw level of an input becomes this level (R147). -/
def State.changeInput (s : State) (i : Nat) (level : InLevel) : State :=
  if (s.input i).raw = level then s
  else
    let s' := s.updInput i fun k => { k with raw := level }
    if level = (s.input i).debounced then s'.updInput i fun k => { k with waiting := none }
    else if (s.inputEntry i).debounce = 0 then s'.acceptEdge i
    else s'.updInput i fun k => { k with waiting := some 0 }

/-! ## The millisecond tick -/

/-- Is a pending change of an input accepted at this tick (R147)? -/
def State.dueAtTick (s : State) (i : Nat) : Bool :=
  match (s.input i).waiting with
  | some n => decide ((s.inputEntry i).debounce ≤ n + 1)
  | none => false

/-- The tick reaches the generators and the debounce counts (R144, R147). -/
def State.tickLines (s : State) : State :=
  { s with
    booth := { s.booth with
      generators := s.booth.generators.map Generator.tick
      inputs := s.booth.inputs.map fun k => { k with waiting := k.waiting.map (· + 1) } }
    clk := { s.clk with msDivider := 0 } }

/-- The inputs accepted at a tick, in the order given, the others after them by number (log 10). -/
def State.dueInputs (s : State) (order : List (Fin 8)) : List Nat :=
  let given := (order.map Fin.val).eraseDups
  (given ++ (List.range 8).filter fun i => !given.contains i).filter s.dueAtTick

/-- A millisecond tick (R27): the generators and counts first, then each accepted edge as an event of its own. -/
def State.millisecondTick (s : State) (order : List (Fin 8)) : State := (s.dueInputs order).foldl State.acceptEdge s.tickLines

end Sys2Proof.Machine
end

