-- ==== Sys2Proof/Machine/Clock.lean ====
section
/-! DEFINITION. The commands of the show clock, of the resets and of the booth inputs: sample periods, boundaries, ticks, the
derived events of a tick or a boundary, and the pins. A command whose event cannot occur in the state it finds has no effect
(log 1, log 2). -/

namespace Sys2Proof.Machine

/-! ## Resets -/

/-- The raw levels on the input lines. -/
def State.rawLevels (s : State) : List InLevel := s.booth.inputs.map Input.raw

/-- POWER_ON_RESET: power-on reset ends with the raw levels now on the inputs (R26, R67, R150). -/
def execPowerOnReset (s : State) : Host.Outcome State Fault Refusal := .next (State.powerOn s.rawLevels s.link s.pending)

/-- RESET_ASSERTED: the part is held in power-on reset: every lane sends 0 and every output line is RELEASE (R73, R141). What the
blocks hold is what POWER_ON_RESET will set again; no record is sent. -/
def execResetAsserted (s : State) : Host.Outcome State Fault Refusal :=
  .next { State.powerOn s.rawLevels s.link s.pending with link := s.link, inReset := true }

/-! ## Samples, boundaries and ticks -/

/-- One sample period (R26, R27, R73, R89, R100): every lane sends its next sample, the countdown falls by 1 and the dividers count.
With the countdown at 0 the frame boundary comes first, and no sample period passes (log 18). -/
def State.samplePeriod (s : State) : State :=
  if s.clk.countdown = 0 then s
  else
    { s with
      snd := { s.snd with lanes := s.snd.lanes.map Lane.sample }
      clk := { s.clk with countdown := s.clk.countdown - 1, msDivider := (s.clk.msDivider + 1) % 48,
                          secDivider := (s.clk.secDivider + 1) % 48000 } }

/-- SAMPLE_PERIOD (R89, R100). -/
def execSamplePeriod (s : State) : Host.Outcome State Fault Refusal := run State.samplePeriod s

/-- FRAME_BOUNDARY (R26). -/
def execFrameBoundary (s : State) : Host.Outcome State Fault Refusal := run (event State.frameBoundary) s

/-- MILLISECOND_TICK (R27, R144, R147). -/
def execMillisecondTick (order : List (Fin 8)) (s : State) : Host.Outcome State Fault Refusal :=
  run (fun s => s.millisecondTick order) s

/-- Booth time rises by 1 if it is set, and stays at its greatest value; the second divider is at 0 (R27, R28). -/
def Clock.second (c : Clock) : Clock := { c with booth := c.booth.map fun n => min (n + 1) Config.max32, secDivider := 0 }

/-- The preroll timer reaches its timeout (R40). -/
def State.prerollExpires (s : State) : State := s.enterStopped .prerollTimeout

/-- The stall timer reaches its timeout (R47). -/
def State.stallExpires (s : State) : State := s.enterStopped .starved

/-- The timers count a second tick, and one that reaches its timeout stops the show (R40, R47). -/
def State.countTimers (s : State) : State :=
  match s.seq.state with
  | .preroll =>
    let n := s.seq.prerollTimer.getD 0 + 1
    let s' := s.updSeq fun q => { q with prerollTimer := some n }
    if s.tables.settings.prerollTimeout ≤ n then s'.prerollExpires else s'
  | .stalled =>
    let n := s.seq.stallTimer.getD 0 + 1
    let s' := s.updSeq fun q => { q with stallTimer := some n }
    if s.tables.settings.stallTimeout ≤ n then s'.stallExpires else s'
  | .idle => s
  | .armed => s
  | .playing => s
  | .holding => s
  | .ended => s
  | .stopped => s

/-- A second tick (R28, R40, R47). -/
def State.secondTick (s : State) : State := { s with clk := s.clk.second }.countTimers

/-- SECOND_TICK (R28). -/
def execSecondTick (s : State) : Host.Outcome State Fault Refusal := run (event State.secondTick) s

/-! ## Derived events as commands of their own -/

/-- PREROLL_TIMEOUT (R40): the preroll timer, which runs in PREROLL, reaches its timeout. -/
def execPrerollTimeout (s : State) : Host.Outcome State Fault Refusal :=
  run (event fun s => if s.seq.state = .preroll then s.prerollExpires else s) s

/-- STALL_TIMEOUT (R47): the stall timer, which runs in STALLED, reaches its timeout. -/
def execStallTimeout (s : State) : Host.Outcome State Fault Refusal :=
  run (event fun s => if s.seq.state = .stalled then s.stallExpires else s) s

/-- STALL_TRIGGER (R45, R63): the sequencer takes the trigger in PLAYING, and the repeat count becomes 0. -/
def execStallTrigger (s : State) : Host.Outcome State Fault Refusal :=
  run (event fun s => if s.seq.state = .playing then s.enterStalled else s) s

/-- FLOW_INTERVAL (R181): in PREROLL, PLAYING or STALLED the flow count reaches the flow interval. -/
def execFlowInterval (s : State) : Host.Outcome State Fault Refusal :=
  run (event fun s =>
    if s.seq.state = .preroll ∨ s.seq.state = .playing ∨ s.seq.state = .stalled then s.flowReport else s) s

/-- PHASE_END (R144): the ticks left of a running generator reach 0. An IDLE generator stays as it is. -/
def execPhaseEnd (g : Fin 4) (s : State) : Host.Outcome State Fault Refusal :=
  run (event fun s => s.setGenerators (s.booth.generators.modify g.val Generator.endPhase)) s

/-! ## Inputs -/

/-- INPUT_LEVEL_CHANGE (R147). While power-on reset is held the pin's level is all that changes. -/
def execInputLevelChange (i : Fin 8) (level : InLevel) (s : State) : Host.Outcome State Fault Refusal :=
  .next (if s.inReset then s.updInput i.val fun k => { k with raw := level } else s.changeInput i.val level)

/-- ACCEPTED_EDGE (R147, R148): the pending change of an input is accepted. A STABLE input has none. -/
def execAcceptedEdge (i : Fin 8) (s : State) : Host.Outcome State Fault Refusal :=
  run (fun s => if (s.input i.val).waiting.isSome then s.acceptEdge i.val else s) s

end Sys2Proof.Machine
end

