-- ==== Sys2Proof/Machine/Manage.lean ====
section
/-! DEFINITION. Management: table access (R172 to R174), the other requests (R175 to R180, R184), their replies, the management
input queue (R170) and the reservation of reply slots (R182). -/

namespace Sys2Proof.Machine

/-! ## Writing tables -/

/-- The checks on an entry's index (R173): the table's last index, and entry 0 of table 1, which no valid entry may take (R5). -/
def indexRefused (table i : Nat) (b : Bytes) : Bool :=
  decide ((tableEntries table).getD 0 ≤ i) || (table == 1 && i == 0 && bitAt b 0 7)

/-- Does a valid track entry name a slot of the armed playlist (R5)? -/
def State.namesPlaylist (s : State) (e : TrackEntry) : Bool := e.valid && s.seq.playlist.contains e.slot

/-- The in-use check of an entry, judged against the state when the request was taken (R5, R29, R31, R81, R124, R139, R156, R173). -/
def State.inUse (s : State) (i : Nat) (e : Entry) : Bool :=
  match e with
  | .track e => s.seq.state.active && (s.namesPlaylist (s.trackEntry i) || s.namesPlaylist e)
  | .composition _ => s.seq.state.active && s.seq.playlist.contains i
  | .licence _ => s.seq.state.running && s.seq.cleared && s.currentComposition.licence == some i
  | .routing _ => i / 24 == s.snd.activeMap
  | .lane _ => false
  | .cue _ => s.seq.state.active
  | .line e => s.booth.latch && e.safety != (s.tables.line.getD i LineSetting.off).safety
  | .input _ => false
  | .settings _ => s.seq.state.running

/-- One entry of a WRITE_TABLE is judged, the first check that fails giving the result (R173). -/
def State.judgeEntry (s : State) (table i : Nat) (b : Bytes) : Except Result Entry :=
  if indexRefused table i b then .error .outOfRange
  else
    match decodeEntry table b with
    | .error r => .error r
    | .ok e => if s.inUse i e then .error .refusedInUse else .ok e

/-- The entries of a body, `size` bytes each. -/
def splitEntries (size : Nat) : Nat → Bytes → List Bytes
  | 0, _ => []
  | n + 1, b => b.take size :: splitEntries size n (b.drop size)

/-- The entries are judged in index order from `i`; the first that fails is answered with its index (R173). -/
def State.judgeEntries (s : State) (table : Nat) : Nat → List Bytes → Except (Nat × Result) (List Entry)
  | _, [] => .ok []
  | i, b :: rest =>
    match s.judgeEntry table i b with
    | .error r => .error (i, r)
    | .ok e =>
      match s.judgeEntries table (i + 1) rest with
      | .error x => .error x
      | .ok es => .ok (e :: es)

/-- One entry is stored at its index. -/
def Tables.store (t : Tables) (i : Nat) (e : Entry) : Tables :=
  match e with
  | .track e => { t with track := t.track.set i e }
  | .composition e => { t with composition := t.composition.set i e }
  | .licence e => { t with licence := t.licence.set i e }
  | .routing e => { t with routing := t.routing.set i e }
  | .lane e => { t with lane := t.lane.set i e }
  | .cue e => { t with cue := t.cue.set i e }
  | .line e => { t with line := t.line.set i e }
  | .input e => { t with input := t.input.set i e }
  | .settings e => { t with settings := e }

/-- Entries are stored at consecutive indices (R173). -/
def Tables.storeAll (t : Tables) : Nat → List Entry → Tables
  | _, [] => t
  | i, e :: rest => (t.store i e).storeAll (i + 1) rest

/-- The effect that an owner ties to the storing of an entry, `before` being the state when the request was taken (R173): a line's
cue level becomes its idle level (R140), an input that becomes an active EMERGENCY input sets the latch (R150), and the idle
frame rate code sets the period, which is the idle S in every state that accepts the write (R26). -/
def State.storeEffect (before : State) (s : State) (i : Nat) (e : Entry) : State :=
  match e with
  | .line e => s.setCueLevel i e.idle
  | .input _ => if s.emergencyActive i ∧ before.emergencyActive i = false then s.setLatch else s
  | .settings _ => s.setPeriod s.idlePeriod
  | .track _ => s
  | .composition _ => s
  | .licence _ => s
  | .routing _ => s
  | .lane _ => s
  | .cue _ => s

/-- The effects of the entries stored, in index order. -/
def State.storeEffects (before : State) : State → Nat → List Entry → State
  | s, _, [] => s
  | s, i, e :: rest => State.storeEffects before (State.storeEffect before s i e) (i + 1) rest

/-- A WRITE_TABLE request: the state after it, its result and the index of its reply (R172, R173, R188). -/
def State.writeEntries (s : State) (table index count : Nat) (entries : Bytes) : State × Result × Nat :=
  if tableEntries table = none then (s, .unknownTable, index)
  else if count = 0 then (s, .malformed, index)
  else if table = 11 ∨ table = 12 then (s, .refusedState, index)
  else if entries.length ≠ count * entrySize table then (s, .malformed, index)
  else
    match s.judgeEntries table index (splitEntries (entrySize table) count entries) with
    | .error (i, r) => (s, r, i)
    | .ok es => (State.storeEffects s { s with tables := s.tables.storeAll index es } index es, .done, index)

/-! ## Reading tables -/

/-- The bytes of a table's entry as it stands (R174). -/
def State.readEntry (s : State) (table i : Nat) : Bytes :=
  match table with
  | 1 => encodeEntry (.track (s.trackEntry i))
  | 2 => encodeEntry (.composition (s.composition i))
  | 3 => encodeEntry (.licence (s.licence i))
  | 4 => encodeEntry (.routing (s.tables.routing.getD i Recipe.off))
  | 5 => encodeEntry (.lane (s.laneSetting i))
  | 6 => encodeEntry (.cue (s.cueEntry i))
  | 7 => encodeEntry (.line (s.tables.line.getD i LineSetting.off))
  | 8 => encodeEntry (.input (s.inputEntry i))
  | 10 => encodeEntry (.settings s.tables.settings)
  | 11 => encodeMeter (s.snd.lanes.getD i Lane.powerOn)
  | 12 => if i = 32 then encodeGlobal s.port s.freeCells else encodeCounters (s.track i)
  | _ => []

/-- The meters of lanes `first` to `first + n − 1` restart (R101). -/
def State.restartMeters (s : State) (first n : Nat) : State :=
  { s with snd := { s.snd with lanes := s.snd.lanes.mapIdx fun j l =>
      if first ≤ j ∧ j < first + n then { l with peak := 0, clips := 0 } else l } }

/-- How many entries a READ_TABLE returns (R174). -/
def entriesReturned (table index count : Nat) : Nat :=
  min count (min ((tableEntries table).getD 0 - index) (entriesPerReply table))

/-- A READ_TABLE request: the state after it, its result, the number returned and the entries (R172, R174). -/
def State.readEntries (s : State) (table index count : Nat) : State × Result × Nat × Bytes :=
  match tableEntries table with
  | none => (s, .unknownTable, 0, [])
  | some last =>
    if count = 0 then (s, .malformed, 0, [])
    else if last ≤ index then (s, .outOfRange, 0, [])
    else
      let n := entriesReturned table index count
      (if table = 11 then s.restartMeters index n else s, .done, n, (List.range' index n).flatMap (s.readEntry table))

/-! ## Reply bodies -/

/-- The body of a SHOW or WARM_RESET reply: show state, emergency latch, failing position (10.3, R188). -/
def State.showBody (s : State) (failing : Nat) : Bytes := [s.seq.state.code, boolByte s.booth.latch] ++ be 1 failing

/-- The status block of QUERY_STATUS: 44 bytes (R176, 10.3). -/
def State.statusBlock (s : State) : Bytes :=
  be 2 Config.partIdentity ++ be 1 Config.partRevision ++ [s.seq.state.code, s.seq.reason.code] ++ be 1 s.seq.position ++
  be 3 s.seq.frame ++ be 3 s.windowBase ++ be 2 s.freeCells ++ [boolByte s.booth.latch] ++ be 3 s.mgmt.flags.toNat ++
  be 3 s.mgmt.enables.toNat ++ [boolByte s.clk.booth.isSome] ++ optField 4 s.clk.booth ++ be 2 s.sub.refused ++ be 2 s.sub.stale ++
  be 2 s.sub.late ++ be 2 s.sub.preempted ++ be 1 s.acct.log.length ++ be 4 s.acct.nextNumber ++ be 2 s.acct.drops ++
  [s.acct.lastBarred.code] ++ be 2 s.cue.lastMark

/-- The records of the log numbered `n` or above, oldest first (R177). -/
def State.recordsFrom (s : State) (n : Nat) : List Record :=
  s.acct.log.reverse.filter fun r => numberAtOrAbove s.acct.nextNumber r.number n

/-- The body of a FETCH_SHOWINGS reply (R177, R187). -/
def State.fetchBody (s : State) (n : Nat) : Bytes :=
  be 1 (min 4 (s.recordsFrom n).length) ++ [boolByte (decide (4 < (s.recordsFrom n).length))] ++
  ((s.recordsFrom n).take 4).flatMap Record.encode

/-- Does TRIM_SHOWINGS remove a record: closed, and numbered `n` or below (R178)? -/
def State.trimmed (s : State) (n : Nat) (r : Record) : Bool :=
  r.outcome != .opened && numberAtOrAbove s.acct.nextNumber n r.number

/-- The flag and enable fields (10.3). -/
def State.flagBytes (s : State) : Bytes := be 3 s.mgmt.flags.toNat
def State.enableBytes (s : State) : Bytes := be 3 s.mgmt.enables.toNat

/-- The reply body of a request that R171 refuses: the layout of its kind with every field as held when the reply is made (10.3,
R187, R188; log 13). The table and index that a too short payload does not hold are free values (log 14). DEDUCED (log 30): the
failing position of an ARM refused for the length of its body is 0. -/
def State.malformedBody (s : State) (payload : Bytes) : Bytes :=
  match payload with
  | kind :: _ :: body =>
    let access : Bytes :=
      [body.headD (Config.absentTable payload)] ++
      (match body with
       | _ :: a :: b :: _ => [a, b]
       | _ => be 2 (Config.absentIndex payload).toNat) ++ [0]
    if kind = 1 then access
    else if kind = 2 then access
    else if kind = 3 then s.showBody 0
    else if kind = 4 then optField 4 s.clk.booth
    else if kind = 5 then s.statusBlock
    else if kind = 6 then [0, 0]
    else if kind = 7 then [0] ++ be 1 s.acct.log.length
    else if kind = 8 then s.enableBytes ++ s.flagBytes
    else if kind = 9 then s.flagBytes
    else if kind = 10 then s.showBody 0
    else []
  | _ => []

/-! ## Warm reset (R184) -/

/-- The warm reset of every block, and then the management block's part: the flags are cleared, and the waiting EVENT and FLOW
parcels removed. -/
def State.warm (s : State) : State :=
  let s1 := (s.emptyRegions fun _ => true).send .black
  let s2 := { s1 with
    tracks := List.replicate 32 Track.empty
    freeCells := Config.poolCells
    sub := Subtitles.reset
    acct := s1.acct.warm
    seq := Sequencer.reset
    clk := { s1.clk with period := s1.idlePeriod, countdown := s1.idlePeriod }
    repeats := 0
    cue := CueEngine.reset
    booth := { s1.booth with cueLevels := s1.tables.line.map LineSetting.idle, generators := List.replicate 4 Generator.off }
    port := { s1.port with crcErrors := 0, malformed := 0, fills := 0 } }.warmSound
  { s2 with mgmt := { s2.mgmt with flags := 0, eventSlot := none, flowCount := 0,
                                   slots := s2.mgmt.slots.filter fun p => p.kind == .reply } }

/-! ## Executing a request -/

/-- What a request does: the state after it, its result and its reply body. -/
def State.perform (s : State) (r : Request) : State × Result × Bytes :=
  match r with
  | .writeTable _ table index count entries =>
    let x := s.writeEntries table.toNat index.toNat count.toNat entries
    (x.1, x.2.1, [table] ++ be 2 x.2.2 ++ [if x.2.1 = .done then count else 0])
  | .readTable _ table index count =>
    let x := s.readEntries table.toNat index.toNat count.toNat
    (x.1, x.2.1, [table] ++ be 2 index.toNat ++ be 1 x.2.2.1 ++ x.2.2.2)
  | .arm _ slots =>
    let x := s.armShow (slots.map BitVec.toNat)
    (x.1, x.2.1, x.1.showBody x.2.2)
  | .showCommand _ c =>
    match s.showCommand c with
    | some s' => (s', .done, s'.showBody 0)
    | none => (s, .refusedState, s.showBody 0)
  | .releaseEmergency _ =>
    match s.releaseLatch with
    | some s' => (s', .done, s'.showBody 0)
    | none => (s, .refusedState, s.showBody 0)
  | .setClock _ seconds =>
    ({ s with clk := { s.clk with booth := some seconds.toNat, secDivider := 0 } }, .done, be 4 seconds.toNat)
  | .queryStatus _ => (s, .done, s.statusBlock)
  | .fetchShowings _ n => (s, .done, s.fetchBody n.toNat)
  | .trimShowings _ n =>
    let kept := s.acct.log.filter fun r => !s.trimmed n.toNat r
    ({ s with acct := { s.acct with log := kept } }, .done, be 1 (s.acct.log.length - kept.length) ++ be 1 kept.length)
  | .setEventEnables _ m =>
    let s' := { s with mgmt := { s.mgmt with enables := m.setWidth 17 } }
    (s', .done, s'.enableBytes ++ s'.flagBytes)
  | .clearEvents _ m =>
    let s' := { s with mgmt := { s.mgmt with flags := s.mgmt.flags &&& ~~~(m.setWidth 17) } }
    (s', .done, s'.flagBytes)
  | .warmReset _ => (s.warm, .done, s.warm.showBody 0)
  | .malformed payload => (s, .malformed, s.malformedBody payload)

/-- Is a request a WARM_RESET, whose change of show state is reported by its reply alone (R32, R184)? -/
def Request.isWarm : Request → Bool
  | .warmReset _ => true
  | _ => false

/-- The request reserves a slot for its reply as its execution begins, before any of its effects (R182). -/
def State.setReserved (s : State) (b : Bool) : State := { s with mgmt := { s.mgmt with reserved := b } }

/-- The reply takes the reserved slot, behind what has joined before it (R175, R182). -/
def State.queueReply (s : State) (payload : Bytes) : State :=
  { s with mgmt := { s.mgmt with reserved := false, slots := s.mgmt.slots ++ [⟨.reply, payload⟩] } }

/-- The payload of a REPLY parcel (10.3). -/
def replyPayload (r : Request) (result : Result) (body : Bytes) : Bytes := [r.kindCode, r.tag, result.code] ++ body

/-- A request is executed, whole: its slot is reserved, its effects take place and a change of show state is reported, then its
reply is queued and the arbiter looks at an IDLE lane (R170, R171, R175, R182). -/
def State.execRequest (s : State) (r : Request) : State :=
  let x := (s.setReserved true).perform r
  let s' := if r.isWarm then x.1 else x.1.reportChange s.seq.state
  (s'.queueReply (replyPayload r x.2.1 x.2.2)).arbitrate

/-- The requests of the input queue are executed in arrival order while a reply slot is free (R170). -/
def State.serve : Nat → State → State
  | 0, s => s
  | n + 1, s =>
    match s.mgmt.requests with
    | r :: rest =>
      if s.mgmt.slots.length < Config.replyFlowSlots then
        State.serve n ({ s with mgmt := { s.mgmt with requests := rest } }.execRequest r)
      else s
    | [] => s

/-- The whole service of the input queue. -/
def State.serveAll (s : State) : State := State.serve s.mgmt.requests.length s

/-- A request arrives at the management input queue: it joins the tail, or meets a full queue, is dropped and raises MGMT_OVERRUN
(R170). -/
def State.submit (s : State) (r : Request) : State :=
  if s.mgmt.requests.length < Config.inputRequests then
    ({ s with mgmt := { s.mgmt with requests := s.mgmt.requests ++ [r] } }).serveAll
  else (s.raise .mgmtOverrun).arbitrate

end Sys2Proof.Machine
end

