-- ==== Sys2Proof/Machine/Link.lean ====
section
/-! DEFINITION. The reel link: framing (R1), integrity and routing (R2, R3), the end of an upstream transmission (R183), and the
commands START_MARK, PARCEL_COMPLETE, OVERSIZE_PARCEL and TRANSMISSION_END. -/

namespace Sys2Proof.Machine

/-- The port changes. -/
def State.updPort (s : State) (f : Port → Port) : State := { s with port := f s.port }

/-- A malformed parcel is dropped and counted (R1, R2, R3). -/
def State.dropMalformed (s : State) : State := s.updPort fun p => { p with malformed := satInc p.malformed }

/-- The framing state changes (R1). -/
def State.setFraming (s : State) (f : Framing) : State := s.updPort fun p => { p with framing := f }

/-- A parcel that has passed R2 is routed by its kind (R3). -/
def State.route (s : State) (p : Parcel) : State :=
  match p.kind with
  | .fill => s.updPort fun k => { k with fills := satInc k.fills }
  | .mgmt =>
    if p.track = 0 then (s.count 0 fun c => { c with accepted := satInc c.accepted }).submit (parseRequest p.payload)
    else s.dropMalformed
  | .essence => if 1 ≤ p.track ∧ p.track ≤ 31 then (s.essence p).arbitrate else s.dropMalformed
  | .unknown => s.dropMalformed

/-- A complete parcel meets the integrity checks and is routed (R2, R3). -/
def State.receive (s : State) (bytes : Bytes) : State :=
  match checkParcel bytes with
  | .malformed => s.dropMalformed
  | .crcError => s.updPort fun p => { p with crcErrors := satInc p.crcErrors }
  | .good p => s.route p

/-- The bytes and the end mark of a parcel (R1). In HUNTING they are ignored. In RECEIVING a byte beyond the largest parcel size
drops the parcel as malformed, and what follows is ignored; otherwise the parcel is complete. The port ends in HUNTING. -/
def State.endMark (s : State) (bytes : Bytes) : State :=
  match s.port.framing with
  | .hunting => s
  | .receiving =>
    if Config.maxParcel < bytes.length then (s.setFraming .hunting).dropMalformed
    else (s.setFraming .hunting).receive bytes

/-- PARCEL_COMPLETE (R1, R2, R3). -/
def execParcelComplete (bytes : Bytes) (s : State) : Host.Outcome State Fault Refusal := run (fun s => s.endMark bytes) s

/-- A start mark (R1): in RECEIVING the partial parcel is dropped as malformed; a new parcel begins. -/
def State.beginParcel (s : State) : State :=
  match s.port.framing with
  | .hunting => s.setFraming .receiving
  | .receiving => s.dropMalformed

/-- START_MARK (R1). -/
def execStartMark (s : State) : Host.Outcome State Fault Refusal := run State.beginParcel s

/-- A byte that makes the parcel too large (R1): the partial parcel is dropped as malformed and the port enters HUNTING. In
HUNTING bytes are ignored. -/
def State.oversize (s : State) : State :=
  match s.port.framing with
  | .hunting => s
  | .receiving => (s.setFraming .hunting).dropMalformed

/-- OVERSIZE_PARCEL (R1). -/
def execOversizeParcel (s : State) : Host.Outcome State Fault Refusal := run State.oversize s

/-- The end of an upstream transmission (R183): the arbiter starts the next parcel or the lane becomes IDLE; a slot freed lets the
requests that wait be executed (R170, R182). An IDLE lane ends nothing. -/
def State.endTransmission (s : State) : State :=
  match s.mgmt.lane with
  | some _ => ({ s with mgmt := { s.mgmt with lane := none } }.arbitrate).serveAll
  | none => s

/-- TRANSMISSION_END (R183). -/
def execTransmissionEnd (s : State) : Host.Outcome State Fault Refusal := run State.endTransmission s

end Sys2Proof.Machine
end

