-- ==== Sys2Proof/Machine/Requests.lean ====
section
/-! DEFINITION. The request commands: each hands its request to the management input queue (R170), where it is executed at once when
it is at the head and a reply slot is free, and otherwise waits. -/

namespace Sys2Proof.Machine

/-- A request arrives at the management input queue (R170). -/
def request (r : Request) (s : State) : Host.Outcome State Fault Refusal := run (fun s => s.submit r) s

/-! ## Table requests -/

/-- table 1, track table: a WRITE_TABLE request (R5, R173). -/
def execWriteTrackTable (tag : Byte) (index : BitVec 16) (count : Byte) (entries : Bytes) (s : State) :
    Host.Outcome State Fault Refusal := request (.writeTable tag 1 index count entries) s

/-- table 2, composition table: a WRITE_TABLE request (R31, R173). -/
def execWriteCompositionTable (tag : Byte) (index : BitVec 16) (count : Byte) (entries : Bytes) (s : State) :
    Host.Outcome State Fault Refusal := request (.writeTable tag 2 index count entries) s

/-- table 3, licence table: a WRITE_TABLE request (R156, R173). -/
def execWriteLicenceTable (tag : Byte) (index : BitVec 16) (count : Byte) (entries : Bytes) (s : State) :
    Host.Outcome State Fault Refusal := request (.writeTable tag 3 index count entries) s

/-- table 4, routing maps: a WRITE_TABLE request (R81, R173). -/
def execWriteRoutingMaps (tag : Byte) (index : BitVec 16) (count : Byte) (entries : Bytes) (s : State) :
    Host.Outcome State Fault Refusal := request (.writeTable tag 4 index count entries) s

/-- table 5, lane settings: a WRITE_TABLE request (R83, R173). -/
def execWriteLaneSettings (tag : Byte) (index : BitVec 16) (count : Byte) (entries : Bytes) (s : State) :
    Host.Outcome State Fault Refusal := request (.writeTable tag 5 index count entries) s

/-- table 6, cue store: a WRITE_TABLE request (R124, R173). -/
def execWriteCueStore (tag : Byte) (index : BitVec 16) (count : Byte) (entries : Bytes) (s : State) :
    Host.Outcome State Fault Refusal := request (.writeTable tag 6 index count entries) s

/-- table 7, line settings: a WRITE_TABLE request (R139, R140, R173). -/
def execWriteLineSettings (tag : Byte) (index : BitVec 16) (count : Byte) (entries : Bytes) (s : State) :
    Host.Outcome State Fault Refusal := request (.writeTable tag 7 index count entries) s

/-- table 8, input actions: a WRITE_TABLE request (R146, R150, R173). -/
def execWriteInputActions (tag : Byte) (index : BitVec 16) (count : Byte) (entries : Bytes) (s : State) :
    Host.Outcome State Fault Refusal := request (.writeTable tag 8 index count entries) s

/-- table 10, show settings: a WRITE_TABLE request (R29, R26, R173). -/
def execWriteShowSettings (tag : Byte) (index : BitVec 16) (count : Byte) (entries : Bytes) (s : State) :
    Host.Outcome State Fault Refusal := request (.writeTable tag 10 index count entries) s

/-- A WRITE_TABLE request with its table number: one that names an unknown or read-only table, or has a bad count or body, is
refused (R172, R173, R101). -/
def execWriteTable (tag table : Byte) (index : BitVec 16) (count : Byte) (entries : Bytes) (s : State) :
    Host.Outcome State Fault Refusal := request (.writeTable tag table index count entries) s

/-- READ_TABLE (R174). -/
def execReadTable (tag table : Byte) (index : BitVec 16) (count : Byte) (s : State) : Host.Outcome State Fault Refusal :=
  request (.readTable tag table index count) s

/-- READ_METERS: a READ_TABLE request for table 11 (R101, R174). -/
def execReadMeters (tag : Byte) (index : BitVec 16) (count : Byte) (s : State) : Host.Outcome State Fault Refusal :=
  request (.readTable tag 11 index count) s

/-! ## Show requests -/

/-- ARM (R35, R36, R175). -/
def execArm (tag : Byte) (slots : Bytes) (s : State) : Host.Outcome State Fault Refusal := request (.arm tag slots) s

/-- START (R38, R175). -/
def execStart (tag : Byte) (s : State) : Host.Outcome State Fault Refusal := request (.showCommand tag .start) s

/-- HOLD (R43, R175). -/
def execHold (tag : Byte) (s : State) : Host.Outcome State Fault Refusal := request (.showCommand tag .hold) s

/-- RESUME (R44, R175). -/
def execResume (tag : Byte) (s : State) : Host.Outcome State Fault Refusal := request (.showCommand tag .resume) s

/-- SKIP (R50, R175). -/
def execSkip (tag : Byte) (s : State) : Host.Outcome State Fault Refusal := request (.showCommand tag .skip) s

/-- STOP (R51, R175). -/
def execStop (tag : Byte) (s : State) : Host.Outcome State Fault Refusal := request (.showCommand tag .stop) s

/-- CLEAR (R54, R175). -/
def execClear (tag : Byte) (s : State) : Host.Outcome State Fault Refusal := request (.showCommand tag .clear) s

/-- RELEASE_EMERGENCY (R153, R175). -/
def execReleaseEmergency (tag : Byte) (s : State) : Host.Outcome State Fault Refusal := request (.releaseEmergency tag) s

/-! ## Clock, status, log, events, warm reset -/

/-- SET_CLOCK (R28, R176). -/
def execSetClock (tag : Byte) (seconds : BitVec 32) (s : State) : Host.Outcome State Fault Refusal :=
  request (.setClock tag seconds) s

/-- QUERY_STATUS (R176). -/
def execQueryStatus (tag : Byte) (s : State) : Host.Outcome State Fault Refusal := request (.queryStatus tag) s

/-- FETCH_SHOWINGS (R177). -/
def execFetchShowings (tag : Byte) (n : BitVec 32) (s : State) : Host.Outcome State Fault Refusal :=
  request (.fetchShowings tag n) s

/-- TRIM_SHOWINGS (R178). -/
def execTrimShowings (tag : Byte) (n : BitVec 32) (s : State) : Host.Outcome State Fault Refusal :=
  request (.trimShowings tag n) s

/-- SET_EVENT_ENABLES (R180). -/
def execSetEventEnables (tag : Byte) (m : BitVec 24) (s : State) : Host.Outcome State Fault Refusal :=
  request (.setEventEnables tag m) s

/-- CLEAR_EVENTS (R179). -/
def execClearEvents (tag : Byte) (m : BitVec 24) (s : State) : Host.Outcome State Fault Refusal :=
  request (.clearEvents tag m) s

/-- WARM_RESET (R184). -/
def execWarmReset (tag : Byte) (s : State) : Host.Outcome State Fault Refusal := request (.warmReset tag) s

/-- MALFORMED_REQUEST: the request that a payload spells (R171). A payload that is no malformed request is the request it spells
(log 22). -/
def execMalformedRequest (payload : Bytes) (s : State) : Host.Outcome State Fault Refusal := request (parseRequest payload) s

end Sys2Proof.Machine
end

