-- ==== Sys2Proof/Machine/Dispatch.lean ====
section
/-! DEFINITION. The dispatch: one arm for each command. -/

namespace Sys2Proof.Machine

open Sys2Proof

def exec (i : Instr) (s : State) : Host.Outcome State Fault Refusal :=
  match i with
  | .powerOnReset => Sys2Proof.Machine.execPowerOnReset s
  | .parcelComplete bytes => Sys2Proof.Machine.execParcelComplete bytes s
  | .frameBoundary => Sys2Proof.Machine.execFrameBoundary s
  | .millisecondTick order => Sys2Proof.Machine.execMillisecondTick order s
  | .secondTick => Sys2Proof.Machine.execSecondTick s
  | .prerollTimeout => Sys2Proof.Machine.execPrerollTimeout s
  | .stallTimeout => Sys2Proof.Machine.execStallTimeout s
  | .stallTrigger => Sys2Proof.Machine.execStallTrigger s
  | .flowInterval => Sys2Proof.Machine.execFlowInterval s
  | .phaseEnd g => Sys2Proof.Machine.execPhaseEnd g s
  | .inputLevelChange k level => Sys2Proof.Machine.execInputLevelChange k level s
  | .acceptedEdge k => Sys2Proof.Machine.execAcceptedEdge k s
  | .transmissionEnd => Sys2Proof.Machine.execTransmissionEnd s
  | .writeTrackTable tag index count entries => Sys2Proof.Machine.execWriteTrackTable tag index count entries s
  | .writeCompositionTable tag index count entries => Sys2Proof.Machine.execWriteCompositionTable tag index count entries s
  | .writeLicenceTable tag index count entries => Sys2Proof.Machine.execWriteLicenceTable tag index count entries s
  | .writeRoutingMaps tag index count entries => Sys2Proof.Machine.execWriteRoutingMaps tag index count entries s
  | .writeLaneSettings tag index count entries => Sys2Proof.Machine.execWriteLaneSettings tag index count entries s
  | .writeCueStore tag index count entries => Sys2Proof.Machine.execWriteCueStore tag index count entries s
  | .writeLineSettings tag index count entries => Sys2Proof.Machine.execWriteLineSettings tag index count entries s
  | .writeInputActions tag index count entries => Sys2Proof.Machine.execWriteInputActions tag index count entries s
  | .writeShowSettings tag index count entries => Sys2Proof.Machine.execWriteShowSettings tag index count entries s
  | .writeTable tag table index count entries => Sys2Proof.Machine.execWriteTable tag table index count entries s
  | .readTable tag table index count => Sys2Proof.Machine.execReadTable tag table index count s
  | .readMeters tag index count => Sys2Proof.Machine.execReadMeters tag index count s
  | .arm tag slots => Sys2Proof.Machine.execArm tag slots s
  | .start tag => Sys2Proof.Machine.execStart tag s
  | .hold tag => Sys2Proof.Machine.execHold tag s
  | .resume tag => Sys2Proof.Machine.execResume tag s
  | .skip tag => Sys2Proof.Machine.execSkip tag s
  | .stop tag => Sys2Proof.Machine.execStop tag s
  | .clear tag => Sys2Proof.Machine.execClear tag s
  | .releaseEmergency tag => Sys2Proof.Machine.execReleaseEmergency tag s
  | .setClock tag seconds => Sys2Proof.Machine.execSetClock tag seconds s
  | .queryStatus tag => Sys2Proof.Machine.execQueryStatus tag s
  | .fetchShowings tag n => Sys2Proof.Machine.execFetchShowings tag n s
  | .trimShowings tag n => Sys2Proof.Machine.execTrimShowings tag n s
  | .setEventEnables tag m => Sys2Proof.Machine.execSetEventEnables tag m s
  | .clearEvents tag m => Sys2Proof.Machine.execClearEvents tag m s
  | .warmReset tag => Sys2Proof.Machine.execWarmReset tag s
  | .malformedRequest payload => Sys2Proof.Machine.execMalformedRequest payload s
  | .startMark => Sys2Proof.Machine.execStartMark s
  | .oversizeParcel => Sys2Proof.Machine.execOversizeParcel s
  | .resetAsserted => Sys2Proof.Machine.execResetAsserted s
  | .samplePeriod => Sys2Proof.Machine.execSamplePeriod s

end Sys2Proof.Machine
end

