-- ==== Sys2Proof/Safety.lean ====
section
/-! DEFINITION. What counts as a safe step and a safe run, the invariants of the part, and the terms in which statements speak of
requests, replies and stopped shows. -/

namespace Sys2Proof.Safety

open Sys2Proof.Machine

/-- A step is safe when it answers a next state. -/
def SafeStep (s : State) : Prop := ∃ t, step s = .next t

/-- The states reached from a state by taking steps. -/
inductive Reaches : State → State → Prop
  | refl (s : State) : Reaches s s
  | step {s t u : State} : Reaches s t → Machine.step t = .next u → Reaches s u

/-- A run is safe when every state it reaches has a safe step. -/
def SafeFrom (s : State) : Prop := ∀ t, Reaches s t → SafeStep t

/-! ## Requests and replies -/

/-- A request that arrives is executed on arrival: the part is not held in reset, no request waits, and a reply-and-flow slot is
free (R170, R182). -/
def TakesRequest (s : State) : Prop := s.inReset = false ∧ s.mgmt.requests = [] ∧ s.mgmt.slots.length < Config.replyFlowSlots

/-- The state in which a reply has been queued and an IDLE lane has looked at the queue (R182, R183). -/
def answered (s : State) (payload : Bytes) : State := (s.queueReply payload).arbitrate

/-- A reply is on its way: it is on the lane or waits in a reply-and-flow slot (R182, R183). -/
def Replied (t : State) (payload : Bytes) : Prop :=
  t.mgmt.lane = some ⟨.reply, payload⟩ ∨ (⟨.reply, payload⟩ : UpParcel) ∈ t.mgmt.slots

/-- The FLOW parcel that carries a state's present values (R181, 10.3). -/
def flowOf (t : State) : UpParcel :=
  ⟨.flow, [t.seq.state.code, t.seq.reason.code] ++ be 1 t.seq.position ++ be 3 t.seq.frame ++ be 3 t.windowBase ++
    be 2 t.freeCells ++ be 1 t.flowEntries.length ++ [0, 0, 0] ++ t.flowEntries.flatMap fun e => be 1 e.1 ++ be 2 e.2⟩

/-- The payload of an EVENT parcel with a state's present values (R180, 10.3). -/
def eventOf (t : State) : Bytes :=
  be 3 (t.mgmt.flags &&& t.mgmt.enables).toNat ++ be 2 t.cue.lastMark ++ [t.acct.lastBarred.code]

/-- Some enabled flag became set between two states, so that an EVENT report was made (R180). -/
def EventMade (s t : State) : Prop :=
  ∃ f : Flag, flagSet s.mgmt.enables f = true ∧ flagSet s.mgmt.flags f = false ∧ flagSet t.mgmt.flags f = true

/-- What a request whose work is complete leaves in the upstream queue (R181 to R183): its FLOW report, if it made one (`flow`) and a
slot was free beside the one its reply had reserved, and then its reply. A lane that was IDLE over an empty queue takes the reply, also
where the request made an EVENT: DEDUCED (log 9). -/
structure ReplyQueued (s t : State) (flow : Bool) (reply : Bytes) : Prop where
  sending : s.mgmt.lane ≠ none → t.mgmt.lane = s.mgmt.lane ∧
    t.mgmt.slots = s.mgmt.slots ++
      (if flow = true ∧ s.mgmt.slots.length + 1 < Config.replyFlowSlots then [flowOf t] else []) ++ [⟨.reply, reply⟩]
  idle : s.mgmt.lane = none → s.mgmt.slots = [] → t.mgmt.lane = some ⟨.reply, reply⟩ ∧
    t.mgmt.slots = if flow = true then [flowOf t] else []

/-- What an event that is no request and makes one FLOW report leaves in the upstream queue (R180 to R183): the report joins the
slots if one is free. A lane that was IDLE over an empty queue takes the EVENT that was made, or else the FLOW, when the event is
complete, so that an event of several flags makes one EVENT: DEDUCED (log 9). -/
structure FlowQueued (s t : State) : Prop where
  sending : s.mgmt.lane ≠ none → t.mgmt.lane = s.mgmt.lane ∧
    t.mgmt.slots = s.mgmt.slots ++ (if s.mgmt.slotsTaken < Config.replyFlowSlots then [flowOf t] else []) ∧
    (EventMade s t → t.mgmt.eventSlot ≠ none) ∧ (¬ EventMade s t → t.mgmt.eventSlot = s.mgmt.eventSlot)
  idle : s.mgmt.lane = none → s.mgmt.slots = [] → s.mgmt.eventSlot = none → s.mgmt.reserved = false →
    t.mgmt.eventSlot = none ∧
    (EventMade s t → (∃ e, t.mgmt.lane = some ⟨.event, e⟩) ∧ t.mgmt.slots = [flowOf t]) ∧
    (¬ EventMade s t → t.mgmt.lane = some (flowOf t) ∧ t.mgmt.slots = [])

/-- What a change of show state made by a request leaves in the management block: SHOW_STATE is set, with an EVENT report if it was
clear and enabled, and no other flag changes; the flow count is 0; one FLOW report and the DONE reply are queued; no request
waits (R33, R180, R181). -/
structure ChangeReported (s t : State) (reply : Bytes) : Prop where
  flags    : t.mgmt.flags = withFlag s.mgmt.flags .showState
  enables  : t.mgmt.enables = s.mgmt.enables
  event    : t.mgmt.eventSlot =
    if flagSet s.mgmt.flags .showState = false ∧ flagSet s.mgmt.enables .showState = true then some (eventOf t)
    else s.mgmt.eventSlot
  flow     : t.mgmt.flowCount = 0
  requests : t.mgmt.requests = []
  upstream : ReplyQueued s t true reply
  reply    : Replied t reply

/-- What a change of show state made by an event that is no request leaves in the management block: SHOW_STATE is set and no other
flag changes, the flow count is 0, one FLOW report is queued, and the requests that wait stay (R33, R181). -/
structure StateReported (s t : State) : Prop where
  flags    : t.mgmt.flags = withFlag s.mgmt.flags .showState
  enables  : t.mgmt.enables = s.mgmt.enables
  flow     : t.mgmt.flowCount = 0
  upstream : FlowQueued s t
  requests : t.mgmt.requests = s.mgmt.requests

/-- The body and head of the reply to a SHOW request (10.3, R188). -/
def showReply (tag : Byte) (result : Result) (s : State) (failing : Nat) : Bytes :=
  [0x03, tag, result.code, s.seq.state.code, boolByte s.booth.latch, BitVec.ofNat 8 failing]

/-! ## Tracks that stop being scheduled (R9, R118) -/

/-- The scheduled tracks, which all stop being scheduled when a show stops or is cleared (R7). -/
def leaving (s : State) : List Nat := essenceTracks.filter s.scheduled

/-- The regions that get a CLEAR_REGION record when tracks of a list stop being scheduled: each region that held an item of
one of them, once; the regions of one track in order from 0 to 3 (R118). -/
structure RegionsCleared (s : State) (gone clears : List Nat) : Prop where
  once  : clears.Nodup
  held  : ∀ r, r ∈ clears ↔ r ≤ 3 ∧ ∃ x, s.region r = some x ∧ x.item.track ∈ gone
  order : ∀ k, (clears.filter fun r => (s.region r).any fun x => x.item.track == k).Pairwise (· < ·)

/-- The scheduled tracks are emptied with their items, CLEAR_REGION records go out for the regions that held one, before the
records of `after`, and no other track or item changes (R9, R113, R118). -/
structure TracksLeave (s t : State) (after : List LinkRecord) : Prop where
  emptied  : ∀ k ∈ leaving s, t.track k = { Track.empty with counters := (s.track k).counters }
  kept     : ∀ k, k ∉ leaving s → t.track k = s.track k
  schedule : t.sub.schedule = s.sub.schedule.filter fun i => !(leaving s).contains i.track
  regions  : ∀ r, r ≤ 3 → t.region r = (s.region r).filter fun x => !(leaving s).contains x.item.track
  counts   : t.sub = { s.sub with schedule := t.sub.schedule, regions := t.sub.regions }
  link     : ∃ clears, RegionsCleared s (leaving s) clears ∧ t.link = s.link ++ clears.map LinkRecord.clearRegion ++ after

/-- A track that has just become scheduled: empty but for its counters, and a picture track with a new arrival window (R8). -/
def startedTrack (s : State) (k : Nat) : Track :=
  { Track.empty with
    counters := (s.track k).counters
    window := if (s.trackEntry k).kind = .picture then some
        { base := 0
          eyes := (s.composition (s.trackEntry k).slot).eyes
          main := List.replicate 64 .absent
          right := if (s.composition (s.trackEntry k).slot).eyes = .stereo then List.replicate 64 .absent else [] }
      else none }

/-- The effects of STOP, with a reason (R51): the show is STOPPED with both timers stopped, an open record closes, every scheduled
track is emptied with its items, whose regions are cleared before the BLACK, P is the idle S, the cursor is none, and the rest
stands: that the playlist, the position, f and the licence-cleared mark are kept is log 27. -/
structure Stopped (s t : State) (reason : StopReason) : Prop where
  seq     : t.seq = { s.seq with state := .stopped, reason := reason, prerollTimer := none, stallTimer := none }
  acct    : t.acct = s.closeRecord.acct
  tracks  : TracksLeave s t [.black]
  clock   : t.clk = { s.clk with period := s.idlePeriod }
  cue     : t.cue = { s.cue with cursor := none }
  repeats : t.repeats = 0
  rest    : t.tables = s.tables ∧ t.port = s.port ∧ t.snd = s.snd ∧ t.booth = s.booth ∧ t.inReset = s.inReset ∧
              t.pending = s.pending

/-! ## Position advances (R49) -/

/-- Why the licence check bars the composition at a playlist position; none when it passes (R157). -/
def barAt (s : State) (p : Nat) : Option BarReason :=
  match s.seq.slotAt p with
  | some slot => s.licenceCheck (s.composition slot)
  | none => none

/-- The playlist positions after the current one. -/
def laterPositions (s : State) : List Nat := List.range' (s.seq.position + 1) (s.seq.playlist.length - s.seq.position)

/-- The positions that an advance made now passes over because their compositions are barred. -/
def barredAhead (s : State) : List Nat := (laterPositions s).takeWhile fun p => (barAt s p).isSome

/-- The position at which an advance made now ends: the first later one whose composition is not barred, or 0 past the end. -/
def clearedAhead (s : State) : Nat := ((laterPositions s).find? fun p => (barAt s p).isNone).getD 0

/-- The composition at a playlist position. -/
def compositionAt (s : State) (p : Nat) : Composition :=
  match s.seq.slotAt p with
  | some slot => s.composition slot
  | none => Composition.invalid

/-- The BARRED records of an advance made now, oldest first, with their sequence numbers (R161, R167). -/
def barredRecords (s : State) : List Record :=
  (barredAhead s).mapIdx fun i p =>
    { number := nextNumber^[i] s.acct.nextNumber, id := (compositionAt s p).id, position := p,
      licence := (compositionAt s p).licence, startTime := s.clk.booth, countTime := none, presented := 0, repeated := 0,
      impaired := false, counted := false, outcome := .barred ((barAt s p).getD .none) }

/-- What an advance leaves in accounting (R158, R161, R167): the BARRED records join the log, which keeps its newest 64 records;
the numbers, the drop count and the last barred reason follow. -/
structure AdvanceRecorded (s t : State) : Prop where
  log     : t.acct.log = ((barredRecords s).reverse ++ s.acct.log).take Config.logRecords
  next    : t.acct.nextNumber = nextNumber^[(barredAhead s).length] s.acct.nextNumber
  drops   : t.acct.drops = satAdd s.acct.drops ((barredAhead s).length + s.acct.log.length - Config.logRecords)
  barred  : t.acct.lastBarred = (((barredAhead s).getLast?).bind (barAt s)).getD s.acct.lastBarred

/-- The positions that an advance made now leaves: the current one, and each barred one it passes over. -/
def leftPositions (s : State) : List Nat := s.seq.position :: barredAhead s

/-- The valid essence tracks whose slot stands at one of these positions. -/
def tracksAt (s : State) (positions : List Nat) : List Nat :=
  essenceTracks.filter fun k => (s.trackEntry k).valid && (positions.filterMap s.seq.slotAt).contains (s.trackEntry k).slot

/-- The tracks that an advance made now unschedules or schedules anew: those at a position that it leaves, and those at a position
that it makes the next one, which is two further on (R7). -/
def advanceTouches (s : State) : List Nat := tracksAt s (leftPositions s ++ (leftPositions s).map (· + 2))

/-- The tracks at the current and the next position when an advance made now has ended; none past the end. -/
def aheadTracks (s : State) : List Nat :=
  if clearedAhead s = 0 then [] else tracksAt s [clearedAhead s, clearedAhead s + 1]

/-- No slot stands at two consecutive positions of the playlist (R7, R35). -/
def PlaylistOk (s : State) : Prop := ∀ x ∈ s.seq.playlist.zip s.seq.playlist.tail, x.1 ≠ x.2

/-- What an advance leaves in the unpacker and the subtitle engine (R7 to R9, R49, R118): the tracks that become scheduled start
empty, with a new arrival window on a picture track; the others that leave are emptied; the tracks of a next position that
becomes the current one are kept as they are, and so is every other track; and the items of the tracks emptied go, with
CLEAR_REGION records for the regions that held one, before the records of `after`. -/
structure TracksAdvance (s t : State) (after : List LinkRecord) : Prop where
  started  : ∀ k ∈ advanceTouches s, k ∈ aheadTracks s → t.track k = startedTrack s k
  emptied  : ∀ k ∈ advanceTouches s, k ∉ aheadTracks s → t.track k = { Track.empty with counters := (s.track k).counters }
  kept     : ∀ k, k ∉ advanceTouches s → t.track k = s.track k
  schedule : t.sub.schedule = s.sub.schedule.filter fun i => !(advanceTouches s).contains i.track
  regions  : ∀ r, r ≤ 3 → t.region r = (s.region r).filter fun x => !(advanceTouches s).contains x.item.track
  counts   : t.sub = { s.sub with schedule := t.sub.schedule, regions := t.sub.regions }
  link     : ∃ clears, RegionsCleared s (advanceTouches s) clears ∧
               t.link = s.link ++ clears.map LinkRecord.clearRegion ++ after

/-- The part when the composition at its current position has been barred, before the advance goes on: its BARRED record has joined
the log (R158, R161, R167). -/
def barredFirst (s : State) (reason : BarReason) : State :=
  { s with acct := {
      log := ({ number := s.acct.nextNumber, id := s.currentComposition.id, position := s.seq.position,
                licence := s.currentComposition.licence, startTime := s.clk.booth, countTime := none, presented := 0,
                repeated := 0, impaired := false, counted := false, outcome := .barred reason } :: s.acct.log).take
              Config.logRecords
      nextNumber := nextNumber s.acct.nextNumber
      drops := satAdd s.acct.drops (1 + s.acct.log.length - Config.logRecords)
      lastBarred := reason } }

/-- A boundary that makes an advance and presents no frame (R26, R48, R49, R67, R77): the show is in ENDED past the end, else in
PREROLL with its timer at 0; the records join the accounting of `base`; a silent block of the period loaded is in play; the
tracks follow the advance, before one BLACK unless PREROLL was found and left; and a stall ends with the resume event (R46). -/
structure AdvancedAtBoundary (s base t : State) : Prop where
  seq     : t.seq = { s.seq with
    state := if clearedAhead s = 0 then .ended else .preroll
    position := clearedAhead s
    frame := 0
    cleared := decide (clearedAhead s ≠ 0)
    prerollTimer := if clearedAhead s = 0 then none else some 0
    stallTimer := none }
  acct    : AdvanceRecorded base t
  clock   : ∃ period, period = (if clearedAhead s = 0 then s.idlePeriod else s.clk.period) ∧
    t.clk = { s.clk with period := period, countdown := period } ∧
    t.snd = { s.snd with
      fader := if s.seq.state = .stalled ∧ s.snd.fader.muted = false then
          { s.snd.fader with value := 0, target := s.snd.fader.saved, rate := s.tables.settings.resumeRate }
        else { s.snd.fader with value := faderStep s.snd.fader.value s.snd.fader.target s.snd.fader.rate }
      lanes := s.snd.lanes.mapIdx fun j l =>
        { l with block := List.replicate period 0, delay := (s.tables.lane.getD j LaneSetting.off).delay } }
  tracks  : TracksAdvance s t (if s.seq.state = .preroll ∧ clearedAhead s ≠ 0 then [] else [.black])
  cue     : t.cue = { s.cue with cursor := none, stack := [], pendingHold := false }
  repeats : t.repeats = 0
  rest    : t.tables = s.tables ∧ t.port = s.port ∧ t.booth = s.booth ∧ t.inReset = s.inReset ∧ t.pending = s.pending ∧
    t.mgmt.enables = s.mgmt.enables ∧ t.mgmt.requests = s.mgmt.requests
  flags   : ∀ f, flagSet t.mgmt.flags f = (flagSet s.mgmt.flags f ||
    match f with
    | .showState => !decide (s.seq.state = .preroll ∧ clearedAhead s ≠ 0)
    | .compositionEnd => decide (s.seq.state ≠ .preroll)
    | .barred => decide (s.seq.state = .preroll) || !(barredAhead s).isEmpty
    | .logWrap => decide (Config.logRecords < (barredAhead s).length + base.acct.log.length) ||
        (decide (s.seq.state = .preroll) && decide (Config.logRecords < 1 + s.acct.log.length))
    | _ => false)

/-! ## Cues (R127, R128, R134, R135) -/

/-- The entries that a run of `length` entries from index `first` on takes, in order, with the entries of each macro in the place of
its MACRO entry; `none` stands for a MACRO met with no room left on the stack, which is skipped. The first number is the room left. -/
def flatRun (s : State) : Nat → Nat → Nat → List (Option Cue)
  | 0, first, length => (List.range' first length).map fun i =>
      match (s.cueEntry i).cue with
      | .callMacro _ _ => none
      | c => some c
  | room + 1, first, length => (List.range' first length).flatMap fun i =>
      match (s.cueEntry i).cue with
      | .callMacro inner n => flatRun s room inner n
      | c => [some c]

/-- What one entry of a flat run does: its kind's effect, or CUE_NEST for a MACRO that is skipped. -/
def takeFlat (s : State) (c : Option Cue) : State :=
  match c with
  | some c => s.takeCue (fun _ _ s => s) c
  | none => s.raise .cueNest

/-- The entries of a sheet that are due at frame `f`, from its cursor on: up to the first whose trigger is above `f`. -/
def dueEntries (s : State) (c : Cursor) (f : Nat) : List Nat :=
  (List.range' c.next (c.stop - c.next)).takeWhile fun i => decide ((s.cueEntry i).trigger ≤ f)

/-- The due entries of a sheet are taken in store order, macros in their place, and the cursor stands past them. -/
def takeDue (s : State) (c : Cursor) (f : Nat) : State :=
  let u := ((dueEntries s c f).flatMap fun i => flatRun s Config.macroDepth i 1).foldl takeFlat s
  { u with cue := { u.cue with cursor := some { c with next := c.next + (dueEntries s c f).length } } }

/-- No entry of the current sheet is due at frame `f`. -/
def NoCueDue (s : State) (f : Nat) : Prop :=
  ∀ c, s.cue.cursor = some c → c.next < c.stop → f < (s.cueEntry c.next).trigger

/-- The same part with no cue sheet anywhere. -/
def withoutSheets (s : State) : State :=
  { s with cue := { s.cue with cursor := none }
           tables := { s.tables with composition := s.tables.composition.map fun c => { c with sheet := none } } }

/-- A boundary that answers `t` does what it does without a sheet, and then the due entries of the sheet at frame `f` (R127), whose
cursor stands at `c`. A pending hold is handed on after them (R133). -/
def SheetTaken (s t : State) (c : Cursor) (f : Nat) : Prop :=
  ∃ t₀ v, exec .frameBoundary (withoutSheets s) = .next t₀ ∧
    v = takeDue { t₀ with tables := { s.tables with licence := t₀.tables.licence } } c f ∧
    t = { v.endExpansion with mgmt := t.mgmt } ∧
    (∀ x, x ≠ .showState → flagSet t.mgmt.flags x = flagSet v.mgmt.flags x) ∧ t.mgmt.enables = s.mgmt.enables

/-! ## The emergency latch (R151) -/

/-- The sequencer when the latch is set (R52). -/
def emergencySequencer (q : Sequencer) : Sequencer :=
  if q.state = .idle then q
  else if q.state = .stopped then { q with reason := .emergency }
  else { q with state := .stopped, reason := .emergency, prerollTimer := none, stallTimer := none }

/-- The effects of the setting of the latch (R151): the show stops with one BLACK in every state, its tracks leave, an open
record closes, the sound is cut and muted, every generator stops, and EMERGENCY is set. What the sequencer keeps is log 27. -/
structure LatchSet (s t : State) : Prop where
  latch      : t.booth.latch = true
  generators : t.booth.generators = s.booth.generators.map fun g => { g with phase := .idle }
  cueLevels  : t.booth.cueLevels = s.booth.cueLevels
  seq        : t.seq = emergencySequencer s.seq
  acct       : t.acct = if s.seq.state = .idle ∨ s.seq.state = .stopped then s.acct else s.closeRecord.acct
  tracks     : TracksLeave s t [.black]
  clock      : t.clk = if s.seq.state = .idle ∨ s.seq.state = .stopped then s.clk else { s.clk with period := s.idlePeriod }
  cue        : t.cue = if s.seq.state = .idle ∨ s.seq.state = .stopped then s.cue else { s.cue with cursor := none }
  repeats    : t.repeats = if s.seq.state = .idle ∨ s.seq.state = .stopped then s.repeats else 0
  port       : t.port = s.port
  map        : t.snd.activeMap = s.snd.activeMap
  fader      : t.snd.fader = { s.snd.fader with value := 0, target := 0, muted := true }
  lanes      : t.snd.lanes = s.snd.lanes.map fun l => { l with block := l.block.map fun _ => 0, line := [] }
  flag       : flagSet t.mgmt.flags .emergency = true
  flags      : ∀ f, f ≠ .emergency → f ≠ .showState → flagSet t.mgmt.flags f = flagSet s.mgmt.flags f
  enables    : t.mgmt.enables = s.mgmt.enables
  requests   : t.mgmt.requests = s.mgmt.requests

/-- An input's pending change has been accepted: its debounced level is its raw level and it is STABLE (R147). -/
def edgeTaken (s : State) (i : Nat) : State := s.updInput i fun k => { k with debounced := k.raw, waiting := none }

/-! ## Parcels (R1 to R13) -/

/-- The bytes of a complete parcel meet the port in RECEIVING and pass R2 as the parcel `p`. -/
structure Received (s : State) (bytes : Bytes) (p : Parcel) : Prop where
  running   : s.inReset = false
  receiving : s.port.framing = .receiving
  size      : bytes.length ≤ Config.maxParcel
  good      : checkParcel bytes = .good p

/-- The port when a complete parcel has left it (R1). -/
def hunting (s : State) : State := { s with port := { s.port with framing := .hunting } }

/-- An ESSENCE parcel of a scheduled track (R3, R7) that the sequence check accepts without a gap (R11) and whose contents are
good (R13). -/
structure Accepted (s : State) (bytes : Bytes) (p : Parcel) : Prop where
  received  : Received s bytes p
  kind      : p.kind = .essence
  track     : 1 ≤ p.track ∧ p.track ≤ 31
  tracks    : s.tracks.length = 32
  scheduled : s.scheduled p.track = true
  sequence  : (s.track p.track).expected = none ∨ (s.track p.track).expected = some p.sequence
  content   : s.contentOk p = true

/-- The run state of the track of a parcel that the sequence check has accepted (R11). -/
def sequenced (k : Track) (p : Parcel) : Track :=
  { k with expected := some ((p.sequence + 1) % 65536),
           counters := { k.counters with accepted := satInc k.counters.accepted } }

/-- The run state of a track whose unit in assembly, `a`, is damaged (R12): the unit holds no bytes and no cells, its cells have
returned, and a picture unit's entry is DAMAGED if it is still in the window. -/
def damagedTrack (k : Track) (a : Assembly) : Track :=
  { k with assembly := some { a with bytes := [], cells := 0, damaged := true }
           cellsHeld := k.cellsHeld - a.cells
           window := k.window.map fun w =>
             if w.base ≤ a.frame ∧ a.frame < w.base + 64 then w.set a.eye a.frame .damaged else w }

/-- An ESSENCE parcel of a scheduled track that the sequence check accepts: as the first or the expected one, or behind a gap (R3, R7,
R10, R11). -/
structure Sequenced (s : State) (bytes : Bytes) (p : Parcel) (gap : Bool) : Prop where
  received  : Received s bytes p
  kind      : p.kind = .essence
  track     : 1 ≤ p.track ∧ p.track ≤ 31
  tracks    : s.tracks.length = 32
  scheduled : s.scheduled p.track = true
  sequence  : if gap then ∃ e, (s.track p.track).expected = some e ∧ p.sequence ≠ e ∧ (p.sequence + 1) % 65536 ≠ e
              else (s.track p.track).expected = none ∨ (s.track p.track).expected = some p.sequence

/-- A counter that rises by 1 and stays at 65535. -/
def more (n : Nat) : Nat := min (n + 1) 65535

/-- One track has this run state, and the pool this many free cells. -/
def putTrack (s : State) (t : Nat) (k : Track) (cells : Nat) : State := { s with tracks := s.tracks.set t k, freeCells := cells }

/-- The run state of a track when the sequence check has accepted a parcel, a gap counted if there was one (R11). -/
def sequencedGap (k : Track) (p : Parcel) (gap : Bool) : Track :=
  { sequenced k p with
    counters := { (sequenced k p).counters with gaps := if gap then more k.counters.gaps else k.counters.gaps } }

/-! ## The sound block of a presented frame (R75, R79, R84 to R88) -/

/-- Sample `k` of a sound unit's bytes: 3 bytes of two's complement (10.2). -/
def sampleAt (b : Bytes) (k : Nat) : Int :=
  if field b (3 * k) 3 < 8388608 then field b (3 * k) 3 else (field b (3 * k) 3 : Int) - 16777216

/-- The unit of frame `f` that a block takes from the queue of an optional sound track (R75). -/
def unitAt (s : State) (t : Option Nat) (f : Nat) : Option SoundUnit :=
  t.bind fun n => ((s.track n).queue.find? fun u => decide (f ≤ u.frame)).filter fun u => u.frame = f

/-- Sample `i` of channel `c` of a track's unit for frame `f`; 0 where there is no unit or no such channel (R79). -/
def channelAt (s : State) (t : Option Nat) (f c i : Nat) : Int :=
  match t, unitAt s t f with
  | some k, some u =>
    let n := (s.trackEntry k).channels.getD 0
    if c < n then sampleAt u.bytes (i * n + c) else 0
  | _, _ => 0

/-- Sample `i` of input channel `c` of the block of frame `f` (R79). -/
def inputAt (s : State) (f c i : Nat) : Int :=
  if c < 16 then channelAt s (s.currentTrack .soundMain) f c i else channelAt s (s.currentTrack .soundAux) f (c - 16) i

/-- The value y of sample `i` of lane `j` before the clamp, mixed with the settings that now stand, in a block of P samples
(R85 to R87). -/
def laneValue (s : State) (f j i : Nat) : Int :=
  let r := s.tables.routing.getD (s.snd.activeMap * 24 + j) Recipe.off
  let trim := (s.tables.lane.getD j LaneSetting.off).trim
  let f0 : Int := s.snd.fader.value
  let f1 : Int := faderStep s.snd.fader.value s.snd.fader.target s.snd.fader.rate
  let m := (r.contributions.map fun c => (if c.invert then -1 else 1) * (inputAt s f c.channel i * c.gain)).sum
  let m2 := ((m + 16384) / 32768 * trim + 16384) / 32768
  if r.enabled then (m2 * (f0 + ((f1 - f0) * (i + 1)).tdiv s.clk.period) + 16384) / 32768 else 0

/-- The whole unit that a sound track gives has P samples of as many channels as its kind has at most (R21, R35). -/
def UnitFits (s : State) (t : Option Nat) (most f : Nat) : Prop :=
  ∀ k u, t = some k → unitAt s t f = some u →
    (s.trackEntry k).channels.getD 0 ≤ most ∧ u.bytes.length = s.clk.period * (s.trackEntry k).channels.getD 0 * 3

/-! ## The overlay at a presented frame (R109 to R112) -/

/-- The item that a region still holds after the expiry step at frame `f` (R109). -/
def keptAt (s : State) (f r : Nat) : Option Shown := (s.region r).filter fun x => decide (f < x.item.outFrame)

/-- The items that the admission step takes at frame `f` into a region, in schedule order (R110). -/
def dueAt (s : State) (f r : Nat) : List Item :=
  s.sub.schedule.filter fun i => decide (s.sub.active = some i.track ∧ s.seq.currentSlot = some (s.trackEntry i.track).slot ∧
    i.inFrame ≤ f ∧ f < i.outFrame ∧ i.region = r)

/-- The overlay records of the boundary that presents frame `f`: expiry, admission and opacity refresh, each by region
(R109, R110, R112, R113). -/
def overlayAt (s : State) (f : Nat) : List LinkRecord :=
  ((regionNumbers.filter fun r => (s.region r).isSome && (keptAt s f r).isNone).map LinkRecord.clearRegion) ++
  (regionNumbers.flatMap fun r =>
    match (dueAt s f r).getLast? with
    | some i => (if (keptAt s f r).isSome then [.clearRegion r] else []) ++ [.showItem r i.track i.id (i.opacity f) i.text]
    | none => []) ++
  regionNumbers.flatMap fun r =>
    match (dueAt s f r).getLast?, keptAt s f r with
    | none, some x => if x.item.opacity f = x.opacity then [] else [.setOpacity r (x.item.opacity f)]
    | _, _ => []

/-! ## Commands by family -/

/-- The states in which a show command is accepted (R34). -/
def acceptedIn : ShowCommand → List ShowState
  | .start => [.armed]
  | .hold => [.playing]
  | .resume => [.holding]
  | .skip => [.preroll, .playing, .holding, .stalled]
  | .stop => [.armed, .preroll, .playing, .holding, .stalled]
  | .clear => [.armed, .ended, .stopped]

/-- The row of a show command. -/
def showInstr (tag : Byte) : ShowCommand → Instr
  | .start => .start tag
  | .hold => .hold tag
  | .resume => .resume tag
  | .skip => .skip tag
  | .stop => .stop tag
  | .clear => .clear tag

/-- The rows that write a table: the table's own row, and WRITE_TABLE with its number. -/
def writeRows (table : Nat) (tag : Byte) (index : BitVec 16) (count : Byte) (entries : Bytes) : List Instr :=
  .writeTable tag (BitVec.ofNat 8 table) index count entries ::
    match table with
    | 1 => [.writeTrackTable tag index count entries]
    | 2 => [.writeCompositionTable tag index count entries]
    | 3 => [.writeLicenceTable tag index count entries]
    | 4 => [.writeRoutingMaps tag index count entries]
    | 5 => [.writeLaneSettings tag index count entries]
    | 6 => [.writeCueStore tag index count entries]
    | 7 => [.writeLineSettings tag index count entries]
    | 8 => [.writeInputActions tag index count entries]
    | 10 => [.writeShowSettings tag index count entries]
    | _ => []

/-- The reply to a WRITE_TABLE request (R188). -/
def writeReply (tag table : Byte) (result : Result) (index : Nat) (count : Byte) : Bytes :=
  [0x01, tag, result.code, table] ++ be 2 index ++ [if result = .done then count else 0]

/-- The rows that read a table: READ_TABLE with its number, and READ_METERS for table 11. -/
def readRows (table : Nat) (tag : Byte) (index : BitVec 16) (count : Byte) : List Instr :=
  .readTable tag (BitVec.ofNat 8 table) index count :: if table = 11 then [.readMeters tag index count] else []

/-- The request that a request row hands to the management input queue; none for the other rows. -/
def requestOf : Instr → Option Request
  | .writeTrackTable tag index count entries => some (.writeTable tag 1 index count entries)
  | .writeCompositionTable tag index count entries => some (.writeTable tag 2 index count entries)
  | .writeLicenceTable tag index count entries => some (.writeTable tag 3 index count entries)
  | .writeRoutingMaps tag index count entries => some (.writeTable tag 4 index count entries)
  | .writeLaneSettings tag index count entries => some (.writeTable tag 5 index count entries)
  | .writeCueStore tag index count entries => some (.writeTable tag 6 index count entries)
  | .writeLineSettings tag index count entries => some (.writeTable tag 7 index count entries)
  | .writeInputActions tag index count entries => some (.writeTable tag 8 index count entries)
  | .writeShowSettings tag index count entries => some (.writeTable tag 10 index count entries)
  | .writeTable tag table index count entries => some (.writeTable tag table index count entries)
  | .readTable tag table index count => some (.readTable tag table index count)
  | .readMeters tag index count => some (.readTable tag 11 index count)
  | .arm tag slots => some (.arm tag slots)
  | .start tag => some (.showCommand tag .start)
  | .hold tag => some (.showCommand tag .hold)
  | .resume tag => some (.showCommand tag .resume)
  | .skip tag => some (.showCommand tag .skip)
  | .stop tag => some (.showCommand tag .stop)
  | .clear tag => some (.showCommand tag .clear)
  | .releaseEmergency tag => some (.releaseEmergency tag)
  | .setClock tag seconds => some (.setClock tag seconds)
  | .queryStatus tag => some (.queryStatus tag)
  | .fetchShowings tag n => some (.fetchShowings tag n)
  | .trimShowings tag n => some (.trimShowings tag n)
  | .setEventEnables tag m => some (.setEventEnables tag m)
  | .clearEvents tag m => some (.clearEvents tag m)
  | .warmReset tag => some (.warmReset tag)
  | .malformedRequest payload => some (parseRequest payload)
  | .powerOnReset => none
  | .parcelComplete _ => none
  | .frameBoundary => none
  | .millisecondTick _ => none
  | .secondTick => none
  | .prerollTimeout => none
  | .stallTimeout => none
  | .stallTrigger => none
  | .flowInterval => none
  | .phaseEnd _ => none
  | .inputLevelChange _ _ => none
  | .acceptedEdge _ => none
  | .transmissionEnd => none
  | .startMark => none
  | .oversizeParcel => none
  | .resetAsserted => none
  | .samplePeriod => none

/-- A record of the subtitle overlay (R119). -/
def overlay : LinkRecord → Bool
  | .showItem .. => true
  | .setOpacity .. => true
  | .clearRegion _ => true
  | .picture .. => false
  | .showFrame .. => false
  | .repeatFrame .. => false
  | .hold => false
  | .black => false

/-! ## The checks of ARM (R35) -/

/-- A slot that follows another in a playlist, in the order of R35's nine checks. -/
structure ArmSlot (s : State) (before : Option Nat) (slot : Nat) : Prop where
  number   : slot ≤ 7
  valid    : (s.composition slot).valid = true
  differs  : before ≠ some slot
  picture  : (s.kindTracks .picture slot).length = 1
  sound    : (s.kindTracks .soundMain slot).length ≤ 1 ∧ (s.kindTracks .soundAux slot).length ≤ 1 ∧
               (∀ t ∈ s.kindTracks .soundMain slot, ∃ n, (s.trackEntry t).channels = some n ∧ 1 ≤ n ∧ n ≤ 16) ∧
               ∀ t ∈ s.kindTracks .soundAux slot, ∃ n, (s.trackEntry t).channels = some n ∧ 1 ≤ n ∧ n ≤ 8
  count    : (s.composition slot).countFrame < (s.composition slot).duration
  licence  : ∀ i, (s.composition slot).licence = some i → (s.licence i).valid = true
  subtitle : ∀ t, (s.composition slot).subtitle = some t →
               (s.trackEntry t).valid = true ∧ (s.trackEntry t).kind = .subtitle ∧ (s.trackEntry t).slot = slot
  sheet    : ∀ first n, (s.composition slot).sheet = some (first, n) → ∀ i, first ≤ i → i < first + n →
               (s.cueEntry i).trigger ≤ (s.composition slot).duration ∧
               (i + 1 < first + n → (s.cueEntry i).trigger ≤ (s.cueEntry (i + 1)).trigger)

/-- The position `p` of a playlist, counted from 1, meets R35's checks. -/
def ArmPosition (s : State) (slots : List Nat) (p : Nat) : Prop :=
  ∃ slot, slots[p - 1]? = some slot ∧ ArmSlot s (if p = 1 then none else slots[p - 2]?) slot

/-! ## Sizes -/

/-- The collections of the part have the sizes the spec gives them. -/
structure SizesOk (s : State) : Prop where
  track       : s.tables.track.length = 32
  composition : s.tables.composition.length = 8
  licence     : s.tables.licence.length = 16
  routing     : s.tables.routing.length = 192
  lane        : s.tables.lane.length = 24
  cue         : s.tables.cue.length = 512
  line        : s.tables.line.length = 16
  input       : s.tables.input.length = 8
  tracks      : s.tracks.length = 32
  cueLevels   : s.booth.cueLevels.length = 16
  generators  : s.booth.generators.length = 4
  inputs      : s.booth.inputs.length = 8

/-! ## Invariants -/

/-- The queues of the management block (R170, R182, R183): at most 4 requests and 7 parcels in the reply-and-flow slots, none of
them an EVENT; requests wait only while every slot is taken; an IDLE lane means an empty upstream queue; and no reservation
outlives its request. -/
structure QueuesOk (s : State) : Prop where
  requests : s.mgmt.requests.length ≤ Config.inputRequests
  slots    : s.mgmt.slots.length ≤ Config.replyFlowSlots
  kinds    : ∀ p ∈ s.mgmt.slots, p.kind ≠ .event
  served   : s.mgmt.requests ≠ [] → s.mgmt.slots.length = Config.replyFlowSlots
  idle     : s.mgmt.lane = none → s.mgmt.slots = [] ∧ s.mgmt.eventSlot = none
  reserved : s.mgmt.reserved = false

/-- The emergency condition (R91, R151): while the latch is set the show is IDLE or STOPPED, the fader value and target are 0 and
no generator runs; the mute latch goes with the latch. -/
structure LatchOk (s : State) : Prop where
  show_   : s.booth.latch = true → s.seq.state = .idle ∨ s.seq.state = .stopped
  fader   : s.booth.latch = true → s.snd.fader.value = 0 ∧ s.snd.fader.target = 0
  pulses  : s.booth.latch = true → ∀ g ∈ s.booth.generators, g.phase = .idle
  mute    : s.snd.fader.muted = s.booth.latch

/-- Each output line is owned by at most one running generator (R142). -/
def OwnersOk (s : State) : Prop :=
  s.booth.generators.Pairwise fun g h => g.phase = .idle ∨ h.phase = .idle ∨ g.line ≠ h.line

/-- The schedule holds at most 96 items, ordered by non-decreasing in-frame (R105). -/
def ScheduleOk (s : State) : Prop :=
  s.sub.schedule.length ≤ Config.scheduleItems ∧ s.sub.schedule.Pairwise fun i j => i.inFrame ≤ j.inFrame

/-- The cue store (R123, R124): every trigger has 24 bits, and an EMPTY entry has trigger 0. -/
def CueStoreOk (s : State) : Prop := ∀ e ∈ s.tables.cue, e.trigger ≤ 16777215 ∧ (e.cue = .empty → e.trigger = 0)

/-- The showing log (R159, R161 to R163): at most 64 records; an open record exists exactly when the show is PLAYING, HOLDING or
STALLED, it is the newest, and its frames presented are the next frame; no record repeats more than it presents. -/
structure RecordsOk (s : State) : Prop where
  length  : s.acct.log.length ≤ Config.logRecords
  opened  : s.seq.state.onAir = s.acct.openRecord?.isSome
  newest  : ∀ r ∈ s.acct.log.tail, r.outcome ≠ .opened
  frames  : ∀ r, s.acct.openRecord? = some r → r.presented = s.seq.frame ∧ 1 ≤ s.seq.frame
  start   : s.seq.state = .armed ∨ s.seq.state = .preroll → s.seq.frame = 0
  repeats : ∀ r ∈ s.acct.log, r.repeated ≤ r.presented

/-- A track that is not scheduled holds nothing (R6, R9). -/
def UnscheduledEmpty (s : State) : Prop :=
  ∀ t, s.scheduled t = false → s.track t = { Track.empty with counters := (s.track t).counters }

/-- The items of a track in the schedule and the display set (R122). -/
def trackItems (s : State) (t : Nat) : Nat :=
  s.sub.schedule.countP (fun i => i.track == t) + s.sub.regions.countP fun x => x.any fun x => x.item.track == t

/-- The cells of a track's unit in assembly, queued units and items (R16, R122). -/
def cellsOf (s : State) (t : Nat) : Nat :=
  ((s.track t).assembly.map Assembly.cells).getD 0 + unitCells (s.track t).queue + itemCells * trackItems s t

/-- The cell pool (R16): a track's cells held are the cells of what it holds and no more than its quota, and with the free cells
they make 8192. The other clauses say what keeps this so: a damaged or picture unit holds no cells, an intact subtitle
unit 2, items belong to scheduled tracks and name a region from 0 to 3, and an unscheduled track holds nothing. -/
structure CellsOk (s : State) : Prop where
  tracks  : s.tracks.length = 32
  regions : s.sub.regions.length = 4
  held    : ∀ t, t < 32 → (s.track t).cellsHeld = cellsOf s t
  quota   : ∀ t, (s.track t).cellsHeld ≤ (s.trackEntry t).quota
  total   : s.freeCells + (s.tracks.map Track.cellsHeld).sum = Config.poolCells
  damaged : ∀ t a, s.assembly t = some a → a.damaged = true ∨ (s.trackEntry t).kind = .picture → a.cells = 0
  whole   : ∀ t a, s.assembly t = some a → a.damaged = false → (s.trackEntry t).kind = .subtitle → a.cells = itemCells
  items   : ∀ i, i ∈ s.sub.schedule ∨ some i ∈ s.sub.regions.map (Option.map Shown.item) →
              i.track < 32 ∧ i.region ≤ 3 ∧ s.scheduled i.track = true
  empty   : UnscheduledEmpty s

/-- A sample in the 24-bit range (R88). -/
def In24 (x : Int) : Prop := -8388608 ≤ x ∧ x ≤ 8388607

/-- The sound path (R88, R91, R100): the fader within 0 to 32768, every sample in play, in a delay line or on a lane in the 24-bit
range, peaks and clip counts in theirs; with the table values that set the fader in theirs. -/
structure SoundOk (s : State) : Prop where
  value   : s.snd.fader.value ≤ 32768
  target  : s.snd.fader.target ≤ 32768
  saved   : s.snd.fader.saved ≤ 32768
  rate    : s.snd.fader.rate ≤ 65535
  lanes   : s.snd.lanes.length = 24
  samples : ∀ l ∈ s.snd.lanes, In24 l.out ∧ (∀ x ∈ l.block, In24 x) ∧ ∀ x ∈ l.line, In24 x
  meters  : ∀ l ∈ s.snd.lanes, l.peak ≤ 8388608 ∧ l.clips ≤ Config.counterMax
  starts  : ∀ c ∈ s.tables.composition, ∀ t ∈ c.fader, t ≤ 32768
  cues    : ∀ e ∈ s.tables.cue, ∀ t k, e.cue = .fader t k → t ≤ 32768 ∧ k ≤ 65535
  resume  : s.tables.settings.resumeRate ≤ 65535

end Sys2Proof.Safety
end

