-- ==== Sys2Proof/WellFormed.lean ====
section
/-! DEFINITION. Which commands can come from the outside as they are written: operands within what a parcel or a field can carry. -/

namespace Sys2Proof

open Sys2Proof.Machine

/-- The most bytes of entries in one WRITE_TABLE request: 1024 less its 6 bytes of header (10.4). -/
def maxEntryBytes : Nat := 1018

/-- Is a command well-formed? -/
def Instr.wellFormed : Instr → Bool
  | .parcelComplete bytes => decide (bytes.length ≤ Config.maxParcel)
  | .millisecondTick order => decide order.Nodup
  | .writeTrackTable _ _ _ entries => decide (entries.length ≤ maxEntryBytes)
  | .writeCompositionTable _ _ _ entries => decide (entries.length ≤ maxEntryBytes)
  | .writeLicenceTable _ _ _ entries => decide (entries.length ≤ maxEntryBytes)
  | .writeRoutingMaps _ _ _ entries => decide (entries.length ≤ maxEntryBytes)
  | .writeLaneSettings _ _ _ entries => decide (entries.length ≤ maxEntryBytes)
  | .writeCueStore _ _ _ entries => decide (entries.length ≤ maxEntryBytes)
  | .writeLineSettings _ _ _ entries => decide (entries.length ≤ maxEntryBytes)
  | .writeInputActions _ _ _ entries => decide (entries.length ≤ maxEntryBytes)
  | .writeShowSettings _ _ _ entries => decide (entries.length ≤ maxEntryBytes)
  | .writeTable _ _ _ _ entries => decide (entries.length ≤ maxEntryBytes)
  | .arm _ slots => decide (slots.length ≤ 255)
  | .malformedRequest payload => decide (payload.length ≤ Config.maxPayload) && payloadMalformed payload
  | .powerOnReset => true
  | .frameBoundary => true
  | .secondTick => true
  | .prerollTimeout => true
  | .stallTimeout => true
  | .stallTrigger => true
  | .flowInterval => true
  | .phaseEnd _ => true
  | .inputLevelChange _ _ => true
  | .acceptedEdge _ => true
  | .transmissionEnd => true
  | .readTable _ _ _ _ => true
  | .readMeters _ _ _ => true
  | .start _ => true
  | .hold _ => true
  | .resume _ => true
  | .skip _ => true
  | .stop _ => true
  | .clear _ => true
  | .releaseEmergency _ => true
  | .setClock _ _ => true
  | .queryStatus _ => true
  | .fetchShowings _ _ => true
  | .trimShowings _ _ => true
  | .setEventEnables _ _ => true
  | .clearEvents _ _ => true
  | .warmReset _ => true
  | .startMark => true
  | .oversizeParcel => true
  | .resetAsserted => true
  | .samplePeriod => true

end Sys2Proof
end

