-- ==== Sys2Proof/Certificates/Slice0/Obligations.lean ====
section
/-! DEFINITION. The statements for the provers. Each docstring names the rules a statement formalises, and the log entry where it
rests on a choice of the model. -/

open Sys2Proof Sys2Proof.Machine Sys2Proof.Safety

/-! ## The machine -/

/-- A step executes the command at the front of the queue on the state with the queue's rest; on an empty queue the part idles
(log 3). -/
def Obligations.StepRunsTheFrontCommand : Prop :=
  (∀ (c : Instr) (rest : List Instr) (s : State),
    step { s with pending := c :: rest } = exec c { s with pending := rest }) ∧
  ∀ s : State, s.pending = [] → step s = .next s

/-- Every command ends in a next state, and none touches the queue of the commands that wait. THE MODEL'S CHOICE: that no command
ever stops is log 23, also in states that no run reaches (log 24), and the queue is the model's own (log 15). -/
def Obligations.EveryCommandKeepsTheQueue : Prop :=
  ∀ (c : Instr) (s : State), ∃ t, exec c s = .next t ∧ t.pending = s.pending

/-! ## Resets -/

/-- When power-on reset ends, the tables hold their power-on values, and every block its own, whatever it held before (R4, R6, R26,
R28, R30, R32, R73, R80, R91, R103, R125, R140, R142, R147, R155, R159, R179). The latch is set exactly when input 0, the fire-alarm
contact, reads LOW (R146, R150). One BLACK is sent (R67). The raw levels and the records already sent are kept. -/
def Obligations.PowerOnResetValues : Prop :=
  ∀ s : State, ∃ t, exec .powerOnReset s = .next t ∧
    (t.tables.track = List.replicate 32 ⟨false, .picture, 0, none, none, 0⟩ ∧
     t.tables.composition = List.replicate 8 ⟨false, 0, 0, 1, 0, 0, .mono, none, none, 0, none, none⟩ ∧
     t.tables.licence = List.replicate 16 ⟨false, 0, none, none, some 0, 0⟩ ∧
     t.tables.routing = List.replicate 192 ⟨false, []⟩ ∧ t.tables.lane = List.replicate 24 ⟨0, 0⟩ ∧
     t.tables.cue = List.replicate 512 ⟨0, .empty⟩ ∧ t.tables.line = List.replicate 16 ⟨.release, none⟩ ∧
     t.tables.input = ⟨true, .falling, 10, .emergency⟩ :: List.replicate 7 ⟨false, .falling, 0, .nothing⟩ ∧
     t.tables.settings = ⟨8, 30, 12, 20, 4096, 8, 0⟩) ∧
    (t.port = ⟨.hunting, 0, 0, 0⟩ ∧
     t.tracks = List.replicate 32 ⟨none, none, [], none, 0, none, ⟨0, 0, 0, 0, 0, 0, 0, 0, 0, 0, 0, 0⟩⟩ ∧ t.freeCells = 8192) ∧
    (t.seq = ⟨.idle, [], 0, 0, false, none, none, .none⟩ ∧ t.clk = ⟨2000, 2000, 0, 0, none⟩ ∧ t.repeats = 0) ∧
    (t.snd.activeMap = 0 ∧ t.snd.fader = ⟨0, 0, 4096, 0, t.booth.latch⟩ ∧ t.snd.lanes.length = 24 ∧
     ∀ l ∈ t.snd.lanes, l.block = List.replicate 2000 0 ∧ (∀ d, l.line.getD d 0 = 0) ∧ l.peak = 0 ∧ l.clips = 0) ∧
    (t.sub = ⟨[], [none, none, none, none], none, 0, 0, 0, 0⟩ ∧ t.cue = ⟨none, [], false, 0⟩ ∧ t.acct = ⟨[], 1, 0, .none⟩) ∧
    (t.booth.cueLevels = List.replicate 16 .release ∧ t.booth.generators.length = 4 ∧
     (∀ g ∈ t.booth.generators, g.phase = .idle) ∧
     t.booth.inputs = s.booth.inputs.map (fun k => ⟨k.raw, k.raw, none⟩) ∧
     (t.booth.latch = true ↔ (s.booth.inputs.map Input.raw)[0]? = some .low)) ∧
    t.mgmt = ⟨[], if t.booth.latch then 0x40 else 0, 0, 0, none, [], false, none⟩ ∧
    t.link = s.link ++ [.black] ∧ t.inReset = false

/-- While power-on reset is held every lane sends 0 and every output line is RELEASE (R73, R141), and no record is sent. THE MODEL'S
CHOICE (log 7): a command that arrives then does nothing, but for the two resets and the levels on the input pins. -/
def Obligations.ResetHeldIsSilent : Prop :=
  (∀ s : State, ∃ t, exec .resetAsserted s = .next t ∧ t.inReset = true ∧ t.snd.lanes.length = 24 ∧
    (∀ l ∈ t.snd.lanes, l.out = 0) ∧ (∀ line, t.lineLevel line = .release) ∧ t.link = s.link ∧
    t.booth.inputs.map Input.raw = s.booth.inputs.map Input.raw) ∧
  (∀ (c : Instr) (s : State), s.inReset = true → c ≠ .powerOnReset → c ≠ .resetAsserted →
    (∀ i level, c ≠ .inputLevelChange i level) → exec c s = .next s) ∧
  ∀ (i : Fin 8) (level : InLevel) (s : State), s.inReset = true →
    exec (.inputLevelChange i level) s =
      .next { s with booth := { s.booth with inputs := s.booth.inputs.modify i.val fun k => { k with raw := level } } }

/-- WARM_RESET (R184, with R6, R16, R25, R26, R32, R62, R67, R74, R91, R101, R103, R125, R140, R142, R166): what each block holds
after it and what is kept, and its reply: the waiting REPLY parcels stay in their order, with the reply behind them, and the parcel
on the lane stays (R182 to R184); an IDLE lane takes the oldest. -/
def Obligations.WarmResetValues : Prop :=
  ∀ (tag : Byte) (s : State), TakesRequest s → ∃ t, exec (.warmReset tag) s = .next t ∧
    t.tables = s.tables ∧
    t.port = ⟨s.port.framing, 0, 0, 0⟩ ∧
    t.tracks = List.replicate 32 ⟨none, none, [], none, 0, none, ⟨0, 0, 0, 0, 0, 0, 0, 0, 0, 0, 0, 0⟩⟩ ∧ t.freeCells = 8192 ∧
    t.seq = ⟨.idle, [], 0, 0, false, none, none, .none⟩ ∧
    t.clk = { s.clk with period := s.idlePeriod, countdown := s.idlePeriod } ∧ t.repeats = 0 ∧
    t.snd.activeMap = s.snd.activeMap ∧ t.snd.fader = { s.snd.fader with value := 0, target := 0 } ∧
    t.snd.lanes.length = s.snd.lanes.length ∧
    (∀ l ∈ t.snd.lanes, l.block = List.replicate s.idlePeriod 0 ∧ (∀ d, l.line.getD d 0 = 0) ∧ l.peak = 0 ∧ l.clips = 0) ∧
    t.sub = ⟨[], [none, none, none, none], none, 0, 0, 0, 0⟩ ∧ t.cue = ⟨none, [], false, 0⟩ ∧
    t.booth.cueLevels = s.tables.line.map LineSetting.idle ∧ t.booth.generators.length = 4 ∧
    (∀ g ∈ t.booth.generators, g.phase = .idle) ∧ t.booth.inputs = s.booth.inputs ∧ t.booth.latch = s.booth.latch ∧
    t.acct.log = (match s.acct.openRecord? with
      | some r => { r with outcome := if r.counted then .counted else .short } :: s.acct.log.tail
      | none => s.acct.log) ∧
    t.acct.nextNumber = s.acct.nextNumber ∧ t.acct.drops = 0 ∧ t.acct.lastBarred = .none ∧
    t.mgmt.flags = 0 ∧ t.mgmt.enables = s.mgmt.enables ∧ t.mgmt.flowCount = 0 ∧ t.mgmt.eventSlot = none ∧
    t.mgmt.requests = [] ∧ Replied t [0x0A, tag, 0x00, 0x00, boolByte s.booth.latch, 0x00] ∧
    (∃ replies : List UpParcel, replies = s.mgmt.slots.filter (fun p => decide (p.kind = .reply)) ++
        [⟨.reply, [0x0A, tag, 0x00, 0x00, boolByte s.booth.latch, 0x00]⟩] ∧
      (s.mgmt.lane ≠ none → t.mgmt.lane = s.mgmt.lane ∧ t.mgmt.slots = replies) ∧
      (s.mgmt.lane = none → t.mgmt.lane = replies.head? ∧ t.mgmt.slots = replies.tail)) ∧
    t.link = s.link ++ (regionNumbers.filter fun r => (s.region r).isSome).map LinkRecord.clearRegion ++ [.black] ∧
    t.inReset = false

/-! ## The clock -/

/-- SAMPLE_PERIOD (R26, R27, R73, R89, R100): each lane takes the next value of its block into its delay line and sends the value that
its delay says, the meter follows, the countdown falls and the dividers count; nothing else changes. The three ports send the
lanes' values as 24-bit signed values, 8 lanes each, in lane order. At countdown 0 the frame
boundary is due first, and no sample period passes: THE MODEL'S CHOICE (log 18). -/
def Obligations.SamplePeriodMovesLanes : Prop :=
  (∀ s : State, s.inReset = false → s.clk.countdown ≠ 0 → ∃ t, exec .samplePeriod s = .next t ∧
    t.clk = { s.clk with countdown := s.clk.countdown - 1, msDivider := (s.clk.msDivider + 1) % 48,
                         secDivider := (s.clk.secDivider + 1) % 48000 } ∧
    t = { s with clk := t.clk, snd := { s.snd with lanes := t.snd.lanes } } ∧
    t.snd.lanes.length = s.snd.lanes.length ∧
    ∀ (j : Nat) (l m : Lane), s.snd.lanes[j]? = some l → t.snd.lanes[j]? = some m → l.delay < 2048 →
      m.block = l.block.tail ∧ m.line.getD 0 0 = l.block.headD 0 ∧
      (∀ d, d < 2047 → m.line.getD (d + 1) 0 = l.line.getD d 0) ∧ m.line.length ≤ 2048 ∧
      m.out = (if l.delay = 0 then l.block.headD 0 else l.line.getD (l.delay - 1) 0) ∧
      m.peak = max l.peak m.out.natAbs ∧ m.delay = l.delay ∧ m.clips = l.clips) ∧
  (∀ s : State, s.inReset = false → s.clk.countdown = 0 → exec .samplePeriod s = .next s) ∧
  ∀ (port : Fin 3) (s : State), s.snd.lanes.length = 24 → (s.portSamples port).length = 8 ∧
    ∀ i, i < 8 → ∃ l, s.snd.lanes[8 * port.val + i]? = some l ∧ (s.portSamples port)[i]? = some (BitVec.ofInt 24 l.out) ∧
      (-8388608 ≤ l.out → l.out ≤ 8388607 → (BitVec.ofInt 24 l.out).toInt = l.out)

/-- SECOND_TICK (R28, R40, R47): booth time rises if it is set, the timer of PREROLL or STALLED counts the tick, and where no timer
reaches its timeout nothing else changes. At the second tick that brings a timer to its timeout, and at a timeout taken as a
command of its own (log 2), the show stops with the effects of STOP and its own reason, and the change is reported (R33). THE MODEL'S
CHOICE: the tick puts its divider at 0 (log 18), the stopped show keeps its licence-cleared mark (log 27), and an IDLE lane takes a
parcel once, when the event is complete: the EVENT, or else the FLOW (log 9). -/
def Obligations.SecondTickAndTimeouts : Prop :=
  (∀ s : State, s.inReset = false → QueuesOk s →
    (s.seq.state = .preroll → s.seq.prerollTimer.getD 0 + 1 < s.tables.settings.prerollTimeout) →
    (s.seq.state = .stalled → s.seq.stallTimer.getD 0 + 1 < s.tables.settings.stallTimeout) →
    exec .secondTick s = .next
      { s with
        clk := { s.clk with booth := s.clk.booth.map fun n => if n < 4294967295 then n + 1 else 4294967295, secDivider := 0 }
        seq := { s.seq with
          prerollTimer := if s.seq.state = .preroll then some (s.seq.prerollTimer.getD 0 + 1) else s.seq.prerollTimer
          stallTimer := if s.seq.state = .stalled then some (s.seq.stallTimer.getD 0 + 1) else s.seq.stallTimer } }) ∧
  ∀ s : State, s.inReset = false →
    (s.seq.state = .preroll → s.tables.settings.prerollTimeout ≤ s.seq.prerollTimer.getD 0 + 1 →
      ∃ t, exec .secondTick s = .next t ∧ Stopped { s with clk := s.clk.second } t .prerollTimeout ∧ StateReported s t) ∧
    (s.seq.state = .stalled → s.tables.settings.stallTimeout ≤ s.seq.stallTimer.getD 0 + 1 →
      ∃ t, exec .secondTick s = .next t ∧ Stopped { s with clk := s.clk.second } t .starved ∧ StateReported s t) ∧
    (s.seq.state = .preroll → ∃ t, exec .prerollTimeout s = .next t ∧ Stopped s t .prerollTimeout ∧ StateReported s t) ∧
    (s.seq.state = .stalled → ∃ t, exec .stallTimeout s = .next t ∧ Stopped s t .starved ∧ StateReported s t)

/-- STALL_TRIGGER (R45, R62): the show in PLAYING enters STALLED with the stall timer at 0, the repeat count becomes 0, STALL is
set, the sound path takes the hold event (R95), and the change is reported. FLOW_INTERVAL (R181, R182): a FLOW parcel with the
present values takes a free slot, if there is one, and the flow count becomes 0. THE MODEL'S CHOICE: the two exist as commands of
their own (log 2), which have no effect in a show state where their event cannot occur (log 1), and STALL and SHOW_STATE make one EVENT
on an IDLE lane, which takes it when the event is complete (log 9). -/
def Obligations.StallTriggerAndFlowInterval : Prop :=
  (∀ s : State, s.inReset = false → s.seq.state = .playing → ∃ t, exec .stallTrigger s = .next t ∧
    t.seq = { s.seq with state := .stalled, stallTimer := some 0 } ∧ t.repeats = 0 ∧
    t.snd = { s.snd with fader := if s.snd.fader.muted then s.snd.fader
                                  else { s.snd.fader with saved := s.snd.fader.target, value := 0, target := 0 } } ∧
    t = { s with seq := t.seq, snd := t.snd, repeats := 0, mgmt := t.mgmt } ∧
    t.mgmt.flags = withFlag (withFlag s.mgmt.flags .stall) .showState ∧ t.mgmt.flowCount = 0 ∧
    t.mgmt.enables = s.mgmt.enables ∧ FlowQueued s t ∧ t.mgmt.requests = s.mgmt.requests) ∧
  (∀ s : State, s.inReset = false → QueuesOk s → (s.seq.state = .preroll ∨ s.seq.state = .playing ∨ s.seq.state = .stalled) →
    exec .flowInterval s = .next { s with mgmt :=
      if s.mgmt.lane = none then { s.mgmt with flowCount := 0, lane := some (flowOf s) }
      else if s.mgmt.slots.length < 7 then { s.mgmt with flowCount := 0, slots := s.mgmt.slots ++ [flowOf s] }
      else { s.mgmt with flowCount := 0 } }) ∧
  ∀ s : State, s.inReset = false → QueuesOk s →
    (s.seq.state ≠ .playing → exec .stallTrigger s = .next s) ∧
    (s.seq.state ≠ .preroll → s.seq.state ≠ .playing → s.seq.state ≠ .stalled → exec .flowInterval s = .next s)

/-! ## Show commands -/

/-- START in ARMED (R38): the show enters PREROLL with the preroll timer at 0 and one BLACK (R67), and the licence check is not run.
HOLD in PLAYING (R43, R95) and RESUME in HOLDING (R44, R96): the show state and the fader change, and f stays; with the mute latch
set the fader takes no hold or resume event. Nothing else changes; the change is reported and the reply is DONE (R33, R175). THE MODEL'S
CHOICE: an IDLE lane takes the reply, and the EVENT of the same request waits (log 9). -/
def Obligations.StartHoldAndResume : Prop :=
  ∀ (tag : Byte) (s : State), TakesRequest s →
    (s.seq.state = .armed → ∃ t, exec (.start tag) s = .next t ∧
      t = { s with seq := { s.seq with state := .preroll, prerollTimer := some 0, stallTimer := none },
                   link := s.link ++ [.black], mgmt := t.mgmt } ∧
      ChangeReported s t [0x03, tag, 0x00, 0x02, boolByte s.booth.latch, 0x00]) ∧
    (s.seq.state = .playing → ∃ t, exec (.hold tag) s = .next t ∧
      t = { s with seq := { s.seq with state := .holding },
                   snd := { s.snd with fader := if s.snd.fader.muted then s.snd.fader
                     else { s.snd.fader with saved := s.snd.fader.target, value := 0, target := 0 } },
                   mgmt := t.mgmt } ∧
      ChangeReported s t [0x03, tag, 0x00, 0x04, boolByte s.booth.latch, 0x00]) ∧
    (s.seq.state = .holding → ∃ t, exec (.resume tag) s = .next t ∧
      t = { s with seq := { s.seq with state := .playing },
                   snd := { s.snd with fader := if s.snd.fader.muted then s.snd.fader
                     else { s.snd.fader with value := 0, target := s.snd.fader.saved,
                                             rate := s.tables.settings.resumeRate } },
                   mgmt := t.mgmt } ∧
      ChangeReported s t [0x03, tag, 0x00, 0x03, boolByte s.booth.latch, 0x00])

/-- SKIP in PREROLL, PLAYING, HOLDING or STALLED (R50, R49): the position moves to the first later composition that is not barred,
or past the end; the show enters PREROLL or ENDED; an open record closes and COMPOSITION_END is set where a composition was on
the timeline; a hold or a stall ends with the resume event; the tracks of the positions left go and those of the new next position
start (R8, R9), with their CLEAR_REGION records before the BLACK, which is sent unless PREROLL was found and left (R67); a change
of show state queues its FLOW before the reply (R33). THE MODEL'S CHOICE: an IDLE lane takes the reply, and the EVENT of the same request
waits (log 9). -/
def Obligations.SkipAdvancesPosition : Prop :=
  ∀ (tag : Byte) (s : State), TakesRequest s → s.seq.state.running = true → s.acct.log.length ≤ 64 → s.acct.drops ≤ 65535 →
    PlaylistOk s → s.tracks.length = 32 →
    ∃ t, exec (.skip tag) s = .next t ∧
    t.seq = { s.seq with
      state := if clearedAhead s = 0 then .ended else .preroll
      position := clearedAhead s
      frame := 0
      cleared := decide (clearedAhead s ≠ 0)
      prerollTimer := if clearedAhead s = 0 then none else some 0
      stallTimer := none } ∧
    AdvanceRecorded (if s.seq.state.onAir then s.closeRecord else s) t ∧
    t.clk = (if clearedAhead s = 0 then { s.clk with period := s.idlePeriod } else s.clk) ∧
    t.snd = { s.snd with fader :=
      if (s.seq.state = .holding ∨ s.seq.state = .stalled) ∧ s.snd.fader.muted = false then
        { s.snd.fader with value := 0, target := s.snd.fader.saved, rate := s.tables.settings.resumeRate }
      else s.snd.fader } ∧
    t.cue = { s.cue with cursor := none } ∧ t.repeats = 0 ∧
    t.tables = s.tables ∧ t.port = s.port ∧ t.booth = s.booth ∧
    TracksAdvance s t (if s.seq.state = .preroll ∧ clearedAhead s ≠ 0 then [] else [.black]) ∧
    (∀ f, flagSet t.mgmt.flags f = (flagSet s.mgmt.flags f ||
      match f with
      | .showState => !decide (s.seq.state = .preroll ∧ clearedAhead s ≠ 0)
      | .compositionEnd => s.seq.state.onAir
      | .barred => !(barredAhead s).isEmpty
      | .logWrap => decide (64 < (barredAhead s).length + s.acct.log.length)
      | _ => false)) ∧
    ReplyQueued s t (!decide (s.seq.state = .preroll ∧ clearedAhead s ≠ 0))
      [0x03, tag, 0x00, if clearedAhead s = 0 then 0x06 else 0x02, boolByte s.booth.latch, 0x00] ∧
    Replied t [0x03, tag, 0x00, if clearedAhead s = 0 then 0x06 else 0x02, boolByte s.booth.latch, 0x00]

/-- STOP with a show armed or running (R51): STOPPED with reason COMMAND and the effects of STOP; the change is reported by SHOW_STATE
and one FLOW, and the reply is DONE. THE MODEL'S CHOICE: the licence-cleared mark is kept in STOPPED (log 27), and an IDLE lane takes the
reply, while the EVENT of the same request waits (log 9). -/
def Obligations.StopEndsShow : Prop :=
  ∀ (tag : Byte) (s : State), TakesRequest s → s.seq.state.active = true → ∃ t, exec (.stop tag) s = .next t ∧
    Stopped s t .command ∧ ChangeReported s t [0x03, tag, 0x00, 0x07, boolByte s.booth.latch, 0x00]

/-- CLEAR in ARMED, ENDED or STOPPED (R54): IDLE with no playlist; scheduled tracks stop being scheduled, P is the idle S, the
cursor is none, no marker is sent (R67), and all else stays. THE MODEL'S CHOICE: an IDLE lane takes the reply, and the EVENT of the same
request waits (log 9). -/
def Obligations.ClearReturnsToIdle : Prop :=
  ∀ (tag : Byte) (s : State), TakesRequest s → (s.seq.state = .armed ∨ s.seq.state = .ended ∨ s.seq.state = .stopped) →
    ∃ t, exec (.clear tag) s = .next t ∧
    t.seq = ⟨.idle, [], 0, 0, false, none, none, .none⟩ ∧ TracksLeave s t [] ∧
    t.clk = { s.clk with period := s.idlePeriod } ∧ t.cue = { s.cue with cursor := none } ∧ t.repeats = 0 ∧
    t.tables = s.tables ∧ t.port = s.port ∧ t.snd = s.snd ∧ t.booth = s.booth ∧ t.acct = s.acct ∧
    ChangeReported s t [0x03, tag, 0x00, 0x00, boolByte s.booth.latch, 0x00]

/-- ARM (R35, R36, R8): with no show armed or running, the latch clear, and a playlist of 1 to 16 positions that each meet the nine
checks, the show enters ARMED at position 1, and the tracks of positions 1 and 2 start empty, each picture track with a new
arrival window; all else stays. THE MODEL'S CHOICE: an IDLE lane takes the reply, and the EVENT of the same request waits (log 9). -/
def Obligations.ArmSchedulesTracks : Prop :=
  ∀ (tag : Byte) (slots : Bytes) (s : State), TakesRequest s → CellsOk s → s.seq.state.active = false → s.booth.latch = false →
    1 ≤ slots.length → slots.length ≤ 16 →
    (∀ p, 1 ≤ p → p ≤ slots.length → ArmPosition s (slots.map BitVec.toNat) p) →
    ∃ t, exec (.arm tag slots) s = .next t ∧
      t = { s with seq := ⟨.armed, slots.map BitVec.toNat, 1, 0, false, none, none, .none⟩, tracks := t.tracks,
                   mgmt := t.mgmt } ∧
      t.tracks.length = 32 ∧
      (∀ k, k ≤ 31 → t.track k =
        if t.scheduled k then startedTrack s k else s.track k) ∧
      ChangeReported s t [0x03, tag, 0x00, 0x01, 0x00, 0x00]

/-- SHOW requests that are refused (R34, R35, R38, R43, R44, R50, R51, R54, R175, R188): a show command in a state that does not accept
it is answered REFUSED_STATE; ARM is answered REFUSED_STATE while a show is armed or running or the latch is set, MALFORMED with
failing position 0 for a playlist of no or more than 16 positions, and MALFORMED with the first failing position otherwise. Nothing
else changes. -/
def Obligations.ShowRequestsRefused : Prop :=
  (∀ (tag : Byte) (c : ShowCommand) (s : State), TakesRequest s → s.seq.state ∉ acceptedIn c →
    exec (showInstr tag c) s = .next (answered s (showReply tag .refusedState s 0))) ∧
  ∀ (tag : Byte) (slots : Bytes) (s : State), TakesRequest s →
    (s.seq.state.active = true ∨ s.booth.latch = true →
      exec (.arm tag slots) s = .next (answered s (showReply tag .refusedState s 0))) ∧
    (s.seq.state.active = false → s.booth.latch = false → slots.length = 0 ∨ 16 < slots.length →
      exec (.arm tag slots) s = .next (answered s (showReply tag .malformed s 0))) ∧
    ∀ p, s.seq.state.active = false → s.booth.latch = false → slots.length ≤ 16 → 1 ≤ p → p ≤ slots.length →
      (∀ q, 1 ≤ q → q < p → ArmPosition s (slots.map BitVec.toNat) q) → ¬ ArmPosition s (slots.map BitVec.toNat) p →
      exec (.arm tag slots) s = .next (answered s (showReply tag .malformed s p))

/-- RELEASE_EMERGENCY (R153, R98): accepted with the latch set and no EMERGENCY input active, when the latch and the mute latch
clear and nothing else changes; refused with REFUSED_STATE otherwise. -/
def Obligations.ReleaseEmergencyClearsLatch : Prop :=
  ∀ (tag : Byte) (s : State), TakesRequest s → s.booth.inputs.length = 8 →
    (s.booth.latch = true →
      (∀ i, i < 8 → ¬ ((s.inputEntry i).enabled = true ∧ (s.inputEntry i).action = .emergency ∧
        (s.input i).debounced = if (s.inputEntry i).edge = .falling then .low else .high)) →
      exec (.releaseEmergency tag) s = .next (answered
        { s with booth := { s.booth with latch := false },
                 snd := { s.snd with fader := { s.snd.fader with muted := false } } }
        [0x03, tag, 0x00, s.seq.state.code, 0x00, 0x00])) ∧
    (s.booth.latch = false ∨
      (∃ i, i < 8 ∧ (s.inputEntry i).enabled = true ∧ (s.inputEntry i).action = .emergency ∧
        (s.input i).debounced = if (s.inputEntry i).edge = .falling then .low else .high) →
      exec (.releaseEmergency tag) s = .next (answered s [0x03, tag, 0x01, s.seq.state.code, boolByte s.booth.latch, 0x00]))

/-! ## Clock, status, log and event requests -/

/-- SET_CLOCK (R176, R28): booth time is the value carried and the second divider restarts; nothing else changes. QUERY_STATUS
(R176): the reply carries the 44 bytes of the status block (10.3), and nothing else changes. -/
def Obligations.SetClockAndQueryStatus : Prop :=
  ∀ (tag : Byte) (s : State), TakesRequest s →
    (∀ seconds : BitVec 32, exec (.setClock tag seconds) s = .next (answered
      { s with clk := { s.clk with booth := some seconds.toNat, secDivider := 0 } } ([0x04, tag, 0x00] ++ be 4 seconds.toNat))) ∧
    ∃ block : Bytes, exec (.queryStatus tag) s = .next (answered s ([0x05, tag, 0x00] ++ block)) ∧ block.length = 44 ∧
      block = [0x06, 0x20, 0x01, s.seq.state.code, s.seq.reason.code] ++ be 1 s.seq.position ++ be 3 s.seq.frame ++
        be 3 s.windowBase ++ be 2 s.freeCells ++ [boolByte s.booth.latch] ++ be 3 s.mgmt.flags.toNat ++
        be 3 s.mgmt.enables.toNat ++ [boolByte s.clk.booth.isSome] ++ be 4 (s.clk.booth.getD 0) ++ be 2 s.sub.refused ++
        be 2 s.sub.stale ++ be 2 s.sub.late ++ be 2 s.sub.preempted ++ be 1 s.acct.log.length ++ be 4 s.acct.nextNumber ++
        be 2 s.acct.drops ++ [s.acct.lastBarred.code] ++ be 2 s.cue.lastMark

/-- FETCH_SHOWINGS (R177) in every state: the reply is DONE with up to 4 records numbered n or above, oldest first, in the layout of
10.5, and the more-remain mark; nothing else changes. A number m is at or above n as R161 compares them. -/
def Obligations.FetchShowingsReturnsRecords : Prop :=
  ∀ (tag : Byte) (n : BitVec 32) (s : State), TakesRequest s →
    ∃ records : List Record,
      records = s.acct.log.reverse.filter (fun r => decide
        (((s.acct.nextNumber : Int) - r.number) % 4294967295 ≤ ((s.acct.nextNumber : Int) - n.toNat) % 4294967295)) ∧
      exec (.fetchShowings tag n) s = .next (answered s ([0x06, tag, 0x00] ++ be 1 (min 4 records.length) ++
        [boolByte (decide (4 < records.length))] ++ (records.take 4).flatMap Record.encode))

/-- TRIM_SHOWINGS (R178) in every state: every closed record numbered n or below leaves the log, the others keep their order, and
the reply is DONE with how many were removed and how many are left; nothing else changes. -/
def Obligations.TrimShowingsRemovesClosed : Prop :=
  ∀ (tag : Byte) (n : BitVec 32) (s : State), TakesRequest s →
    ∃ kept : List Record,
      kept = s.acct.log.filter (fun r => decide (r.outcome = .opened ∨
        ¬ ((s.acct.nextNumber : Int) - n.toNat) % 4294967295 ≤ ((s.acct.nextNumber : Int) - r.number) % 4294967295)) ∧
      exec (.trimShowings tag n) s = .next (answered { s with acct := { s.acct with log := kept } }
        ([0x07, tag, 0x00] ++ be 1 (s.acct.log.length - kept.length) ++ be 1 kept.length))

/-- SET_EVENT_ENABLES replaces the 17 enables and CLEAR_EVENTS clears the flags it names (R179, R180), in every state; a waiting
EVENT parcel is not rewritten, and nothing else changes. -/
def Obligations.EventRequestsChangeFlags : Prop :=
  ∀ (tag : Byte) (m : BitVec 24) (s : State), TakesRequest s →
    (∃ t, exec (.setEventEnables tag m) s = .next (answered t ([0x08, tag, 0x00] ++ be 3 t.mgmt.enables.toNat ++
        be 3 t.mgmt.flags.toNat)) ∧
      t = { s with mgmt := { s.mgmt with enables := t.mgmt.enables } } ∧ ∀ f : Flag, flagSet t.mgmt.enables f = m.getLsbD f.bit) ∧
    ∃ t, exec (.clearEvents tag m) s = .next (answered t ([0x09, tag, 0x00] ++ be 3 t.mgmt.flags.toNat)) ∧
      t = { s with mgmt := { s.mgmt with flags := t.mgmt.flags } } ∧
      ∀ f : Flag, flagSet t.mgmt.flags f = (flagSet s.mgmt.flags f && !m.getLsbD f.bit)

/-- Requests that R171 refuses: a payload too short for a kind and a tag, an unknown kind, or a body of the wrong length or with an
unknown action. Each is answered MALFORMED with the kind and tag received, 0 where there is none, and nothing else changes. -/
def Obligations.MalformedRequestsAnswered : Prop :=
  ∀ s : State, TakesRequest s →
    (∀ payload : Bytes, payload.length < 2 →
      exec (.malformedRequest payload) s = .next (answered s [0x00, 0x00, 0x05])) ∧
    ∀ (kind tag : Byte) (body : Bytes),
      (kind = 0 ∨ 10 < kind.toNat ∨
       (kind = 1 ∧ body.length < 4) ∨ (kind = 2 ∧ body.length ≠ 4) ∨
       (kind = 3 ∧ (body = [] ∨ (∃ rest, body = 0 :: rest ∧ ∀ n slots, rest = n :: slots → slots.length ≠ n.toNat) ∨
         (∃ action rest, body = action :: rest ∧ action ≠ 0 ∧ (7 < action.toNat ∨ rest ≠ [])))) ∨
       ((kind = 4 ∨ kind = 6 ∨ kind = 7) ∧ body.length ≠ 4) ∨ ((kind = 8 ∨ kind = 9) ∧ body.length ≠ 3) ∨
       ((kind = 5 ∨ kind = 10) ∧ body ≠ [])) →
      ∃ reply : Bytes, exec (.malformedRequest (kind :: tag :: body)) s = .next (answered s ([kind, tag, 0x05] ++ reply))

/-! ## Table requests -/

/-- The WRITE_TABLE rows of tables 1 to 6 (R173): when every entry passes its checks, the entries are stored at their indices, every
other entry of every table and all else of the part stay, and the reply is DONE with the first index and the count. -/
def Obligations.WriteStoresEntries : Prop :=
  ∀ (table : Nat) (tag : Byte) (index : BitVec 16) (count : Byte) (entries : Bytes) (c : Instr) (s : State),
    TakesRequest s → SizesOk s → 1 ≤ table → table ≤ 6 → c ∈ writeRows table tag index count entries →
    count ≠ 0 → entries.length = count.toNat * entrySize table →
    (∀ j, j < count.toNat → ∃ e, s.judgeEntry table (index.toNat + j)
      ((entries.drop (j * entrySize table)).take (entrySize table)) = .ok e) →
    ∃ t, exec c s = .next t ∧ t = { s with tables := t.tables, mgmt := t.mgmt } ∧
      t.mgmt = (answered s (writeReply tag (BitVec.ofNat 8 table) .done index.toNat count)).mgmt ∧
      (∀ j e, j < count.toNat → s.judgeEntry table (index.toNat + j)
        ((entries.drop (j * entrySize table)).take (entrySize table)) = .ok e →
        t.readEntry table (index.toNat + j) = encodeEntry e) ∧
      ∀ tb i, (tb ≠ table ∨ i < index.toNat ∨ index.toNat + count.toNat ≤ i) → t.readEntry tb i = s.readEntry tb i

/-- A write of table 7 (R139, R140, R173): besides the entries, each written line's cue level becomes its idle level, and no other
line's changes. A write of table 10 (R29, R26, R173): its one entry is stored when no show runs, and the period becomes the idle S
of the written rate code. -/
def Obligations.WriteLineAndShowSettings : Prop :=
  (∀ (tag : Byte) (index : BitVec 16) (count : Byte) (entries : Bytes) (c : Instr) (s : State),
    TakesRequest s → SizesOk s → c ∈ writeRows 7 tag index count entries →
    count ≠ 0 → entries.length = count.toNat * 2 →
    (∀ j, j < count.toNat → ∃ e, s.judgeEntry 7 (index.toNat + j) ((entries.drop (j * 2)).take 2) = .ok e) →
    ∃ t, exec c s = .next t ∧
      t = { s with tables := { s.tables with line := t.tables.line }, booth := { s.booth with cueLevels := t.booth.cueLevels },
                   mgmt := t.mgmt } ∧
      t.mgmt = (answered s (writeReply tag 7 .done index.toNat count)).mgmt ∧
      (∀ j e, j < count.toNat → s.judgeEntry 7 (index.toNat + j) ((entries.drop (j * 2)).take 2) = .ok (.line e) →
        t.tables.line[index.toNat + j]? = some e ∧ t.booth.cueLevels[index.toNat + j]? = some e.idle) ∧
      ∀ i, (i < index.toNat ∨ index.toNat + count.toNat ≤ i) →
        t.tables.line[i]? = s.tables.line[i]? ∧ t.booth.cueLevels[i]? = s.booth.cueLevels[i]?) ∧
  ∀ (tag : Byte) (e : ShowSettings) (entries : Bytes) (c : Instr) (s : State),
    TakesRequest s → c ∈ writeRows 10 tag 0 1 entries → s.seq.state.running = false →
    entries.length = 8 → decodeEntry 10 entries = .ok (.settings e) →
    ∃ t, exec c s = .next t ∧
      t = { s with tables := { s.tables with settings := e }, clk := { s.clk with period := samplesPerFrame e.idleRate },
                   mgmt := t.mgmt } ∧
      t.mgmt = (answered s (writeReply tag 10 .done 0 1)).mgmt

/-- A write of table 8 (R146, R150, R173): the entries are stored; when an input whose entry was written thereby becomes an active
EMERGENCY input while the latch is clear, the latch is set with its effects (R151), and otherwise nothing else changes. The reply
follows the FLOW of a change of show state. THE MODEL'S CHOICE: the stopped show keeps its licence-cleared mark (log 27), and an IDLE
lane takes the reply before the EVENT and the FLOW of the latch (log 9). -/
def Obligations.WriteInputActions : Prop :=
  ∀ (tag : Byte) (index : BitVec 16) (count : Byte) (entries : Bytes) (c : Instr) (s : State),
    TakesRequest s → SizesOk s → c ∈ writeRows 8 tag index count entries →
    count ≠ 0 → entries.length = count.toNat * 6 →
    (∀ j, j < count.toNat → ∃ e, s.judgeEntry 8 (index.toNat + j) ((entries.drop (j * 6)).take 6) = .ok e) →
    ∃ t, exec c s = .next t ∧
      (∀ j e, j < count.toNat → s.judgeEntry 8 (index.toNat + j) ((entries.drop (j * 6)).take 6) = .ok (.input e) →
        t.tables.input[index.toNat + j]? = some e) ∧
      (∀ i, (i < index.toNat ∨ index.toNat + count.toNat ≤ i) → t.tables.input[i]? = s.tables.input[i]?) ∧
      t.tables = { s.tables with input := t.tables.input } ∧
      Replied t (writeReply tag 8 .done index.toNat count) ∧
      ReplyQueued s t (decide (t.seq.state ≠ s.seq.state)) (writeReply tag 8 .done index.toNat count) ∧
      ((s.booth.latch = true ∨ ∀ i, i < 8 → t.emergencyActive i = true → s.emergencyActive i = true) →
        t = { s with tables := t.tables, mgmt := t.mgmt } ∧
        t.mgmt = (answered s (writeReply tag 8 .done index.toNat count)).mgmt) ∧
      ((s.booth.latch = false ∧ ∃ i, i < 8 ∧ t.emergencyActive i = true ∧ s.emergencyActive i = false) → LatchSet s t)

/-- A WRITE_TABLE request that is refused changes nothing (R172, R173): its result is that of the first check that fails, and its
reply carries the failing entry's index, or the first index when the failure is not tied to an entry. That a count of 0 is judged
before a read-only table is R173's order of steps (log 28). -/
def Obligations.WriteRefused : Prop :=
  ∀ (table : Nat) (tag : Byte) (index : BitVec 16) (count : Byte) (entries : Bytes) (c : Instr) (s : State),
    TakesRequest s → table < 256 → c ∈ writeRows table tag index count entries →
    (table = 0 ∨ table = 9 ∨ 12 < table →
      exec c s = .next (answered s (writeReply tag (BitVec.ofNat 8 table) .unknownTable index.toNat count))) ∧
    (1 ≤ table → table ≤ 12 → table ≠ 9 →
      (count = 0 → exec c s = .next (answered s (writeReply tag (BitVec.ofNat 8 table) .malformed index.toNat count))) ∧
      (count ≠ 0 → 11 ≤ table →
        exec c s = .next (answered s (writeReply tag (BitVec.ofNat 8 table) .refusedState index.toNat count))) ∧
      (count ≠ 0 → table ≤ 10 → entries.length ≠ count.toNat * entrySize table →
        exec c s = .next (answered s (writeReply tag (BitVec.ofNat 8 table) .malformed index.toNat count))) ∧
      ∀ j r, count ≠ 0 → table ≤ 10 → entries.length = count.toNat * entrySize table → j < count.toNat →
        (∀ i, i < j → ∃ e, s.judgeEntry table (index.toNat + i)
          ((entries.drop (i * entrySize table)).take (entrySize table)) = .ok e) →
        s.judgeEntry table (index.toNat + j) ((entries.drop (j * entrySize table)).take (entrySize table)) = .error r →
        exec c s = .next (answered s (writeReply tag (BitVec.ofNat 8 table) r (index.toNat + j) count)))

/-- How one entry of a write is judged, in the order of R173: its index, its contents, and whether it is in use, which each table's
rule says (R5, R29, R31, R81, R124, R139, R156). THE MODEL'S CHOICE: an entry of the armed playlist is in use against a write with
valid no as well (log 12). -/
def Obligations.EntryJudgementOrder : Prop :=
  ∀ (s : State) (table i : Nat) (b : Bytes),
    ((tableEntries table).getD 0 ≤ i → s.judgeEntry table i b = .error .outOfRange) ∧
    (table = 1 → i = 0 → bitAt b 0 7 = true → s.judgeEntry table i b = .error .outOfRange) ∧
    (i < (tableEntries table).getD 0 → ¬ (table = 1 ∧ i = 0 ∧ bitAt b 0 7 = true) →
      (∀ r, decodeEntry table b = .error r → s.judgeEntry table i b = .error r) ∧
      ∀ e, decodeEntry table b = .ok e →
        let used : Prop := match e with
          | .track e => s.seq.state.active = true ∧
              (((s.trackEntry i).valid = true ∧ (s.trackEntry i).slot ∈ s.seq.playlist) ∨
               (e.valid = true ∧ e.slot ∈ s.seq.playlist))
          | .composition _ => s.seq.state.active = true ∧ i ∈ s.seq.playlist
          | .licence _ => s.seq.state.running = true ∧ s.seq.cleared = true ∧ s.currentComposition.licence = some i
          | .routing _ => s.snd.activeMap * 24 ≤ i ∧ i ≤ s.snd.activeMap * 24 + 23
          | .lane _ => False
          | .cue _ => s.seq.state.active = true
          | .line e => s.booth.latch = true ∧ e.safety ≠ (s.tables.line.getD i LineSetting.off).safety
          | .input _ => False
          | .settings _ => s.seq.state.running = true
        (used → s.judgeEntry table i b = .error .refusedInUse) ∧ (¬ used → s.judgeEntry table i b = .ok e))

/-- The contents that pass R173's checks are those of R5, R31, R156, R81, R124, R139, R146 and R29: every field within its range; an
EMPTY cue has trigger 0 (R124). -/
def Obligations.DecodedEntriesInRange : Prop :=
  ∀ (table : Nat) (b : Bytes) (x : Entry), decodeEntry table b = .ok x →
    match x with
    | .track e => e = TrackEntry.invalid ∨
        (e.valid = true ∧ e.slot ≤ 7 ∧ e.quota ≤ 8192 ∧ (e.language ≠ none → e.kind = .subtitle) ∧
         match e.kind with
         | .soundMain => ∃ n, e.channels = some n ∧ 1 ≤ n ∧ n ≤ 16
         | .soundAux => ∃ n, e.channels = some n ∧ 1 ≤ n ∧ n ≤ 8
         | .picture => e.channels = none
         | .subtitle => e.channels = none)
    | .composition e => e = Composition.invalid ∨
        (e.valid = true ∧ e.rateCode ≤ 7 ∧ 1 ≤ e.duration ∧ e.duration ≤ 16777215 ∧ e.countFrame < e.duration ∧
         e.tolerance ≤ 65535 ∧ (∀ i, e.licence = some i → i ≤ 15) ∧
         (∀ first n, e.sheet = some (first, n) → first ≤ 511 ∧ 1 ≤ n ∧ first + n ≤ 512) ∧ e.map ≤ 7 ∧
         (∀ t, e.subtitle = some t → 1 ≤ t ∧ t ≤ 31) ∧ ∀ t, e.fader = some t → t ≤ 32768)
    | .licence e => e = Licence.invalid ∨
        (e.valid = true ∧ e.used ≤ 65535 ∧ (∀ n, e.allowed = some n → n ≤ 65534) ∧
         ∀ a z, e.windowStart = some a → e.windowEnd = some z → a < z)
    | .routing e => e.contributions.length ≤ 4 ∧ ∀ c ∈ e.contributions, c.channel ≤ 23 ∧ c.gain ≤ 65535
    | .lane e => e.trim ≤ 32768 ∧ e.delay ≤ 2047
    | .cue e => e.trigger ≤ 16777215 ∧
        match e.cue with
        | .empty => e.trigger = 0
        | .lineLevel line _ => line ≤ 15
        | .linePulse g line _ count pulse space =>
          g ≤ 3 ∧ line ≤ 15 ∧ count ≤ 255 ∧ 1 ≤ pulse ∧ pulse ≤ 65535 ∧ 1 ≤ space ∧ space ≤ 65535
        | .pulseStop g => g ≤ 3
        | .fader target rate => target ≤ 32768 ∧ 1 ≤ rate ∧ rate ≤ 65535
        | .route map => map ≤ 7
        | .subtitles track => ∀ t, track = some t → 1 ≤ t ∧ t ≤ 31
        | .callMacro first length => first ≤ 511 ∧ 1 ≤ length ∧ length ≤ 16 ∧ first + length ≤ 512
        | .mark tag => tag ≤ 65535
        | .holdShow => True
    | .line _ => True
    | .input e => e.debounce ≤ 255 ∧ ∀ first length, e.action = .runMacro first length →
        first ≤ 511 ∧ 1 ≤ length ∧ length ≤ 16 ∧ first + length ≤ 512
    | .settings e => 1 ≤ e.prerollDepth ∧ e.prerollDepth ≤ 32 ∧ 1 ≤ e.prerollTimeout ∧ e.prerollTimeout ≤ 255 ∧
        1 ≤ e.stallLimit ∧ e.stallLimit ≤ 255 ∧ 1 ≤ e.stallTimeout ∧ e.stallTimeout ≤ 255 ∧ 1 ≤ e.resumeRate ∧
        e.resumeRate ≤ 65535 ∧ 1 ≤ e.flowInterval ∧ e.flowInterval ≤ 255 ∧ e.idleRate ≤ 7

/-- READ_TABLE and READ_METERS (R172, R174, R101): the refusals, and otherwise a DONE reply with as many entries as were asked for,
reach the end of the table and fit in a reply. A read of table 11 restarts the meters it returns; nothing else changes. THE MODEL'S
CHOICE: the table, the first index and the count 0 of a refused read's reply (log 13). -/
def Obligations.ReadTableReturnsEntries : Prop :=
  ∀ (table : Nat) (tag : Byte) (index : BitVec 16) (count : Byte) (c : Instr) (s : State),
    TakesRequest s → table < 256 → c ∈ readRows table tag index count →
    (table = 0 ∨ table = 9 ∨ 12 < table → exec c s = .next (answered s
      ([0x02, tag, 0x04, BitVec.ofNat 8 table] ++ be 2 index.toNat ++ [0]))) ∧
    ∀ last, tableEntries table = some last →
      (count = 0 → exec c s = .next (answered s ([0x02, tag, 0x05, BitVec.ofNat 8 table] ++ be 2 index.toNat ++ [0]))) ∧
      (count ≠ 0 → last ≤ index.toNat → exec c s = .next (answered s
        ([0x02, tag, 0x03, BitVec.ofNat 8 table] ++ be 2 index.toNat ++ [0]))) ∧
      (count ≠ 0 → index.toNat < last →
        ∃ (n : Nat) (t : State), n = min count.toNat (min (last - index.toNat) (1017 / entrySize table)) ∧
          exec c s = .next (answered t ([0x02, tag, 0x00, BitVec.ofNat 8 table] ++ be 2 index.toNat ++ be 1 n ++
            (List.range' index.toNat n).flatMap (s.readEntry table))) ∧
          (table ≠ 11 → t = s) ∧
          (table = 11 → t = { s with snd := { s.snd with lanes := t.snd.lanes } } ∧
            ∀ j l, s.snd.lanes[j]? = some l → t.snd.lanes[j]? =
              some (if index.toNat ≤ j ∧ j < index.toNat + n then { l with peak := 0, clips := 0 } else l)))

/-! ## The request queue and the upstream lane -/

/-- The management input queue (R170, R182): a request that meets a full queue is dropped and sets MGMT_OVERRUN; one that finds no
free reply slot waits at the tail; one that finds an empty queue and a free slot is executed on arrival, and its one reply,
with its kind and its tag, is on its way. THE MODEL'S CHOICE: a request row is the arrival of its request at the queue (log 4), and
MALFORMED_REQUEST with a good payload is the request it spells (log 22). -/
def Obligations.RequestQueueOrder : Prop :=
  ∀ (c : Instr) (r : Request) (s : State), requestOf c = some r → s.inReset = false →
    (QueuesOk s → s.mgmt.requests.length = 4 → ∃ t, exec c s = .next t ∧
      t = { s with mgmt := { s.mgmt with flags := withFlag s.mgmt.flags .mgmtOverrun, eventSlot := t.mgmt.eventSlot } } ∧
      t.mgmt.eventSlot = (if flagSet s.mgmt.flags .mgmtOverrun = false ∧ flagSet s.mgmt.enables .mgmtOverrun = true then
        some (be 3 (t.mgmt.flags &&& t.mgmt.enables).toNat ++ be 2 s.cue.lastMark ++ [s.acct.lastBarred.code])
        else s.mgmt.eventSlot)) ∧
    (s.mgmt.requests.length < 4 → 7 ≤ s.mgmt.slots.length →
      exec c s = .next { s with mgmt := { s.mgmt with requests := s.mgmt.requests ++ [r] } }) ∧
    (TakesRequest s → ∃ (t : State) (result : Byte) (body : Bytes), exec c s = .next t ∧ t.mgmt.requests = [] ∧
      t.mgmt.reserved = false ∧ Replied t ([r.kindCode, r.tag, result] ++ body))

/-- TRANSMISSION_END (R183, R182, R170): the lane takes the oldest REPLY, else the EVENT, else the oldest FLOW, and becomes IDLE when
nothing waits; a slot that this frees lets the oldest waiting request be executed; a WARM_RESET so executed leaves the waiting
replies, its own behind them. THE MODEL'S CHOICE: TRANSMISSION_END on an IDLE lane has no effect (log 1). -/
def Obligations.TransmissionEndChoosesParcel : Prop :=
  ∀ s : State, s.inReset = false →
    (s.mgmt.lane = none → exec .transmissionEnd s = .next s) ∧
    (s.mgmt.lane ≠ none → s.mgmt.requests = [] →
      (∀ a r b, s.mgmt.slots = a ++ r :: b → (∀ p ∈ a, p.kind ≠ .reply) → r.kind = .reply →
        exec .transmissionEnd s = .next { s with mgmt := { s.mgmt with lane := some r, slots := a ++ b } }) ∧
      ((∀ p ∈ s.mgmt.slots, p.kind ≠ .reply) →
        (∀ e, s.mgmt.eventSlot = some e →
          exec .transmissionEnd s = .next { s with mgmt := { s.mgmt with lane := some ⟨.event, e⟩, eventSlot := none } }) ∧
        (s.mgmt.eventSlot = none →
          (∀ p rest, s.mgmt.slots = p :: rest →
            exec .transmissionEnd s = .next { s with mgmt := { s.mgmt with lane := some p, slots := rest } }) ∧
          (s.mgmt.slots = [] → exec .transmissionEnd s = .next { s with mgmt := { s.mgmt with lane := none } })))) ∧
    ∀ r rest, s.mgmt.lane ≠ none → s.mgmt.requests = r :: rest → s.mgmt.slots.length = 7 → s.mgmt.reserved = false →
      ((∀ p ∈ s.mgmt.slots, p.kind ≠ .reply) → s.mgmt.eventSlot ≠ none → ∃ t, exec .transmissionEnd s = .next t ∧
        t.mgmt.requests = r :: rest) ∧
      ((∃ p ∈ s.mgmt.slots, p.kind = .reply) ∨ s.mgmt.eventSlot = none →
        ((∀ tag, r ≠ .warmReset tag) → ∃ t, exec .transmissionEnd s = .next t ∧ t.mgmt.requests = rest ∧
          t.mgmt.slots.length = 7 ∧
          ∃ (result : Byte) (body : Bytes), (⟨.reply, [r.kindCode, r.tag, result] ++ body⟩ : UpParcel) ∈ t.mgmt.slots) ∧
        ∀ tag, r = .warmReset tag → rest = [] → ∃ t, exec .transmissionEnd s = .next t ∧ t.mgmt.requests = [] ∧
          t.seq.state = .idle ∧ t.mgmt.slots = (s.mgmt.slots.filter fun p => decide (p.kind = .reply)).tail ++
            [⟨.reply, [0x0A, tag, 0x00, 0x00, boolByte s.booth.latch, 0x00]⟩])

/-! ## The reel link and the unpacker -/

/-- The framing of the reel link port (R1): a start mark begins a parcel, and drops a partial one as malformed; an oversized parcel
is dropped as malformed and the port hunts; in HUNTING bytes and end marks are ignored. Nothing else changes. A parcel of more
bytes than R1 allows is dropped whole when it is given as one command (log 6). -/
def Obligations.ReceiveFramingEvents : Prop :=
  ∀ (bytes : Bytes) (s : State), s.inReset = false →
    (s.port.framing = .hunting →
      exec .startMark s = .next { s with port := { s.port with framing := .receiving } } ∧
      exec .oversizeParcel s = .next s ∧ exec (.parcelComplete bytes) s = .next s) ∧
    (s.port.framing = .receiving →
      exec .startMark s = .next { s with port := { s.port with malformed := min (s.port.malformed + 1) 65535 } } ∧
      exec .oversizeParcel s =
        .next { s with port := { s.port with framing := .hunting, malformed := min (s.port.malformed + 1) 65535 } } ∧
      (1036 < bytes.length → exec (.parcelComplete bytes) s =
        .next { s with port := { s.port with framing := .hunting, malformed := min (s.port.malformed + 1) 65535 } }))

/-- The integrity checks of R2 in their order, and the routing of R3: what is dropped and which counter rises; a FILL parcel is only
counted; a MGMT parcel of track 0 is counted and its request arrives at the input queue. -/
def Obligations.ParcelChecksAndRouting : Prop :=
  ∀ (b : Bytes) (s : State), s.inReset = false → s.port.framing = .receiving → b.length ≤ 1036 →
    let malformed : State := { s with port := { s.port with framing := .hunting, malformed := min (s.port.malformed + 1) 65535 } }
    (b.length < 10 → exec (.parcelComplete b) s = .next malformed) ∧
    (10 ≤ b.length → 1024 < field b 8 2 → exec (.parcelComplete b) s = .next malformed) ∧
    (10 ≤ b.length → field b 8 2 ≤ 1024 → b.length < 12 + field b 8 2 → exec (.parcelComplete b) s = .next malformed) ∧
    (10 ≤ b.length → field b 8 2 ≤ 1024 → 12 + field b 8 2 ≤ b.length →
      (field b (10 + field b 8 2) 2 ≠ (crc16 (b.take (10 + field b 8 2))).toNat → exec (.parcelComplete b) s =
        .next { s with port := { s.port with framing := .hunting, crcErrors := min (s.port.crcErrors + 1) 65535 } }) ∧
      (field b (10 + field b 8 2) 2 = (crc16 (b.take (10 + field b 8 2))).toNat →
        ((b.getD 0 0).toNat / 32 = 3 → exec (.parcelComplete b) s =
          .next { s with port := { s.port with framing := .hunting, fills := min (s.port.fills + 1) 65535 } }) ∧
        ((b.getD 0 0).toNat / 32 = 2 → (b.getD 0 0).toNat % 32 ≠ 0 → exec (.parcelComplete b) s = .next malformed) ∧
        ((b.getD 0 0).toNat / 32 = 2 → (b.getD 0 0).toNat % 32 = 0 → exec (.parcelComplete b) s =
          .next (({ hunting s with tracks := s.tracks.modify 0 fun k =>
            { k with counters := { k.counters with accepted := min (k.counters.accepted + 1) 65535 } } } : State).submit
              (parseRequest ((b.drop 10).take (field b 8 2))))) ∧
        ((b.getD 0 0).toNat / 32 = 1 → (b.getD 0 0).toNat % 32 = 0 → exec (.parcelComplete b) s = .next malformed) ∧
        ((b.getD 0 0).toNat / 32 ≠ 1 → (b.getD 0 0).toNat / 32 ≠ 2 → (b.getD 0 0).toNat / 32 ≠ 3 →
          exec (.parcelComplete b) s = .next malformed)))

/-- R10: an ESSENCE parcel whose track is not scheduled is dropped, 1 is added to the track's not-scheduled counter, and nothing else
changes, whether the entry is invalid, the slot stands elsewhere in the playlist, or the show is IDLE, ENDED or STOPPED. One whose
track is scheduled goes on to the sequence check of R11. -/
def Obligations.UnscheduledParcelDropped : Prop :=
  (∀ (bytes : Bytes) (p : Parcel) (s : State), Received s bytes p → QueuesOk s → p.kind = .essence → 1 ≤ p.track → p.track ≤ 31 →
    (s.scheduled p.track = false →
      exec (.parcelComplete bytes) s = .next { hunting s with tracks := s.tracks.modify p.track fun k =>
        { k with counters := { k.counters with notScheduled := min (k.counters.notScheduled + 1) 65535 } } }) ∧
    (s.scheduled p.track = true →
      exec (.parcelComplete bytes) s = .next (match checkSequence (s.track p.track).expected p.sequence with
        | .accepted => ((hunting s).acceptParcel p).arbitrate
        | .duplicate => ((hunting s).count p.track fun c => { c with duplicates := satInc c.duplicates }).arbitrate
        | .gap => ((((hunting s).count p.track fun c =>
            { c with gaps := satInc c.gaps }).damageCounted p.track).acceptParcel p).arbitrate))) ∧
  ∀ (s : State) (t : Nat),
    (s.trackEntry t).valid = false ∨ s.seq.state = .idle ∨ s.seq.state = .ended ∨ s.seq.state = .stopped ∨
      (s.seq.slotAt s.seq.position ≠ some (s.trackEntry t).slot ∧
        s.seq.slotAt (s.seq.position + 1) ≠ some (s.trackEntry t).slot) →
    s.scheduled t = false

/-- The sequence check on a scheduled track (R11): a duplicate is counted and nothing else changes; any other parcel is accepted, and
the expected sequence becomes its number plus 1, with a gap counted unless none was expected or the number was the expected one.
No parcel touches the run state of another track, or anything beyond its own track, the pool, the subtitle schedule, the projector
link and the flags OVERRUN, PICTURE_LOSS and SUB_DROP. What damages an intact unit (R12): a gap, a content check that fails (R13), and
a continuation of another frame or eye (R15), each counted with the damaged units; its cells return, a picture entry still in the
window is DAMAGED, and continuations are dropped until the last fragment. A first fragment ends what is in assembly, an intact unit by
damage, and then does what it does on a track with no unit in assembly (R14). DEDUCED (log 11): a last fragment that fails a content
check leaves its damaged unit in assembly. -/
def Obligations.SequenceCheckEffects : Prop :=
  (∀ (bytes : Bytes) (p : Parcel) (s : State), Received s bytes p → QueuesOk s → p.kind = .essence → 1 ≤ p.track → p.track ≤ 31 →
    s.tracks.length = 32 → s.scheduled p.track = true → p.sequence < 65536 →
    ∃ t, exec (.parcelComplete bytes) s = .next t ∧ (∀ k, k ≠ p.track → t.track k = s.track k) ∧
      t = { hunting s with tracks := t.tracks, freeCells := t.freeCells, sub := t.sub, link := t.link, mgmt := t.mgmt } ∧
      t.mgmt.enables = s.mgmt.enables ∧ t.mgmt.requests = s.mgmt.requests ∧ t.mgmt.flowCount = s.mgmt.flowCount ∧
      (∀ f, f ∉ [Flag.overrun, .pictureLoss, .subDrop] → flagSet t.mgmt.flags f = flagSet s.mgmt.flags f) ∧
      (∀ e, e < 65536 → (s.track p.track).expected = some e → p.sequence ≠ e → (p.sequence + 1) % 65536 = e →
        t = { hunting s with tracks := s.tracks.modify p.track fun k =>
          { k with counters := { k.counters with duplicates := min (k.counters.duplicates + 1) 65535 } } }) ∧
      ((s.track p.track).expected = none ∨ (s.track p.track).expected = some p.sequence →
        (t.track p.track).expected = some ((p.sequence + 1) % 65536) ∧
        (t.track p.track).counters.accepted = min ((s.track p.track).counters.accepted + 1) 65535 ∧
        (t.track p.track).counters.gaps = (s.track p.track).counters.gaps) ∧
      ∀ e, (s.track p.track).expected = some e → p.sequence ≠ e → (p.sequence + 1) % 65536 ≠ e →
        (t.track p.track).expected = some ((p.sequence + 1) % 65536) ∧
        (t.track p.track).counters.accepted = min ((s.track p.track).counters.accepted + 1) 65535 ∧
        (t.track p.track).counters.gaps = min ((s.track p.track).counters.gaps + 1) 65535 ∧
        (t.track p.track).counters.damagedUnits = (if s.intact p.track then min ((s.track p.track).counters.damagedUnits + 1) 65535
          else (s.track p.track).counters.damagedUnits)) ∧
  (∀ (bytes : Bytes) (p : Parcel) (gap : Bool) (k : Track) (s : State), Sequenced s bytes p gap → QueuesOk s →
    k = sequencedGap (s.track p.track) p gap → s.contentOk p = false →
    exec (.parcelComplete bytes) s = .next (match s.assembly p.track with
      | some a =>
        if a.damaged then putTrack (hunting s) p.track
          { k with counters := { k.counters with malformed := more k.counters.malformed } } s.freeCells
        else putTrack (hunting s) p.track
          { damagedTrack k a with
            counters := { k.counters with malformed := more k.counters.malformed
                                          damagedUnits := more k.counters.damagedUnits } } (s.freeCells + a.cells)
      | none => putTrack (hunting s) p.track
          { k with counters := { k.counters with malformed := more k.counters.malformed } } s.freeCells)) ∧
  (∀ (bytes : Bytes) (p : Parcel) (gap : Bool) (k : Track) (s : State), Sequenced s bytes p gap → QueuesOk s →
    k = sequencedGap (s.track p.track) p gap → s.contentOk p = true → p.first = false →
    ((s.trackEntry p.track).kind = .picture →
      ∃ w, (s.track p.track).window = some w ∧ w.base ≤ p.frame ∧ p.frame < w.base + 64) →
    (s.assembly p.track = none → exec (.parcelComplete bytes) s = .next (putTrack (hunting s) p.track
      { k with counters := { k.counters with dropped := more k.counters.dropped } } s.freeCells)) ∧
    ∀ a, s.assembly p.track = some a →
      (a.damaged = true → exec (.parcelComplete bytes) s = .next (putTrack (hunting s) p.track
        { k with assembly := if p.last then none else some a
                 counters := { k.counters with dropped := more k.counters.dropped } } s.freeCells)) ∧
      (a.damaged = false →
        gap = true ∨ a.frame ≠ p.frame ∨ ((s.trackEntry p.track).kind = .picture ∧ a.eye ≠ p.eye) →
        exec (.parcelComplete bytes) s = .next (putTrack (hunting s) p.track
          { damagedTrack k a with
            assembly := if p.last then none else (damagedTrack k a).assembly
            counters := { k.counters with dropped := more k.counters.dropped
                                          damagedUnits := more k.counters.damagedUnits } } (s.freeCells + a.cells)))) ∧
  ∀ (bytes : Bytes) (p : Parcel) (gap : Bool) (a : Assembly) (k : Track) (s : State), Sequenced s bytes p gap →
    k = s.track p.track → s.contentOk p = true → p.first = true → s.assembly p.track = some a →
    (a.damaged = true → exec (.parcelComplete bytes) s =
      exec (.parcelComplete bytes) (putTrack s p.track { k with assembly := none } s.freeCells)) ∧
    (a.damaged = false → exec (.parcelComplete bytes) s = exec (.parcelComplete bytes) (putTrack s p.track
      { damagedTrack k a with
        assembly := none
        counters := { k.counters with damagedUnits := more k.counters.damagedUnits } } (s.freeCells + a.cells)))

/-- A sound unit takes its first fragment, or a continuation that matches it (R14, R15, R17, R19): with a grant its bytes and cells
grow and the cells move from the free count to the track; without one the unit is damaged, its cells return, the overrun is counted
and OVERRUN set. On the last fragment an intact unit of the right size and a new frame index joins the queue; one of another size
is malformed, one of an old frame index is out of order, and the cells of both return (R21). DEDUCED (log 11): after an overrun on a
last fragment the unit leaves assembly, and no dropped fragment is counted. -/
def Obligations.SoundParcelGrant : Prop :=
  ∀ (bytes : Bytes) (p : Parcel) (a : Assembly) (need size : Nat) (k : Track) (granted : Prop) (s : State),
    Accepted s bytes p → QueuesOk s → (s.trackEntry p.track).kind.isSound = true →
    (p.first = false ∧ s.assembly p.track = some a ∧ a.damaged = false ∧ a.frame = p.frame) ∨
      (p.first = true ∧ s.assembly p.track = none ∧ a = ⟨p.frame, p.eye, [], 0, false⟩) →
    need = (a.bytes.length + p.payload.length + 255) / 256 - a.cells →
    size = samplesPerFrame (s.composition (s.trackEntry p.track).slot).rateCode * (s.trackEntry p.track).channels.getD 0 * 3 →
    k = sequenced (s.track p.track) p →
    (granted ↔ need ≤ s.freeCells ∧ (s.track p.track).cellsHeld + need ≤ (s.trackEntry p.track).quota) →
    ∃ t, exec (.parcelComplete bytes) s = .next t ∧
      (granted → t = { hunting s with freeCells := t.freeCells, tracks := t.tracks }) ∧
      (granted → p.last = false → t.freeCells = s.freeCells - need ∧
        t.track p.track = { k with
          assembly := some { a with bytes := a.bytes ++ p.payload, cells := a.cells + need }
          cellsHeld := k.cellsHeld + need }) ∧
      (granted → p.last = true → (a.bytes ++ p.payload).length = size → (∀ m, k.lastFrame = some m → m < a.frame) →
        t.freeCells = s.freeCells - need ∧
        t.track p.track = { k with
          assembly := none
          queue := k.queue ++ [⟨a.frame, a.bytes ++ p.payload, a.cells + need⟩]
          lastFrame := some a.frame
          cellsHeld := k.cellsHeld + need
          counters := { k.counters with delivered := more k.counters.delivered } }) ∧
      (granted → p.last = true → (a.bytes ++ p.payload).length ≠ size → t.freeCells = s.freeCells + a.cells ∧
        t.track p.track = { k with
          assembly := none
          cellsHeld := k.cellsHeld - a.cells
          counters := { k.counters with malformed := more k.counters.malformed } }) ∧
      (granted → p.last = true → (a.bytes ++ p.payload).length = size → (∃ m, k.lastFrame = some m ∧ a.frame ≤ m) →
        t.freeCells = s.freeCells + a.cells ∧
        t.track p.track = { k with
          assembly := none
          cellsHeld := k.cellsHeld - a.cells
          counters := { k.counters with outOfOrder := more k.counters.outOfOrder } }) ∧
      (¬ granted → t.freeCells = s.freeCells + a.cells ∧ flagSet t.mgmt.flags .overrun = true ∧ t.link = s.link ∧ t.sub = s.sub ∧
        t.track p.track = { damagedTrack k a with
          assembly := if p.last then none else (damagedTrack k a).assembly
          counters := { k.counters with overruns := more k.counters.overruns } })

/-- Picture cut-through (R23, R24): a first fragment outside the window is counted late or early, sets PICTURE_LOSS and is not
forwarded; one for a COMPLETE entry is counted out of order; any other is forwarded and its entry becomes IN_PROGRESS, or COMPLETE
when it is also the last; a matching continuation is forwarded, and the last one completes the entry. A late or early
continuation is counted so and as a dropped fragment, sets PICTURE_LOSS, and damages an intact unit without counting it as damaged. -/
def Obligations.PictureParcelForwarding : Prop :=
  ∀ (bytes : Bytes) (p : Parcel) (w : Window) (s : State), Accepted s bytes p → QueuesOk s →
    (s.trackEntry p.track).kind = .picture → (s.track p.track).window = some w →
    ∃ t, exec (.parcelComplete bytes) s = .next t ∧
      (p.first = true → s.intact p.track = false →
        (p.frame < w.base → t.link = s.link ∧ flagSet t.mgmt.flags .pictureLoss = true ∧
          t.track p.track = { sequenced (s.track p.track) p with
            assembly := none
            counters := { (sequenced (s.track p.track) p).counters with
              pictureLate := min ((s.track p.track).counters.pictureLate + 1) 65535 } }) ∧
        (w.base + 64 ≤ p.frame → t.link = s.link ∧ flagSet t.mgmt.flags .pictureLoss = true ∧
          t.track p.track = { sequenced (s.track p.track) p with
            assembly := none
            counters := { (sequenced (s.track p.track) p).counters with
              pictureEarly := min ((s.track p.track).counters.pictureEarly + 1) 65535 } }) ∧
        (w.base ≤ p.frame → p.frame < w.base + 64 → w.entry p.eye p.frame = .complete → t.link = s.link ∧
          t.track p.track = { sequenced (s.track p.track) p with
            assembly := none
            counters := { (sequenced (s.track p.track) p).counters with
              outOfOrder := min ((s.track p.track).counters.outOfOrder + 1) 65535 } }) ∧
        (w.base ≤ p.frame → p.frame < w.base + 64 → w.entry p.eye p.frame ≠ .complete →
          t.link = s.link ++ [.picture p.track p.first p.last p.eye p.frame p.payload] ∧ t.mgmt = s.mgmt ∧
          (p.last = false → t.track p.track = { sequenced (s.track p.track) p with
            assembly := some ⟨p.frame, p.eye, [], 0, false⟩
            window := some (w.set p.eye p.frame .inProgress) }) ∧
          (p.last = true → t.track p.track = { sequenced (s.track p.track) p with
            assembly := none
            window := some (w.set p.eye p.frame .complete)
            counters := { (sequenced (s.track p.track) p).counters with
              delivered := min ((s.track p.track).counters.delivered + 1) 65535 } }))) ∧
      (∀ a, p.first = false → s.assembly p.track = some a → a.damaged = false → a.frame = p.frame → a.eye = p.eye →
        w.base ≤ p.frame → p.frame < w.base + 64 →
        t.link = s.link ++ [.picture p.track p.first p.last p.eye p.frame p.payload] ∧ t.mgmt = s.mgmt ∧
        (p.last = false → t.track p.track = sequenced (s.track p.track) p) ∧
        (p.last = true → t.track p.track = { sequenced (s.track p.track) p with
          assembly := none
          window := some (w.set p.eye p.frame .complete)
          counters := { (sequenced (s.track p.track) p).counters with
            delivered := min ((s.track p.track).counters.delivered + 1) 65535 } })) ∧
      ∀ k k' : Track, p.first = false → p.frame < w.base ∨ w.base + 64 ≤ p.frame → k = sequenced (s.track p.track) p →
        k' = { k with counters := { k.counters with
          pictureLate := if p.frame < w.base then more k.counters.pictureLate else k.counters.pictureLate
          pictureEarly := if p.frame < w.base then k.counters.pictureEarly else more k.counters.pictureEarly
          dropped := more k.counters.dropped } } →
        t.link = s.link ∧ flagSet t.mgmt.flags .pictureLoss = true ∧
        (s.assembly p.track = none → t.freeCells = s.freeCells ∧ t.track p.track = k') ∧
        ∀ a, s.assembly p.track = some a →
          (a.damaged = true → t.freeCells = s.freeCells ∧
            t.track p.track = { k' with assembly := if p.last then none else some a }) ∧
          (a.damaged = false → t.freeCells = s.freeCells + a.cells ∧
            t.track p.track = { damagedTrack k' a with assembly := if p.last then none else (damagedTrack k' a).assembly })

/-- The fragments of a subtitle item (R18, R22, R104, R105, R102): the first is given 2 cells, and without a grant the unit is damaged,
the overrun counted and OVERRUN set (R19); a later one that matches takes no cells; more than 512 bytes are malformed and damage
the unit. On the last fragment a unit that is no well-formed item is malformed and one of an old frame index out of order, and their
cells return; an item already over is stale, one that meets a full schedule is refused with SUB_DROP, both give their cells back; any
other joins the schedule after every item whose in-frame is at or below its own and before every later one. DEDUCED (log 11): a unit
that is damaged by its last fragment leaves assembly, and no dropped fragment is counted. -/
def Obligations.SubtitleParcelAdmission : Prop :=
  ∀ (bytes : Bytes) (p : Parcel) (a : Assembly) (need : Nat) (b : Bytes) (i : Item) (f : Nat) (k : Track) (s : State),
    Accepted s bytes p → QueuesOk s → (s.trackEntry p.track).kind = .subtitle →
    (p.first = true ∧ s.assembly p.track = none ∧ a = ⟨p.frame, p.eye, [], 2, false⟩ ∧ need = 2) ∨
      (p.first = false ∧ s.assembly p.track = some a ∧ a.damaged = false ∧ a.frame = p.frame ∧ a.cells = 2 ∧ need = 0) →
    b = a.bytes ++ p.payload → i = readItem p.track b → k = sequenced (s.track p.track) p →
    f = (if s.seq.slotAt s.seq.position = some (s.trackEntry p.track).slot then s.seq.frame else 0) →
    ∃ t, exec (.parcelComplete bytes) s = .next t ∧ t.link = s.link ∧
      (need = 2 → s.freeCells < 2 ∨ (s.trackEntry p.track).quota < k.cellsHeld + 2 →
        t.freeCells = s.freeCells ∧ t.sub = s.sub ∧ flagSet t.mgmt.flags .overrun = true ∧
        t.track p.track = { damagedTrack k { a with cells := 0 } with
          assembly := if p.last then none else (damagedTrack k a).assembly
          counters := { k.counters with overruns := more k.counters.overruns } }) ∧
      (need = 0 ∨ (2 ≤ s.freeCells ∧ k.cellsHeld + 2 ≤ (s.trackEntry p.track).quota) →
        (512 < b.length → t.freeCells = s.freeCells - need + 2 ∧ t.sub = s.sub ∧ t.mgmt = s.mgmt ∧
          t.track p.track = { damagedTrack { k with cellsHeld := k.cellsHeld + need } a with
            assembly := if p.last then none else (damagedTrack k a).assembly
            counters := { k.counters with malformed := more k.counters.malformed } }) ∧
        (b.length ≤ 512 → p.last = false → t.freeCells = s.freeCells - need ∧ t.sub = s.sub ∧ t.mgmt = s.mgmt ∧
          t.track p.track = { k with assembly := some { a with bytes := b }, cellsHeld := k.cellsHeld + need }) ∧
        (b.length ≤ 512 → p.last = true → itemWellFormed b = false →
          t.freeCells = s.freeCells - need + 2 ∧ t.sub = s.sub ∧ t.mgmt = s.mgmt ∧
          t.track p.track = { k with
            assembly := none
            cellsHeld := k.cellsHeld + need - 2
            counters := { k.counters with malformed := more k.counters.malformed } }) ∧
        (p.last = true → itemWellFormed b = true → (∃ m, k.lastFrame = some m ∧ p.frame ≤ m) →
          t.freeCells = s.freeCells - need + 2 ∧ t.sub = s.sub ∧ t.mgmt = s.mgmt ∧
          t.track p.track = { k with
            assembly := none
            cellsHeld := k.cellsHeld + need - 2
            counters := { k.counters with outOfOrder := more k.counters.outOfOrder } }) ∧
        (p.last = true → itemWellFormed b = true → (∀ m, k.lastFrame = some m → m < p.frame) →
          t.track p.track = { k with
            assembly := none
            lastFrame := some p.frame
            cellsHeld := (t.track p.track).cellsHeld
            counters := { k.counters with delivered := more k.counters.delivered } } ∧
          (i.outFrame ≤ f → t.sub = { s.sub with stale := more s.sub.stale } ∧ t.freeCells = s.freeCells - need + 2 ∧
            (t.track p.track).cellsHeld = k.cellsHeld + need - 2) ∧
          (f < i.outFrame → 96 ≤ s.sub.schedule.length →
            t.sub = { s.sub with refused := more s.sub.refused } ∧ t.freeCells = s.freeCells - need + 2 ∧
            (t.track p.track).cellsHeld = k.cellsHeld + need - 2 ∧ flagSet t.mgmt.flags .subDrop = true) ∧
          (f < i.outFrame → s.sub.schedule.length < 96 → s.sub.schedule.Pairwise (fun x y => x.inFrame ≤ y.inFrame) →
            t.sub = { s.sub with
              schedule := s.sub.schedule.filter (fun x => decide (x.inFrame ≤ i.inFrame)) ++ [i] ++
                s.sub.schedule.filter (fun x => decide (i.inFrame < x.inFrame))
              late := if i.inFrame < f then more s.sub.late else s.sub.late } ∧
            t.freeCells = s.freeCells - need ∧ (t.track p.track).cellsHeld = k.cellsHeld + need)))

/-! ## Frame boundaries -/

/-- The readiness predicate (R37) of a composition whose picture track has its arrival window: every entry of the next r frames is
COMPLETE, on both eyes of a STEREO composition, and each sound track holds at least r units from frame f on; r is the smaller of
the preroll depth and the frames left. -/
def Obligations.ReadinessMeaning : Prop :=
  ∀ (s : State) (k r : Nat) (w : Window), s.currentTrack .picture = some k → (s.track k).window = some w →
    r = min s.tables.settings.prerollDepth (s.currentComposition.duration - s.seq.frame) →
    (s.ready = true ↔
      (∀ g, s.seq.frame ≤ g → g < s.seq.frame + r →
        w.main.getD (g - w.base) .absent = .complete ∧
        (w.eyes = .stereo → w.right.getD (g - w.base) .absent = .complete)) ∧
      ∀ n, (s.currentTrack .soundMain = some n ∨ s.currentTrack .soundAux = some n) →
        r ≤ ((s.track n).queue.countP fun u => decide (s.seq.frame ≤ u.frame)))

/-- FRAME_BOUNDARY at which no frame is presented and the show state stays (R26, R39, R46, R66, R69, R72, R77, R92, R117, R181): in
IDLE, ARMED, ENDED, STOPPED and HOLDING, and in PREROLL and STALLED without readiness. Every lane gets a silent block of P samples,
the fader steps, the countdown is P, HOLDING and STALLED send one HOLD, PREROLL and STALLED count toward a FLOW report, which is queued
when the count reaches the interval. A PREROLL boundary that finds its composition ready and its licence check bars it (R39): the BARRED
record joins the log and the position advances; past the end, or with a composition that is not ready, no frame is presented; a
composition that is ready then is presented as at a PREROLL boundary that finds it. THE MODEL'S CHOICE: an IDLE lane takes a parcel once,
when the boundary is complete (log 9). -/
def Obligations.RestingBoundaryIsSilent : Prop :=
  (∀ s u : State, s.inReset = false → QueuesOk s → s.seq.state ≠ .playing →
    ((s.seq.state = .preroll ∨ s.seq.state = .stalled) → s.ready = false) →
    u = { s with
      clk := { s.clk with countdown := s.clk.period }
      snd := { s.snd with
        fader := { s.snd.fader with value := faderStep s.snd.fader.value s.snd.fader.target s.snd.fader.rate }
        lanes := s.snd.lanes.mapIdx fun j l =>
          { l with block := List.replicate s.clk.period 0, delay := (s.tables.lane.getD j ⟨0, 0⟩).delay } }
      cue := { s.cue with stack := [], pendingHold := false }
      link := if s.seq.state = .holding ∨ s.seq.state = .stalled then s.link ++ [.hold] else s.link } →
    (s.seq.state ≠ .preroll → s.seq.state ≠ .stalled → exec .frameBoundary s = .next u) ∧
    ((s.seq.state = .preroll ∨ s.seq.state = .stalled) →
      (s.mgmt.flowCount + 1 < s.tables.settings.flowInterval →
        exec .frameBoundary s = .next { u with mgmt := { s.mgmt with flowCount := s.mgmt.flowCount + 1 } }) ∧
      (s.tables.settings.flowInterval ≤ s.mgmt.flowCount + 1 → exec .frameBoundary s = exec .flowInterval u))) ∧
  ∀ (s : State) (reason : BarReason), s.inReset = false → s.seq.state = .preroll → s.ready = true → s.seq.cleared = false →
    s.licenceCheck s.currentComposition = some reason → s.acct.log.length ≤ 64 → s.acct.drops ≤ 65535 → PlaylistOk s →
    s.tracks.length = 32 →
    (clearedAhead s = 0 ∨ s.advancePosition.ready = false → ∃ t, exec .frameBoundary s = .next t ∧
      AdvancedAtBoundary s (barredFirst s reason) t) ∧
    (clearedAhead s ≠ 0 → s.advancePosition.ready = true → 1 ≤ (compositionAt s (clearedAhead s)).duration →
      ∃ v, v = (s.writeBarred reason).advancePosition ∧
        exec .frameBoundary s = exec .frameBoundary { v with seq := { v.seq with stallTimer := none } })

/-- FRAME_BOUNDARY in PLAYING with 0 < f < D (R41, R57, R60 to R63, R65, R113, R163): one marker SHOW(f) or REPEAT(f) by the window
entries of f, then overlay records alone; f, the window, the repeat count and the open record move on; P and the position stay; the
show is STALLED exactly when the repeats pass the stall limit, and otherwise PLAYING, or HOLDING by a HOLD_SHOW cue. A boundary in
STALLED that finds the composition ready (R46) does the same, after the resume event: the block is mixed with the fader of before it.
The due entries of the sheet are taken after all this, in store order, macros in their place, and then a pending hold (R127, R133). -/
def Obligations.PresentedFrameEffects : Prop :=
  (∀ (s : State) (k f : Nat) (w : Window) (shown : Bool) (r : Record), s.inReset = false → s.tracks.length = 32 →
    s.seq.state = .playing → f = s.seq.frame → 0 < f → f < s.currentComposition.duration →
    s.currentTrack .picture = some k → (s.track k).window = some w →
    shown = decide (w.main.getD (f - w.base) .absent = .complete ∧
      (w.eyes = .stereo → w.right.getD (f - w.base) .absent = .complete)) →
    s.acct.openRecord? = some r →
    ∃ t, exec .frameBoundary s = .next t ∧
      (∃ rest : List LinkRecord, (∀ x ∈ rest, overlay x = true) ∧
        t.link = s.link ++ [if shown then .showFrame k f else .repeatFrame k f] ++ rest) ∧
      t.seq.frame = f + 1 ∧ t.seq.position = s.seq.position ∧ t.seq.playlist = s.seq.playlist ∧
      t.seq.cleared = s.seq.cleared ∧ t.clk = { s.clk with countdown := s.clk.period } ∧
      (t.track k).window = some { w with base := f + 1, main := w.main.tail ++ (if w.main = [] then [] else [.absent])
                                         right := w.right.tail ++ if w.right = [] then [] else [.absent] } ∧
      (shown = false → s.tables.settings.stallLimit < s.repeats + 1 →
        t.seq.state = .stalled ∧ t.seq.stallTimer = some 0 ∧ t.repeats = 0 ∧ flagSet t.mgmt.flags .stall = true) ∧
      ((shown = true ∨ s.repeats + 1 ≤ s.tables.settings.stallLimit) →
        (t.seq.state = .playing ∨ t.seq.state = .holding) ∧ t.repeats = if shown then 0 else s.repeats + 1) ∧
      ∃ q : Record, t.acct.openRecord? = some q ∧ t.acct.log.tail = s.acct.log.tail ∧ q.presented = r.presented + 1 ∧
        q.repeated = (if shown then r.repeated else r.repeated + 1) ∧ q.number = r.number ∧ q.id = r.id ∧
        q.position = r.position ∧ q.licence = r.licence ∧ q.startTime = r.startTime ∧
        t.acct = { s.acct with log := t.acct.log } ∧
      t.port = s.port ∧ t.booth.inputs = s.booth.inputs ∧ t.booth.latch = s.booth.latch ∧
      t.tables = { s.tables with licence := t.tables.licence } ∧
      (f ≠ s.currentComposition.countFrame → t.tables = s.tables) ∧
      t.mgmt.enables = s.mgmt.enables ∧ t.mgmt.requests = s.mgmt.requests ∧
      (∀ x ∈ [Flag.compositionStart, .compositionEnd, .barred, .emergency, .overrun, .pictureLoss, .subDrop, .inputRefused,
        .mgmtOverrun, .logWrap], flagSet t.mgmt.flags x = flagSet s.mgmt.flags x) ∧
      (∀ c, s.cue.cursor = some c → c.next ≤ c.stop → c.stop ≤ c.next + 512 → ∃ n, t.cue.cursor = some ⟨n, c.stop⟩ ∧ c.next ≤ n ∧
        (∀ i, c.next ≤ i → i < n → i < c.stop ∧ (s.cueEntry i).trigger ≤ f) ∧ (n < c.stop → f < (s.cueEntry n).trigger)) ∧
      (s.cue.cursor = none → t.booth = s.booth ∧ t.cue = { s.cue with stack := [], pendingHold := false } ∧
        t.snd.activeMap = s.snd.activeMap ∧ t.sub.active = s.sub.active)) ∧
  (∀ (s p : State), s.inReset = false → s.seq.state = .stalled → s.ready = true → 0 < s.seq.frame →
    s.seq.frame < s.currentComposition.duration → NoCueDue s s.seq.frame →
    p = { s with seq := { s.seq with state := .playing, stallTimer := none } } →
    ∃ t u, exec .frameBoundary s = .next t ∧ exec .frameBoundary p = .next u ∧
      t = { u with snd := { u.snd with fader := t.snd.fader }, mgmt := t.mgmt } ∧
      (∀ x, x ≠ .showState → flagSet t.mgmt.flags x = flagSet u.mgmt.flags x) ∧
      t.snd.fader = if s.snd.fader.muted then u.snd.fader
        else { s.snd.fader with value := 0, rate := s.tables.settings.resumeRate
                                target := if u.seq.state = .stalled then 0 else s.snd.fader.saved }) ∧
  ∀ (s : State) (c : Cursor), s.inReset = false → (s.seq.state = .playing ∨ (s.seq.state = .stalled ∧ s.ready = true)) →
    0 < s.seq.frame → s.seq.frame < s.currentComposition.duration → s.cue.cursor = some c → c.stop ≤ c.next + 512 →
    ∃ t, exec .frameBoundary s = .next t ∧ SheetTaken s t c s.seq.frame

/-- The sound block of a presented frame (R72, R75, R76, R79, R84 to R88): at a boundary in PLAYING with 0 < f < D, each lane's block
is P samples of the clamped chain over the units of f, mixed with the settings that stood before the boundary; clamped samples
are counted and set CLIP; a sound track without a unit for f sets SOUND_GAP; the units up to f leave their queues with
their cells. -/
def Obligations.SoundBlockMixed : Prop :=
  ∀ (s : State) (f : Nat), s.inReset = false → s.tracks.length = 32 → s.seq.state = .playing → f = s.seq.frame → 0 < f →
    f < s.currentComposition.duration → UnitFits s (s.currentTrack .soundMain) 16 f → UnitFits s (s.currentTrack .soundAux) 8 f →
    ∃ t, exec .frameBoundary s = .next t ∧ t.snd.lanes.length = s.snd.lanes.length ∧
      (∀ (j : Nat) (l : Lane), s.snd.lanes[j]? = some l → l.clips ≤ 65535 → t.snd.lanes[j]? = some
        { l with
          block := (List.range s.clk.period).map fun i => max (-8388608) (min 8388607 (laneValue s f j i))
          delay := (s.tables.lane.getD j LaneSetting.off).delay
          clips := min 65535 (l.clips + (List.range s.clk.period).countP fun i =>
            decide (laneValue s f j i < -8388608 ∨ 8388607 < laneValue s f j i)) }) ∧
      (flagSet t.mgmt.flags .clip = true ↔ flagSet s.mgmt.flags .clip = true ∨
        ∃ j i, j < s.snd.lanes.length ∧ i < s.clk.period ∧ (laneValue s f j i < -8388608 ∨ 8388607 < laneValue s f j i)) ∧
      (flagSet t.mgmt.flags .soundGap = true ↔ flagSet s.mgmt.flags .soundGap = true ∨
        ∃ k kind, (kind = .soundMain ∨ kind = .soundAux) ∧ s.currentTrack kind = some k ∧ unitAt s (some k) f = none) ∧
      ∀ k kind, kind = .soundMain ∨ kind = .soundAux → s.currentTrack kind = some k →
        let gone := (s.track k).queue.takeWhile (fun u => decide (u.frame < f)) ++ (unitAt s (some k) f).toList
        (t.track k).queue = (s.track k).queue.drop gone.length ∧
        ((∀ i, i ∈ s.sub.schedule ∨ some i ∈ s.sub.regions.map (Option.map Shown.item) → i.track ≠ k) →
          (t.track k).cellsHeld = (s.track k).cellsHeld - (gone.map SoundUnit.cells).sum)

/-- The subtitle engine's work at a boundary in PLAYING with 0 < f < D at which no cue is due (R109 to R113): each region then holds
the last item admitted to it, or the item it held if that is not over, with its opacity at f; the items taken and the items of
the composition that are over leave the schedule; the overlay records follow the marker; preempted items are counted. -/
def Obligations.SubtitleWork : Prop :=
  ∀ (s : State) (f : Nat), s.inReset = false → CellsOk s → s.seq.state = .playing → f = s.seq.frame → 0 < f →
    f < s.currentComposition.duration → s.sub.preempted ≤ 65535 →
    (∀ c, s.cue.cursor = some c → c.next < c.stop → f < (s.cueEntry c.next).trigger) →
    ∃ (t : State) (marker : LinkRecord), exec .frameBoundary s = .next t ∧ overlay marker = false ∧
      t.link = s.link ++ [marker] ++ overlayAt s f ∧
      (∀ r, r ≤ 3 → t.region r = (match (dueAt s f r).getLast? with
        | some i => some ⟨i, i.opacity f⟩
        | none => (keptAt s f r).map fun x => { x with opacity := x.item.opacity f })) ∧
      t.sub = { s.sub with
        regions := t.sub.regions
        schedule := s.sub.schedule.filter fun i => !decide (s.seq.currentSlot = some (s.trackEntry i.track).slot ∧
          (i.outFrame ≤ f ∨ (s.sub.active = some i.track ∧ i.inFrame ≤ f)))
        preempted := min 65535 (s.sub.preempted + (regionNumbers.map fun r =>
          (dueAt s f r).length + (keptAt s f r).toList.length - 1).sum) }

/-- The showing count (R163, R164): at the count frame an open record that no repeat past the tolerance has impaired is counted with
its licence's used count and COUNTED, and an impaired one is not; before and after it the counted mark and the used counts stay. -/
def Obligations.ShowingCountJudged : Prop :=
  ∀ (s : State) (f : Nat) (shown : Bool) (r : Record) (c : Composition), s.acct.openRecord? = some r →
    c = s.currentComposition →
    ∃ (t : State) (q : Record), t = s.accountVerdict f shown ∧ t.acct.openRecord? = some q ∧
      t.acct.log.tail = s.acct.log.tail ∧
      (q.impaired = true ↔ r.impaired = true ∨
        (shown = false ∧ c.tolerance < r.repeated + 1 ∧ f ≤ c.countFrame ∧ r.counted = false)) ∧
      (f = c.countFrame → q.impaired = false →
        q.counted = true ∧ q.countTime = s.clk.booth ∧ flagSet t.mgmt.flags .counted = true ∧
        ∀ i l, s.tables.licence[i]? = some l → t.tables.licence[i]? =
          some (if r.licence = some i then { l with used := l.used + 1 } else l)) ∧
      ((f ≠ c.countFrame ∨ q.impaired = true) →
        q.counted = r.counted ∧ q.countTime = r.countTime ∧ t.tables = s.tables ∧ t.mgmt = s.mgmt)

/-- The start of a show's composition (R39, R42, R126, R162): at a boundary in PREROLL that finds frame 0 ready and the licence
cleared or passing, frame 0 is shown; P is the composition's S, COMPOSITION_START and SHOW_STATE are set, the composition's map,
start fader target and subtitle track are handed on, and an OPEN record joins the log. These clauses are for a composition that has no
cue with trigger 0; the trigger-0 entries of a sheet are taken after them, at the same boundary (R127). -/
def Obligations.CompositionStartEffects : Prop :=
  (∀ (s : State) (k : Nat) (w : Window) (c : Composition), s.inReset = false → s.seq.state = .preroll → s.seq.frame = 0 →
    c = s.currentComposition → 1 ≤ s.tables.settings.prerollDepth → 1 ≤ c.duration → s.ready = true →
    (s.seq.cleared = true ∨ s.licenceCheck c = none) → s.currentTrack .picture = some k → (s.track k).window = some w →
    (∀ first n, c.sheet = some (first, n) → 0 < (s.cueEntry first).trigger) →
    ∃ t, exec .frameBoundary s = .next t ∧
      t.seq = { s.seq with state := .playing, frame := 1, cleared := true, prerollTimer := none } ∧
      t.clk = { s.clk with period := samplesPerFrame c.rateCode, countdown := samplesPerFrame c.rateCode } ∧
      t.repeats = 0 ∧ t.snd.activeMap = c.map ∧
      t.snd.fader = { s.snd.fader with
        value := faderStep s.snd.fader.value s.snd.fader.target s.snd.fader.rate, target := c.fader.getD s.snd.fader.target } ∧
      t.sub.active = c.subtitle ∧ t.cue.cursor = c.sheet.map (fun x => ⟨x.1, x.1 + x.2⟩) ∧
      flagSet t.mgmt.flags .compositionStart = true ∧ flagSet t.mgmt.flags .showState = true ∧ t.mgmt.flowCount = 0 ∧
      (∀ x ∉ [Flag.compositionStart, .showState, .counted, .logWrap, .soundGap, .clip],
        flagSet t.mgmt.flags x = flagSet s.mgmt.flags x) ∧
      t.mgmt.enables = s.mgmt.enables ∧ t.mgmt.requests = s.mgmt.requests ∧ t.port = s.port ∧ t.booth = s.booth ∧
      t.tables = { s.tables with licence := t.tables.licence } ∧ (c.countFrame ≠ 0 → t.tables = s.tables) ∧
      t.acct.lastBarred = s.acct.lastBarred ∧ t.sub.schedule = s.sub.schedule ∧
      t.link = s.link ++ (if s.sub.active = c.subtitle then []
        else (regionNumbers.filter fun r => (s.region r).isSome).map LinkRecord.clearRegion) ++ [.showFrame k 0] ∧
      t.acct.nextNumber = nextNumber s.acct.nextNumber ∧
      ∃ q : Record, t.acct.openRecord? = some q ∧ t.acct.log = (q :: s.acct.log).take 64 ∧
        q.number = s.acct.nextNumber ∧ q.id = c.id ∧ q.position = s.seq.position ∧ q.licence = c.licence ∧
        q.startTime = s.clk.booth ∧ q.presented = 1 ∧ q.repeated = 0 ∧ q.impaired = false ∧
        q.counted = decide (c.countFrame = 0)) ∧
  ∀ (s : State) (c : Composition) (first n : Nat), s.inReset = false → s.seq.state = .preroll → s.seq.frame = 0 →
    c = s.currentComposition → 1 ≤ c.duration → s.ready = true → (s.seq.cleared = true ∨ s.licenceCheck c = none) →
    c.sheet = some (first, n) → n ≤ 512 → ∃ t, exec .frameBoundary s = .next t ∧ SheetTaken s t ⟨first, first + n⟩ 0

/-- The end boundary of the last position (R48, R49, R165, R67, R26): the open record closes as COUNTED, IMPAIRED or SHORT,
COMPOSITION_END is set, the show enters ENDED with one BLACK after the overlay records, P and the countdown are the idle S, and
every lane gets a silent block of that length. At any position, with no trigger-D entry due: the advance ends past the end, or in
PREROLL with a composition that is not ready; one that is ready has its frame 0 presented at this boundary, as at a PREROLL boundary
that finds it. A stall that ends here ends with the resume event (R46), and but for the fader does what the same boundary does in PLAYING. The
trigger-D entries are taken first, in store order (R128). THE MODEL'S CHOICE: an IDLE lane takes a parcel once, when the boundary is
complete (log 9). -/
def Obligations.EndBoundaryEndsShow : Prop :=
  (∀ (s : State) (r : Record), s.inReset = false →
    (s.seq.state = .playing ∨ (s.seq.state = .stalled ∧ s.ready = true)) → s.currentComposition.duration ≤ s.seq.frame →
    s.seq.playlist.length ≤ s.seq.position → s.acct.openRecord? = some r →
    ∃ t, exec .frameBoundary s = .next t ∧
      t.seq = { s.seq with state := .ended, position := 0, frame := 0, cleared := false, prerollTimer := none,
                           stallTimer := none } ∧
      t.acct = { s.acct with
        log := { r with outcome := if r.counted then .counted else if r.impaired then .impaired else .short } ::
          s.acct.log.tail } ∧
      (∃ records : List LinkRecord, (∀ x ∈ records, overlay x = true) ∧ t.link = s.link ++ records ++ [.black]) ∧
      t.clk = { s.clk with period := s.idlePeriod, countdown := s.idlePeriod } ∧ t.cue.cursor = none ∧ t.repeats = 0 ∧
      (∀ l ∈ t.snd.lanes, l.block = List.replicate s.idlePeriod 0) ∧
      flagSet t.mgmt.flags .compositionEnd = true ∧ flagSet t.mgmt.flags .showState = true ∧ t.mgmt.flowCount = 0 ∧
      (∀ x ∉ [Flag.compositionEnd, .showState, .cueMark, .cueNest], flagSet t.mgmt.flags x = flagSet s.mgmt.flags x) ∧
      t.mgmt.enables = s.mgmt.enables ∧ t.mgmt.requests = s.mgmt.requests ∧ t.port = s.port ∧ t.tables = s.tables ∧
      t.booth.inputs = s.booth.inputs ∧ t.booth.latch = s.booth.latch ∧ (∀ k, k ∉ leaving s → t.track k = s.track k ∨
        ∃ x ∈ s.sub.regions, ∃ y, x = some y ∧ y.item.track = k) ∧
      (s.cue.cursor = none → t.booth = s.booth ∧ t.snd.activeMap = s.snd.activeMap)) ∧
  (∀ s : State, s.inReset = false → (s.seq.state = .playing ∨ (s.seq.state = .stalled ∧ s.ready = true)) →
    s.currentComposition.duration ≤ s.seq.frame → NoCueDue s s.seq.frame → s.acct.log.length ≤ 64 → s.acct.drops ≤ 65535 →
    PlaylistOk s → s.tracks.length = 32 →
    (clearedAhead s = 0 ∨ s.advancePosition.ready = false → ∃ t, exec .frameBoundary s = .next t ∧
      AdvancedAtBoundary s s.closeRecord t) ∧
    (s.seq.state = .playing → clearedAhead s ≠ 0 → s.advancePosition.ready = true →
      1 ≤ (compositionAt s (clearedAhead s)).duration →
      ∃ v t u, v = (s.closeRecord.raise .compositionEnd).advancePosition ∧ exec .frameBoundary s = .next t ∧
        exec .frameBoundary { v with seq := { v.seq with state := .preroll, stallTimer := none } } = .next u ∧
        t = { u with mgmt := t.mgmt } ∧ (∀ x, x ≠ .showState → flagSet t.mgmt.flags x = flagSet u.mgmt.flags x) ∧
        t.mgmt.enables = s.mgmt.enables ∧ t.mgmt.requests = s.mgmt.requests)) ∧
  (∀ s p : State, s.inReset = false → s.seq.state = .stalled → s.ready = true → s.currentComposition.duration ≤ s.seq.frame →
    p = { s with seq := { s.seq with state := .playing, stallTimer := none } } →
    ∃ t u, exec .frameBoundary s = .next t ∧ exec .frameBoundary p = .next u ∧
      t = { u with snd := { u.snd with fader := t.snd.fader }, mgmt := t.mgmt } ∧
      (∀ x, x ≠ .showState → flagSet t.mgmt.flags x = flagSet u.mgmt.flags x) ∧
      t.mgmt.enables = s.mgmt.enables ∧ t.mgmt.requests = s.mgmt.requests) ∧
  ∀ (s : State) (c : Cursor), s.inReset = false → s.seq.state = .playing → s.currentComposition.duration ≤ s.seq.frame →
    s.cue.cursor = some c → c.stop ≤ c.next + 512 →
    ∃ v, v = ((takeDue s.stepFader.startExpansion c s.seq.frame).closeRecord.raise .compositionEnd).advancePosition ∧
      exec .frameBoundary s =
        .next (event (fun s => (v.afterAdvance s.mix).endExpansion.reloadCountdown.countFlow s.seq.state) s)

/-- A position advance (R49, R157, R158): it ends at the first later composition that is not barred, or past the end, with f 0 and the
licence cleared exactly in the first case; each composition passed over leaves its BARRED record; BARRED is set when there was one,
and LOG_WRAP when the log lost a record; no other flag changes. The tracks of the positions left are emptied with their items and
those of a new next position start empty (R7 to R9, R118). -/
def Obligations.AdvanceFindsCleared : Prop :=
  ∀ s : State, s.acct.log.length ≤ 64 → s.acct.drops ≤ 65535 →
    s.advancePosition.seq = { s.seq with position := clearedAhead s, frame := 0, cleared := decide (clearedAhead s ≠ 0) } ∧
    AdvanceRecorded s s.advancePosition ∧
    s.advancePosition.clk = s.clk ∧ s.advancePosition.tables = s.tables ∧ s.advancePosition.snd = s.snd ∧
    s.advancePosition.booth = s.booth ∧ s.advancePosition.repeats = 0 ∧
    s.advancePosition.cue = { s.cue with cursor := none } ∧
    (PlaylistOk s → s.tracks.length = 32 → TracksAdvance s s.advancePosition []) ∧
    ∀ f, flagSet s.advancePosition.mgmt.flags f = (flagSet s.mgmt.flags f ||
      match f with
      | .barred => !(barredAhead s).isEmpty
      | .logWrap => decide (64 < (barredAhead s).length + s.acct.log.length)
      | _ => false)

/-- The licence check (R157): its five tests in their order, the first that holds giving the reason; a composition without a licence
passes. -/
def Obligations.LicenceCheckOrder : Prop :=
  ∀ (s : State) (c : Composition), (c.licence = none → s.licenceCheck c = none) ∧
    ∀ i l, c.licence = some i → l = s.licence i →
      (s.licenceCheck c = some .timeUnset ↔ (l.windowStart ≠ none ∨ l.windowEnd ≠ none) ∧ s.clk.booth = none) ∧
      (s.licenceCheck c = some .notYet ↔ ∃ a b, l.windowStart = some a ∧ s.clk.booth = some b ∧ b < a) ∧
      (s.licenceCheck c = some .expired ↔ ∃ z b, l.windowEnd = some z ∧ s.clk.booth = some b ∧ z ≤ b ∧
        ∀ a, l.windowStart = some a → a ≤ b) ∧
      (s.licenceCheck c = none ↔ (∀ n, l.allowed = some n → l.used < n) ∧ l.used ≠ 65535 ∧
        (∀ a, l.windowStart = some a → ∃ b, s.clk.booth = some b ∧ a ≤ b) ∧
        ∀ z, l.windowEnd = some z → ∃ b, s.clk.booth = some b ∧ b < z) ∧
      s.licenceCheck c ≠ some .none

/-- One step of the fader (R92): by trunc(K × (T − F) / 65536), or by 1 where that is 0; toward the target, never past it, and within
0 to 32768. -/
def Obligations.FaderStepTowardTarget : Prop :=
  ∀ f t k : Nat, f ≤ 32768 → t ≤ 32768 → k ≤ 65535 →
    faderStep t t k = t ∧
    (f < t → f < faderStep f t k ∧ faderStep f t k ≤ t ∧ faderStep f t k = max (f + 1) (f + k * (t - f) / 65536)) ∧
    (t < f → t ≤ faderStep f t k ∧ faderStep f t k < f ∧ faderStep f t k = min (f - 1) (f - k * (f - t) / 65536))

/-! ## Cues, booth lines and inputs -/

/-- A macro of one entry run from an input (R136, with R93, R115, R116, R125, R130 to R135, R140, R143, R145): what each kind of cue
does, and that nothing else changes. A macro that calls itself is cut off at depth 4 with CUE_NEST. A macro of any length takes its
entries in index order, the entries of each macro that it runs in the place of the MACRO entry, down to depth 4, and a pending
hold after them all; the event is then reported as one (R33). THE MODEL'S CHOICE: an IDLE lane takes a parcel once, when the event is
complete (log 9). -/
def Obligations.CueMacrosByKind : Prop :=
  (∀ (i : Fin 8) (first : Nat) (s u : State), s.inReset = false → QueuesOk s → (s.input i.val).waiting ≠ none →
    (s.inputEntry i.val).enabled = true → edgeTo (s.input i.val).raw = (s.inputEntry i.val).edge →
    (s.inputEntry i.val).action = .runMacro first 1 →
    u = { edgeTaken s i.val with cue := { s.cue with stack := [], pendingHold := false } } →
    ∃ t, exec (.acceptedEdge i) s = .next t ∧
    match (s.cueEntry first).cue with
    | .empty => t = u
    | .lineLevel line level => t = { u with booth := { u.booth with cueLevels := u.booth.cueLevels.set line level } }
    | .linePulse g line mode count pulse space =>
      let started : Generator := ⟨.pulse, line, mode, pulse, space, count, pulse⟩
      let others := s.booth.generators.map fun h => if h.phase ≠ .idle ∧ h.line = line then { h with phase := .idle } else h
      t = if s.booth.latch then u else { u with booth := { u.booth with generators := others.set g started } }
    | .pulseStop g =>
      t = { u with booth := { u.booth with generators := u.booth.generators.modify g fun h => { h with phase := .idle } } }
    | .fader target rate =>
      t = { u with snd := { u.snd with fader :=
        if s.snd.fader.muted = true ∨ s.seq.state = .holding ∨ s.seq.state = .stalled then { s.snd.fader with saved := target }
        else { s.snd.fader with target := target, rate := rate } } }
    | .route map => t = { u with snd := { u.snd with activeMap := map } }
    | .subtitles track =>
      (s.sub.active = track → t = u) ∧
      (s.sub.active ≠ track → t.sub.active = track ∧ t.sub.schedule = s.sub.schedule ∧
        (∀ r, r ≤ 3 → t.region r = none) ∧
        t.link = s.link ++ (regionNumbers.filter fun r => (s.region r).isSome).map LinkRecord.clearRegion ∧
        t = { u with sub := t.sub, link := t.link, tracks := t.tracks, freeCells := t.freeCells })
    | .mark tag => t = { u with cue := { u.cue with lastMark := tag }, mgmt := t.mgmt } ∧
        t.mgmt.flags = withFlag s.mgmt.flags .cueMark
    | .holdShow =>
      (s.seq.state ≠ .playing → t = u) ∧
      (s.seq.state = .playing →
        t = { u with seq := { s.seq with state := .holding }, mgmt := t.mgmt,
                     snd := { s.snd with fader := if s.snd.fader.muted then s.snd.fader
                       else { s.snd.fader with saved := s.snd.fader.target, value := 0, target := 0 } } } ∧
        t.mgmt.flags = withFlag s.mgmt.flags .showState)
    | .callMacro again length => again = first → length = 1 →
        t = { u with mgmt := t.mgmt } ∧ t.mgmt.flags = withFlag s.mgmt.flags .cueNest) ∧
  ∀ (i : Fin 8) (first length : Nat) (s u : State), s.inReset = false → (s.input i.val).waiting ≠ none →
    (s.inputEntry i.val).enabled = true → edgeTo (s.input i.val).raw = (s.inputEntry i.val).edge →
    (s.inputEntry i.val).action = .runMacro first length →
    u = { edgeTaken s i.val with cue := { s.cue with stack := [], pendingHold := false } } →
    exec (.acceptedEdge i) s =
      .next (event (fun _ => ((flatRun s Config.macroDepth first length).foldl takeFlat u).endExpansion) s)

/-- The booth lines between edges: MILLISECOND_TICK with no change due counts every running generator and every pending change and
does nothing else (R27, R144, R147); PHASE_END ends one generator's phase (R144); and the level each output line shows (R141). THE
MODEL'S CHOICE: the tick puts its divider at 0 (log 18), and PHASE_END of an IDLE generator has no effect (log 1). -/
def Obligations.MillisecondTickAndLines : Prop :=
  (∀ (order : List (Fin 8)) (s : State), s.inReset = false →
    (∀ i n, i < 8 → (s.input i).waiting = some n → n + 1 < (s.inputEntry i).debounce) →
    exec (.millisecondTick order) s = .next { s with
      booth := { s.booth with generators := s.booth.generators.map Generator.tick
                              inputs := s.booth.inputs.map fun k => { k with waiting := k.waiting.map (· + 1) } }
      clk := { s.clk with msDivider := 0 } }) ∧
  (∀ g : Generator,
    (g.phase = .idle → g.tick = g) ∧
    (g.phase ≠ .idle → 2 ≤ g.ticksLeft → g.tick = { g with ticksLeft := g.ticksLeft - 1 }) ∧
    (g.phase = .pulse → g.ticksLeft ≤ 1 → g.mode = .single → g.tick.phase = .idle) ∧
    (g.phase = .pulse → g.ticksLeft ≤ 1 → g.mode = .repeating →
      (g.pulsesLeft = 0 → g.tick = { g with phase := .space, ticksLeft := g.space }) ∧
      (g.pulsesLeft = 1 → g.tick.phase = .idle ∧ g.tick.pulsesLeft = 0) ∧
      (2 ≤ g.pulsesLeft → g.tick = { g with phase := .space, ticksLeft := g.space, pulsesLeft := g.pulsesLeft - 1 })) ∧
    (g.phase = .space → g.ticksLeft ≤ 1 → g.tick = { g with phase := .pulse, ticksLeft := g.pulse })) ∧
  (∀ (g : Fin 4) (s : State), s.inReset = false → QueuesOk s →
    exec (.phaseEnd g) s = .next { s with booth := { s.booth with
      generators := s.booth.generators.modify g.val fun x => if x.phase = .idle then x else Generator.tick { x with ticksLeft := 1 } } }) ∧
  ∀ (s : State) (line : Nat), s.inReset = false →
    (∀ level, s.booth.latch = true → (s.tables.line.getD line LineSetting.off).safety = some level → s.lineLevel line = level) ∧
    (s.booth.latch = false ∨ (s.tables.line.getD line LineSetting.off).safety = none → OwnersOk s →
      (∀ g ∈ s.booth.generators, g.phase ≠ .idle → g.line = line →
        s.lineLevel line = if g.phase = .pulse then .assert else .release) ∧
      ((∀ g ∈ s.booth.generators, g.phase = .idle ∨ g.line ≠ line) →
        s.lineLevel line = s.booth.cueLevels.getD line .release))

/-- The inputs (R147, R148): what a change of the raw level does in each debounce state; which changes a millisecond tick accepts;
and the action of an accepted edge: none where the entry is disabled, of the other edge or NONE; a show command that is taken, or
sets INPUT_REFUSED. THE MODEL'S CHOICE: the generators count before the accepted edge of the same tick (log 10), the tick puts its
divider at 0 (log 18), and ACCEPTED_EDGE of a STABLE input has no effect (log 1). -/
def Obligations.InputEdgesAndActions : Prop :=
  ∀ (i : Fin 8) (s : State), s.inReset = false → QueuesOk s → s.booth.inputs.length = 8 →
    (exec (.inputLevelChange i (s.input i.val).raw) s = .next s) ∧
    (∀ level, level ≠ (s.input i.val).raw →
      (level = (s.input i.val).debounced →
        exec (.inputLevelChange i level) s = .next (s.updInput i.val fun k => { k with raw := level, waiting := none })) ∧
      (level ≠ (s.input i.val).debounced → (s.inputEntry i.val).debounce ≠ 0 →
        exec (.inputLevelChange i level) s = .next (s.updInput i.val fun k => { k with raw := level, waiting := some 0 })) ∧
      (level ≠ (s.input i.val).debounced → (s.inputEntry i.val).debounce = 0 →
        exec (.inputLevelChange i level) s =
          exec (.acceptedEdge i) (s.updInput i.val fun k => { k with raw := level, waiting := some 0 }))) ∧
    (∀ (order : List (Fin 8)) (n : Nat), (s.input i.val).waiting = some n → (s.inputEntry i.val).debounce ≤ n + 1 →
      (∀ j m, j < 8 → j ≠ i.val → (s.input j).waiting = some m → m + 1 < (s.inputEntry j).debounce) →
      exec (.millisecondTick order) s = exec (.acceptedEdge i) { s with
        booth := { s.booth with generators := s.booth.generators.map Generator.tick
                                inputs := s.booth.inputs.map fun k => { k with waiting := k.waiting.map (· + 1) } }
        clk := { s.clk with msDivider := 0 } }) ∧
    ((s.input i.val).waiting = none → exec (.acceptedEdge i) s = .next s) ∧
    ((s.input i.val).waiting ≠ none → (s.inputEntry i.val).action ≠ .emergency →
      ((s.inputEntry i.val).enabled = false ∨ edgeTo (s.input i.val).raw ≠ (s.inputEntry i.val).edge ∨
        (s.inputEntry i.val).action = .nothing → exec (.acceptedEdge i) s = .next (edgeTaken s i.val)) ∧
      ∀ a c, (a, c) ∈ [(InputAction.start, ShowCommand.start), (.hold, .hold), (.resume, .resume), (.stop, .stop), (.skip, .skip)] →
        (s.inputEntry i.val).enabled = true → edgeTo (s.input i.val).raw = (s.inputEntry i.val).edge →
        (s.inputEntry i.val).action = a →
        (s.seq.state ∈ acceptedIn c → ∃ t u, exec (.acceptedEdge i) s = .next t ∧ (edgeTaken s i.val).showCommand c = some u ∧
          t = { u with mgmt := t.mgmt } ∧ flagSet t.mgmt.flags .inputRefused = flagSet s.mgmt.flags .inputRefused) ∧
        (s.seq.state ∉ acceptedIn c → ∃ t, exec (.acceptedEdge i) s = .next t ∧
          t = { edgeTaken s i.val with mgmt := t.mgmt } ∧ t.mgmt.flags = withFlag s.mgmt.flags .inputRefused))

/-- The emergency latch (R149 to R151): the accepted change that makes an EMERGENCY input active sets a clear latch with all its
effects, and its change of show state is reported; with the latch already set, or at the other edge, nothing more happens. THE
MODEL'S CHOICE: the stopped show keeps its licence-cleared mark (log 27). -/
def Obligations.EmergencyLatchSets : Prop :=
  ∀ (i : Fin 8) (s : State), s.inReset = false → QueuesOk s → (s.input i.val).waiting ≠ none →
    (s.inputEntry i.val).enabled = true → (s.inputEntry i.val).action = .emergency →
    (s.booth.latch = false → edgeTo (s.input i.val).raw = (s.inputEntry i.val).edge →
      ∃ t, exec (.acceptedEdge i) s = .next t ∧ LatchSet s t ∧ t.booth.inputs = (edgeTaken s i.val).booth.inputs ∧
        t.tables = s.tables ∧
        flagSet t.mgmt.flags .showState =
          (flagSet s.mgmt.flags .showState || decide (s.seq.state ≠ .idle ∧ s.seq.state ≠ .stopped))) ∧
    (s.booth.latch = true ∨ edgeTo (s.input i.val).raw ≠ (s.inputEntry i.val).edge →
      exec (.acceptedEdge i) s = .next (edgeTaken s i.val))

/-- A change of show state is judged over one event taken whole (R33, R181): an event that leaves another show state than it found sets
SHOW_STATE, makes the flow count 0 and queues one FLOW report with the values it leaves; one that leaves the state it found does
not touch SHOW_STATE and queues none, but for the flow count of a frame boundary in PREROLL, PLAYING and STALLED. The commands
named are those that are one event each. THE MODEL'S CHOICE: an IDLE lane takes a parcel once, when the event is complete, so that an
event of several flags leaves one EVENT on it (log 9). -/
def Obligations.StateChangeReported : Prop :=
  ∀ (c : Instr) (s t : State), s.inReset = false →
    (c ∈ [Instr.frameBoundary, .secondTick, .prerollTimeout, .stallTimeout, .stallTrigger, .flowInterval] ∨
      (∃ g, c = .phaseEnd g) ∨ (∃ i, c = .acceptedEdge i) ∨ ∃ b, c = .parcelComplete b ∧
        ∀ p, checkParcel b = .good p → p.kind ≠ .mgmt) →
    exec c s = .next t →
    (t.seq.state ≠ s.seq.state →
      flagSet t.mgmt.flags .showState = true ∧ t.mgmt.flowCount = 0 ∧ FlowQueued s t) ∧
    (t.seq.state = s.seq.state → flagSet t.mgmt.flags .showState = flagSet s.mgmt.flags .showState ∧
      (c ≠ .flowInterval → c ≠ .frameBoundary → t.mgmt.flowCount = s.mgmt.flowCount ∧
        (s.mgmt.lane ≠ none → t.mgmt.slots = s.mgmt.slots)) ∧
      (c = .frameBoundary →
        let counts : Prop := s.seq.state = .preroll ∨ s.seq.state = .playing ∨ s.seq.state = .stalled
        (counts → s.tables.settings.flowInterval ≤ s.mgmt.flowCount + 1 → t.mgmt.flowCount = 0 ∧ FlowQueued s t) ∧
        (counts → s.mgmt.flowCount + 1 < s.tables.settings.flowInterval → t.mgmt.flowCount = s.mgmt.flowCount + 1 ∧
          (s.mgmt.lane ≠ none → t.mgmt.slots = s.mgmt.slots)) ∧
        (¬ counts → t.mgmt.flowCount = s.mgmt.flowCount ∧ (s.mgmt.lane ≠ none → t.mgmt.slots = s.mgmt.slots))))

/-! ## Encodings -/

/-- Requests and their payloads agree (10.3): a request reads back from its own payload, where its parts fit the layout and a refused
one is one that R171 refuses; and every payload is the payload of the request read from it. -/
def Obligations.RequestRoundTrip : Prop :=
  (∀ r : Request,
    (match r with
     | .arm _ slots => slots.length ≤ 255
     | .malformed payload => payloadMalformed payload = true
     | _ => True) → parseRequest r.encode = r) ∧
  ∀ payload : Bytes, (parseRequest payload).encode = payload

/-- A stored table entry reads back as it was written (R174, R186, R187, 10.4): what R173 accepts from any bytes, in any table, is
encoded in the table's entry size and decodes to itself. -/
def Obligations.TableEntryRoundTrip : Prop :=
  ∀ (table : Nat) (b : Bytes) (e : Entry), decodeEntry table b = .ok e →
    decodeEntry table (encodeEntry e) = .ok e ∧ (encodeEntry e).length = entrySize table

/-! ## Invariants -/

/-- The part right after power-on reset meets every invariant that the statements below say each step keeps. -/
def Obligations.ResetMeetsInvariants : Prop :=
  QueuesOk State.reset ∧ LatchOk State.reset ∧ OwnersOk State.reset ∧ ScheduleOk State.reset ∧ RecordsOk State.reset ∧
    CellsOk State.reset ∧ SoundOk State.reset ∧ SizesOk State.reset ∧ PlaylistOk State.reset ∧
    CueStoreOk State.reset

/-- Every step keeps the bounds and the service of the management queues (R170, R182, R183). -/
def Obligations.StepsKeepQueues : Prop := ∀ s t : State, QueuesOk s → step s = .next t → QueuesOk t

/-- Every step keeps the emergency condition (R151, R152, R91), and every output line has at most one running generator (R142). -/
def Obligations.StepsKeepLatchAndOwners : Prop :=
  ∀ s t : State, LatchOk s → OwnersOk s → step s = .next t → LatchOk t ∧ OwnersOk t

/-- Every step keeps the showing log in order: an OPEN record exists exactly in PLAYING, HOLDING and STALLED, there is never more
than one, it has presented f frames, and the log holds at most 64 records (R159, R161, R162). -/
def Obligations.StepsKeepRecords : Prop := ∀ s t : State, RecordsOk s → step s = .next t → RecordsOk t

/-- Every step keeps the cell pool (R16, R122): every cell is free or attributed to exactly one track, within its quota. -/
def Obligations.StepsKeepCells : Prop := ∀ s t : State, CellsOk s → step s = .next t → CellsOk t

/-- Every step keeps the sound path in its ranges (R88, R91, R92, R100, R101), the subtitle schedule ordered and at most 96 items
long (R105), the sizes of the part's collections, a playlist in which no slot stands at two consecutive positions (R35), and a
cue store whose EMPTY entries have trigger 0 (R123, R124). -/
def Obligations.StepsKeepSoundAndSizes : Prop :=
  (∀ s t : State, SoundOk s → step s = .next t → SoundOk t) ∧ (∀ s t : State, ScheduleOk s → step s = .next t → ScheduleOk t) ∧
    (∀ s t : State, SizesOk s → step s = .next t → SizesOk t) ∧
    (∀ s t : State, PlaylistOk s → step s = .next t → PlaylistOk t) ∧
    ∀ s t : State, CueStoreOk s → step s = .next t → CueStoreOk t
end

