-- ==== Sys2Proof/Laws/State.lean ====
section
/-! SUPPORT. One lemma for each field of State under each named update, true by unfolding, so that no proof unfolds a record
update. -/

namespace Sys2Proof.Machine

/-! ### updTrack -/

@[simp] theorem State.updTrack_tables (s : State) (t : Nat) (f : Track → Track) : (s.updTrack t f).tables = s.tables := rfl
@[simp] theorem State.updTrack_port (s : State) (t : Nat) (f : Track → Track) : (s.updTrack t f).port = s.port := rfl
@[simp] theorem State.updTrack_tracks (s : State) (t : Nat) (f : Track → Track) :
    (s.updTrack t f).tracks = s.tracks.modify t f := rfl
@[simp] theorem State.updTrack_freeCells (s : State) (t : Nat) (f : Track → Track) :
    (s.updTrack t f).freeCells = s.freeCells := rfl
@[simp] theorem State.updTrack_seq (s : State) (t : Nat) (f : Track → Track) : (s.updTrack t f).seq = s.seq := rfl
@[simp] theorem State.updTrack_clk (s : State) (t : Nat) (f : Track → Track) : (s.updTrack t f).clk = s.clk := rfl
@[simp] theorem State.updTrack_repeats (s : State) (t : Nat) (f : Track → Track) : (s.updTrack t f).repeats = s.repeats := rfl
@[simp] theorem State.updTrack_snd (s : State) (t : Nat) (f : Track → Track) : (s.updTrack t f).snd = s.snd := rfl
@[simp] theorem State.updTrack_sub (s : State) (t : Nat) (f : Track → Track) : (s.updTrack t f).sub = s.sub := rfl
@[simp] theorem State.updTrack_cue (s : State) (t : Nat) (f : Track → Track) : (s.updTrack t f).cue = s.cue := rfl
@[simp] theorem State.updTrack_booth (s : State) (t : Nat) (f : Track → Track) : (s.updTrack t f).booth = s.booth := rfl
@[simp] theorem State.updTrack_acct (s : State) (t : Nat) (f : Track → Track) : (s.updTrack t f).acct = s.acct := rfl
@[simp] theorem State.updTrack_mgmt (s : State) (t : Nat) (f : Track → Track) : (s.updTrack t f).mgmt = s.mgmt := rfl
@[simp] theorem State.updTrack_link (s : State) (t : Nat) (f : Track → Track) : (s.updTrack t f).link = s.link := rfl
@[simp] theorem State.updTrack_inReset (s : State) (t : Nat) (f : Track → Track) : (s.updTrack t f).inReset = s.inReset := rfl
@[simp] theorem State.updTrack_pending (s : State) (t : Nat) (f : Track → Track) : (s.updTrack t f).pending = s.pending := rfl

/-! ### count -/

@[simp] theorem State.count_tables (s : State) (t : Nat) (f : Counters → Counters) : (s.count t f).tables = s.tables := rfl
@[simp] theorem State.count_port (s : State) (t : Nat) (f : Counters → Counters) : (s.count t f).port = s.port := rfl
@[simp] theorem State.count_tracks (s : State) (t : Nat) (f : Counters → Counters) :
    (s.count t f).tracks = s.tracks.modify t fun k => { k with counters := f k.counters } := rfl
@[simp] theorem State.count_freeCells (s : State) (t : Nat) (f : Counters → Counters) :
    (s.count t f).freeCells = s.freeCells := rfl
@[simp] theorem State.count_seq (s : State) (t : Nat) (f : Counters → Counters) : (s.count t f).seq = s.seq := rfl
@[simp] theorem State.count_clk (s : State) (t : Nat) (f : Counters → Counters) : (s.count t f).clk = s.clk := rfl
@[simp] theorem State.count_repeats (s : State) (t : Nat) (f : Counters → Counters) : (s.count t f).repeats = s.repeats := rfl
@[simp] theorem State.count_snd (s : State) (t : Nat) (f : Counters → Counters) : (s.count t f).snd = s.snd := rfl
@[simp] theorem State.count_sub (s : State) (t : Nat) (f : Counters → Counters) : (s.count t f).sub = s.sub := rfl
@[simp] theorem State.count_cue (s : State) (t : Nat) (f : Counters → Counters) : (s.count t f).cue = s.cue := rfl
@[simp] theorem State.count_booth (s : State) (t : Nat) (f : Counters → Counters) : (s.count t f).booth = s.booth := rfl
@[simp] theorem State.count_acct (s : State) (t : Nat) (f : Counters → Counters) : (s.count t f).acct = s.acct := rfl
@[simp] theorem State.count_mgmt (s : State) (t : Nat) (f : Counters → Counters) : (s.count t f).mgmt = s.mgmt := rfl
@[simp] theorem State.count_link (s : State) (t : Nat) (f : Counters → Counters) : (s.count t f).link = s.link := rfl
@[simp] theorem State.count_inReset (s : State) (t : Nat) (f : Counters → Counters) : (s.count t f).inReset = s.inReset := rfl
@[simp] theorem State.count_pending (s : State) (t : Nat) (f : Counters → Counters) : (s.count t f).pending = s.pending := rfl

/-! ### grantCells -/

@[simp] theorem State.grantCells_tables (s : State) (t n : Nat) : (s.grantCells t n).tables = s.tables := rfl
@[simp] theorem State.grantCells_port (s : State) (t n : Nat) : (s.grantCells t n).port = s.port := rfl
@[simp] theorem State.grantCells_tracks (s : State) (t n : Nat) :
    (s.grantCells t n).tracks = s.tracks.modify t fun k => { k with cellsHeld := k.cellsHeld + n } := rfl
@[simp] theorem State.grantCells_freeCells (s : State) (t n : Nat) : (s.grantCells t n).freeCells = s.freeCells - n := rfl
@[simp] theorem State.grantCells_seq (s : State) (t n : Nat) : (s.grantCells t n).seq = s.seq := rfl
@[simp] theorem State.grantCells_clk (s : State) (t n : Nat) : (s.grantCells t n).clk = s.clk := rfl
@[simp] theorem State.grantCells_repeats (s : State) (t n : Nat) : (s.grantCells t n).repeats = s.repeats := rfl
@[simp] theorem State.grantCells_snd (s : State) (t n : Nat) : (s.grantCells t n).snd = s.snd := rfl
@[simp] theorem State.grantCells_sub (s : State) (t n : Nat) : (s.grantCells t n).sub = s.sub := rfl
@[simp] theorem State.grantCells_cue (s : State) (t n : Nat) : (s.grantCells t n).cue = s.cue := rfl
@[simp] theorem State.grantCells_booth (s : State) (t n : Nat) : (s.grantCells t n).booth = s.booth := rfl
@[simp] theorem State.grantCells_acct (s : State) (t n : Nat) : (s.grantCells t n).acct = s.acct := rfl
@[simp] theorem State.grantCells_mgmt (s : State) (t n : Nat) : (s.grantCells t n).mgmt = s.mgmt := rfl
@[simp] theorem State.grantCells_link (s : State) (t n : Nat) : (s.grantCells t n).link = s.link := rfl
@[simp] theorem State.grantCells_inReset (s : State) (t n : Nat) : (s.grantCells t n).inReset = s.inReset := rfl
@[simp] theorem State.grantCells_pending (s : State) (t n : Nat) : (s.grantCells t n).pending = s.pending := rfl

/-! ### returnCells -/

@[simp] theorem State.returnCells_tables (s : State) (t n : Nat) : (s.returnCells t n).tables = s.tables := rfl
@[simp] theorem State.returnCells_port (s : State) (t n : Nat) : (s.returnCells t n).port = s.port := rfl
@[simp] theorem State.returnCells_tracks (s : State) (t n : Nat) :
    (s.returnCells t n).tracks = s.tracks.modify t fun k => { k with cellsHeld := k.cellsHeld - n } := rfl
@[simp] theorem State.returnCells_freeCells (s : State) (t n : Nat) : (s.returnCells t n).freeCells = s.freeCells + n := rfl
@[simp] theorem State.returnCells_seq (s : State) (t n : Nat) : (s.returnCells t n).seq = s.seq := rfl
@[simp] theorem State.returnCells_clk (s : State) (t n : Nat) : (s.returnCells t n).clk = s.clk := rfl
@[simp] theorem State.returnCells_repeats (s : State) (t n : Nat) : (s.returnCells t n).repeats = s.repeats := rfl
@[simp] theorem State.returnCells_snd (s : State) (t n : Nat) : (s.returnCells t n).snd = s.snd := rfl
@[simp] theorem State.returnCells_sub (s : State) (t n : Nat) : (s.returnCells t n).sub = s.sub := rfl
@[simp] theorem State.returnCells_cue (s : State) (t n : Nat) : (s.returnCells t n).cue = s.cue := rfl
@[simp] theorem State.returnCells_booth (s : State) (t n : Nat) : (s.returnCells t n).booth = s.booth := rfl
@[simp] theorem State.returnCells_acct (s : State) (t n : Nat) : (s.returnCells t n).acct = s.acct := rfl
@[simp] theorem State.returnCells_mgmt (s : State) (t n : Nat) : (s.returnCells t n).mgmt = s.mgmt := rfl
@[simp] theorem State.returnCells_link (s : State) (t n : Nat) : (s.returnCells t n).link = s.link := rfl
@[simp] theorem State.returnCells_inReset (s : State) (t n : Nat) : (s.returnCells t n).inReset = s.inReset := rfl
@[simp] theorem State.returnCells_pending (s : State) (t n : Nat) : (s.returnCells t n).pending = s.pending := rfl

/-! ### updWindow -/

@[simp] theorem State.updWindow_tables (s : State) (t : Nat) (f : Window → Window) : (s.updWindow t f).tables = s.tables := rfl
@[simp] theorem State.updWindow_port (s : State) (t : Nat) (f : Window → Window) : (s.updWindow t f).port = s.port := rfl
@[simp] theorem State.updWindow_tracks (s : State) (t : Nat) (f : Window → Window) :
    (s.updWindow t f).tracks = s.tracks.modify t fun k => { k with window := k.window.map f } := rfl
@[simp] theorem State.updWindow_freeCells (s : State) (t : Nat) (f : Window → Window) :
    (s.updWindow t f).freeCells = s.freeCells := rfl
@[simp] theorem State.updWindow_seq (s : State) (t : Nat) (f : Window → Window) : (s.updWindow t f).seq = s.seq := rfl
@[simp] theorem State.updWindow_clk (s : State) (t : Nat) (f : Window → Window) : (s.updWindow t f).clk = s.clk := rfl
@[simp] theorem State.updWindow_repeats (s : State) (t : Nat) (f : Window → Window) : (s.updWindow t f).repeats = s.repeats := rfl
@[simp] theorem State.updWindow_snd (s : State) (t : Nat) (f : Window → Window) : (s.updWindow t f).snd = s.snd := rfl
@[simp] theorem State.updWindow_sub (s : State) (t : Nat) (f : Window → Window) : (s.updWindow t f).sub = s.sub := rfl
@[simp] theorem State.updWindow_cue (s : State) (t : Nat) (f : Window → Window) : (s.updWindow t f).cue = s.cue := rfl
@[simp] theorem State.updWindow_booth (s : State) (t : Nat) (f : Window → Window) : (s.updWindow t f).booth = s.booth := rfl
@[simp] theorem State.updWindow_acct (s : State) (t : Nat) (f : Window → Window) : (s.updWindow t f).acct = s.acct := rfl
@[simp] theorem State.updWindow_mgmt (s : State) (t : Nat) (f : Window → Window) : (s.updWindow t f).mgmt = s.mgmt := rfl
@[simp] theorem State.updWindow_link (s : State) (t : Nat) (f : Window → Window) : (s.updWindow t f).link = s.link := rfl
@[simp] theorem State.updWindow_inReset (s : State) (t : Nat) (f : Window → Window) : (s.updWindow t f).inReset = s.inReset := rfl
@[simp] theorem State.updWindow_pending (s : State) (t : Nat) (f : Window → Window) : (s.updWindow t f).pending = s.pending := rfl

/-! ### setAssembly -/

@[simp] theorem State.setAssembly_tables (s : State) (t : Nat) (a : Option Assembly) :
    (s.setAssembly t a).tables = s.tables := rfl
@[simp] theorem State.setAssembly_port (s : State) (t : Nat) (a : Option Assembly) : (s.setAssembly t a).port = s.port := rfl
@[simp] theorem State.setAssembly_tracks (s : State) (t : Nat) (a : Option Assembly) :
    (s.setAssembly t a).tracks = s.tracks.modify t fun k => { k with assembly := a } := rfl
@[simp] theorem State.setAssembly_freeCells (s : State) (t : Nat) (a : Option Assembly) :
    (s.setAssembly t a).freeCells = s.freeCells := rfl
@[simp] theorem State.setAssembly_seq (s : State) (t : Nat) (a : Option Assembly) : (s.setAssembly t a).seq = s.seq := rfl
@[simp] theorem State.setAssembly_clk (s : State) (t : Nat) (a : Option Assembly) : (s.setAssembly t a).clk = s.clk := rfl
@[simp] theorem State.setAssembly_repeats (s : State) (t : Nat) (a : Option Assembly) :
    (s.setAssembly t a).repeats = s.repeats := rfl
@[simp] theorem State.setAssembly_snd (s : State) (t : Nat) (a : Option Assembly) : (s.setAssembly t a).snd = s.snd := rfl
@[simp] theorem State.setAssembly_sub (s : State) (t : Nat) (a : Option Assembly) : (s.setAssembly t a).sub = s.sub := rfl
@[simp] theorem State.setAssembly_cue (s : State) (t : Nat) (a : Option Assembly) : (s.setAssembly t a).cue = s.cue := rfl
@[simp] theorem State.setAssembly_booth (s : State) (t : Nat) (a : Option Assembly) : (s.setAssembly t a).booth = s.booth := rfl
@[simp] theorem State.setAssembly_acct (s : State) (t : Nat) (a : Option Assembly) : (s.setAssembly t a).acct = s.acct := rfl
@[simp] theorem State.setAssembly_mgmt (s : State) (t : Nat) (a : Option Assembly) : (s.setAssembly t a).mgmt = s.mgmt := rfl
@[simp] theorem State.setAssembly_link (s : State) (t : Nat) (a : Option Assembly) : (s.setAssembly t a).link = s.link := rfl
@[simp] theorem State.setAssembly_inReset (s : State) (t : Nat) (a : Option Assembly) :
    (s.setAssembly t a).inReset = s.inReset := rfl
@[simp] theorem State.setAssembly_pending (s : State) (t : Nat) (a : Option Assembly) :
    (s.setAssembly t a).pending = s.pending := rfl

/-! ### send -/

@[simp] theorem State.send_tables (s : State) (r : LinkRecord) : (s.send r).tables = s.tables := rfl
@[simp] theorem State.send_port (s : State) (r : LinkRecord) : (s.send r).port = s.port := rfl
@[simp] theorem State.send_tracks (s : State) (r : LinkRecord) : (s.send r).tracks = s.tracks := rfl
@[simp] theorem State.send_freeCells (s : State) (r : LinkRecord) : (s.send r).freeCells = s.freeCells := rfl
@[simp] theorem State.send_seq (s : State) (r : LinkRecord) : (s.send r).seq = s.seq := rfl
@[simp] theorem State.send_clk (s : State) (r : LinkRecord) : (s.send r).clk = s.clk := rfl
@[simp] theorem State.send_repeats (s : State) (r : LinkRecord) : (s.send r).repeats = s.repeats := rfl
@[simp] theorem State.send_snd (s : State) (r : LinkRecord) : (s.send r).snd = s.snd := rfl
@[simp] theorem State.send_sub (s : State) (r : LinkRecord) : (s.send r).sub = s.sub := rfl
@[simp] theorem State.send_cue (s : State) (r : LinkRecord) : (s.send r).cue = s.cue := rfl
@[simp] theorem State.send_booth (s : State) (r : LinkRecord) : (s.send r).booth = s.booth := rfl
@[simp] theorem State.send_acct (s : State) (r : LinkRecord) : (s.send r).acct = s.acct := rfl
@[simp] theorem State.send_mgmt (s : State) (r : LinkRecord) : (s.send r).mgmt = s.mgmt := rfl
@[simp] theorem State.send_link (s : State) (r : LinkRecord) : (s.send r).link = s.link ++ [r] := rfl
@[simp] theorem State.send_inReset (s : State) (r : LinkRecord) : (s.send r).inReset = s.inReset := rfl
@[simp] theorem State.send_pending (s : State) (r : LinkRecord) : (s.send r).pending = s.pending := rfl

/-! ### updSeq -/

@[simp] theorem State.updSeq_tables (s : State) (f : Sequencer → Sequencer) : (s.updSeq f).tables = s.tables := rfl
@[simp] theorem State.updSeq_port (s : State) (f : Sequencer → Sequencer) : (s.updSeq f).port = s.port := rfl
@[simp] theorem State.updSeq_tracks (s : State) (f : Sequencer → Sequencer) : (s.updSeq f).tracks = s.tracks := rfl
@[simp] theorem State.updSeq_freeCells (s : State) (f : Sequencer → Sequencer) : (s.updSeq f).freeCells = s.freeCells := rfl
@[simp] theorem State.updSeq_seq (s : State) (f : Sequencer → Sequencer) : (s.updSeq f).seq = f s.seq := rfl
@[simp] theorem State.updSeq_clk (s : State) (f : Sequencer → Sequencer) : (s.updSeq f).clk = s.clk := rfl
@[simp] theorem State.updSeq_repeats (s : State) (f : Sequencer → Sequencer) : (s.updSeq f).repeats = s.repeats := rfl
@[simp] theorem State.updSeq_snd (s : State) (f : Sequencer → Sequencer) : (s.updSeq f).snd = s.snd := rfl
@[simp] theorem State.updSeq_sub (s : State) (f : Sequencer → Sequencer) : (s.updSeq f).sub = s.sub := rfl
@[simp] theorem State.updSeq_cue (s : State) (f : Sequencer → Sequencer) : (s.updSeq f).cue = s.cue := rfl
@[simp] theorem State.updSeq_booth (s : State) (f : Sequencer → Sequencer) : (s.updSeq f).booth = s.booth := rfl
@[simp] theorem State.updSeq_acct (s : State) (f : Sequencer → Sequencer) : (s.updSeq f).acct = s.acct := rfl
@[simp] theorem State.updSeq_mgmt (s : State) (f : Sequencer → Sequencer) : (s.updSeq f).mgmt = s.mgmt := rfl
@[simp] theorem State.updSeq_link (s : State) (f : Sequencer → Sequencer) : (s.updSeq f).link = s.link := rfl
@[simp] theorem State.updSeq_inReset (s : State) (f : Sequencer → Sequencer) : (s.updSeq f).inReset = s.inReset := rfl
@[simp] theorem State.updSeq_pending (s : State) (f : Sequencer → Sequencer) : (s.updSeq f).pending = s.pending := rfl

/-! ### setPeriod -/

@[simp] theorem State.setPeriod_tables (s : State) (p : Nat) : (s.setPeriod p).tables = s.tables := rfl
@[simp] theorem State.setPeriod_port (s : State) (p : Nat) : (s.setPeriod p).port = s.port := rfl
@[simp] theorem State.setPeriod_tracks (s : State) (p : Nat) : (s.setPeriod p).tracks = s.tracks := rfl
@[simp] theorem State.setPeriod_freeCells (s : State) (p : Nat) : (s.setPeriod p).freeCells = s.freeCells := rfl
@[simp] theorem State.setPeriod_seq (s : State) (p : Nat) : (s.setPeriod p).seq = s.seq := rfl
@[simp] theorem State.setPeriod_clk (s : State) (p : Nat) : (s.setPeriod p).clk = { s.clk with period := p } := rfl
@[simp] theorem State.setPeriod_repeats (s : State) (p : Nat) : (s.setPeriod p).repeats = s.repeats := rfl
@[simp] theorem State.setPeriod_snd (s : State) (p : Nat) : (s.setPeriod p).snd = s.snd := rfl
@[simp] theorem State.setPeriod_sub (s : State) (p : Nat) : (s.setPeriod p).sub = s.sub := rfl
@[simp] theorem State.setPeriod_cue (s : State) (p : Nat) : (s.setPeriod p).cue = s.cue := rfl
@[simp] theorem State.setPeriod_booth (s : State) (p : Nat) : (s.setPeriod p).booth = s.booth := rfl
@[simp] theorem State.setPeriod_acct (s : State) (p : Nat) : (s.setPeriod p).acct = s.acct := rfl
@[simp] theorem State.setPeriod_mgmt (s : State) (p : Nat) : (s.setPeriod p).mgmt = s.mgmt := rfl
@[simp] theorem State.setPeriod_link (s : State) (p : Nat) : (s.setPeriod p).link = s.link := rfl
@[simp] theorem State.setPeriod_inReset (s : State) (p : Nat) : (s.setPeriod p).inReset = s.inReset := rfl
@[simp] theorem State.setPeriod_pending (s : State) (p : Nat) : (s.setPeriod p).pending = s.pending := rfl

/-! ### reloadCountdown -/

@[simp] theorem State.reloadCountdown_tables (s : State) : s.reloadCountdown.tables = s.tables := rfl
@[simp] theorem State.reloadCountdown_port (s : State) : s.reloadCountdown.port = s.port := rfl
@[simp] theorem State.reloadCountdown_tracks (s : State) : s.reloadCountdown.tracks = s.tracks := rfl
@[simp] theorem State.reloadCountdown_freeCells (s : State) : s.reloadCountdown.freeCells = s.freeCells := rfl
@[simp] theorem State.reloadCountdown_seq (s : State) : s.reloadCountdown.seq = s.seq := rfl
@[simp] theorem State.reloadCountdown_clk (s : State) : s.reloadCountdown.clk = { s.clk with countdown := s.clk.period } := rfl
@[simp] theorem State.reloadCountdown_repeats (s : State) : s.reloadCountdown.repeats = s.repeats := rfl
@[simp] theorem State.reloadCountdown_snd (s : State) : s.reloadCountdown.snd = s.snd := rfl
@[simp] theorem State.reloadCountdown_sub (s : State) : s.reloadCountdown.sub = s.sub := rfl
@[simp] theorem State.reloadCountdown_cue (s : State) : s.reloadCountdown.cue = s.cue := rfl
@[simp] theorem State.reloadCountdown_booth (s : State) : s.reloadCountdown.booth = s.booth := rfl
@[simp] theorem State.reloadCountdown_acct (s : State) : s.reloadCountdown.acct = s.acct := rfl
@[simp] theorem State.reloadCountdown_mgmt (s : State) : s.reloadCountdown.mgmt = s.mgmt := rfl
@[simp] theorem State.reloadCountdown_link (s : State) : s.reloadCountdown.link = s.link := rfl
@[simp] theorem State.reloadCountdown_inReset (s : State) : s.reloadCountdown.inReset = s.inReset := rfl
@[simp] theorem State.reloadCountdown_pending (s : State) : s.reloadCountdown.pending = s.pending := rfl

/-! ### clearCursor -/

@[simp] theorem State.clearCursor_tables (s : State) : s.clearCursor.tables = s.tables := rfl
@[simp] theorem State.clearCursor_port (s : State) : s.clearCursor.port = s.port := rfl
@[simp] theorem State.clearCursor_tracks (s : State) : s.clearCursor.tracks = s.tracks := rfl
@[simp] theorem State.clearCursor_freeCells (s : State) : s.clearCursor.freeCells = s.freeCells := rfl
@[simp] theorem State.clearCursor_seq (s : State) : s.clearCursor.seq = s.seq := rfl
@[simp] theorem State.clearCursor_clk (s : State) : s.clearCursor.clk = s.clk := rfl
@[simp] theorem State.clearCursor_repeats (s : State) : s.clearCursor.repeats = s.repeats := rfl
@[simp] theorem State.clearCursor_snd (s : State) : s.clearCursor.snd = s.snd := rfl
@[simp] theorem State.clearCursor_sub (s : State) : s.clearCursor.sub = s.sub := rfl
@[simp] theorem State.clearCursor_cue (s : State) : s.clearCursor.cue = { s.cue with cursor := none } := rfl
@[simp] theorem State.clearCursor_booth (s : State) : s.clearCursor.booth = s.booth := rfl
@[simp] theorem State.clearCursor_acct (s : State) : s.clearCursor.acct = s.acct := rfl
@[simp] theorem State.clearCursor_mgmt (s : State) : s.clearCursor.mgmt = s.mgmt := rfl
@[simp] theorem State.clearCursor_link (s : State) : s.clearCursor.link = s.link := rfl
@[simp] theorem State.clearCursor_inReset (s : State) : s.clearCursor.inReset = s.inReset := rfl
@[simp] theorem State.clearCursor_pending (s : State) : s.clearCursor.pending = s.pending := rfl

/-! ### clearRepeats -/

@[simp] theorem State.clearRepeats_tables (s : State) : s.clearRepeats.tables = s.tables := rfl
@[simp] theorem State.clearRepeats_port (s : State) : s.clearRepeats.port = s.port := rfl
@[simp] theorem State.clearRepeats_tracks (s : State) : s.clearRepeats.tracks = s.tracks := rfl
@[simp] theorem State.clearRepeats_freeCells (s : State) : s.clearRepeats.freeCells = s.freeCells := rfl
@[simp] theorem State.clearRepeats_seq (s : State) : s.clearRepeats.seq = s.seq := rfl
@[simp] theorem State.clearRepeats_clk (s : State) : s.clearRepeats.clk = s.clk := rfl
@[simp] theorem State.clearRepeats_repeats (s : State) : s.clearRepeats.repeats = 0 := rfl
@[simp] theorem State.clearRepeats_snd (s : State) : s.clearRepeats.snd = s.snd := rfl
@[simp] theorem State.clearRepeats_sub (s : State) : s.clearRepeats.sub = s.sub := rfl
@[simp] theorem State.clearRepeats_cue (s : State) : s.clearRepeats.cue = s.cue := rfl
@[simp] theorem State.clearRepeats_booth (s : State) : s.clearRepeats.booth = s.booth := rfl
@[simp] theorem State.clearRepeats_acct (s : State) : s.clearRepeats.acct = s.acct := rfl
@[simp] theorem State.clearRepeats_mgmt (s : State) : s.clearRepeats.mgmt = s.mgmt := rfl
@[simp] theorem State.clearRepeats_link (s : State) : s.clearRepeats.link = s.link := rfl
@[simp] theorem State.clearRepeats_inReset (s : State) : s.clearRepeats.inReset = s.inReset := rfl
@[simp] theorem State.clearRepeats_pending (s : State) : s.clearRepeats.pending = s.pending := rfl

/-! ### updCue -/

@[simp] theorem State.updCue_tables (s : State) (f : CueEngine → CueEngine) : (s.updCue f).tables = s.tables := rfl
@[simp] theorem State.updCue_port (s : State) (f : CueEngine → CueEngine) : (s.updCue f).port = s.port := rfl
@[simp] theorem State.updCue_tracks (s : State) (f : CueEngine → CueEngine) : (s.updCue f).tracks = s.tracks := rfl
@[simp] theorem State.updCue_freeCells (s : State) (f : CueEngine → CueEngine) : (s.updCue f).freeCells = s.freeCells := rfl
@[simp] theorem State.updCue_seq (s : State) (f : CueEngine → CueEngine) : (s.updCue f).seq = s.seq := rfl
@[simp] theorem State.updCue_clk (s : State) (f : CueEngine → CueEngine) : (s.updCue f).clk = s.clk := rfl
@[simp] theorem State.updCue_repeats (s : State) (f : CueEngine → CueEngine) : (s.updCue f).repeats = s.repeats := rfl
@[simp] theorem State.updCue_snd (s : State) (f : CueEngine → CueEngine) : (s.updCue f).snd = s.snd := rfl
@[simp] theorem State.updCue_sub (s : State) (f : CueEngine → CueEngine) : (s.updCue f).sub = s.sub := rfl
@[simp] theorem State.updCue_cue (s : State) (f : CueEngine → CueEngine) : (s.updCue f).cue = f s.cue := rfl
@[simp] theorem State.updCue_booth (s : State) (f : CueEngine → CueEngine) : (s.updCue f).booth = s.booth := rfl
@[simp] theorem State.updCue_acct (s : State) (f : CueEngine → CueEngine) : (s.updCue f).acct = s.acct := rfl
@[simp] theorem State.updCue_mgmt (s : State) (f : CueEngine → CueEngine) : (s.updCue f).mgmt = s.mgmt := rfl
@[simp] theorem State.updCue_link (s : State) (f : CueEngine → CueEngine) : (s.updCue f).link = s.link := rfl
@[simp] theorem State.updCue_inReset (s : State) (f : CueEngine → CueEngine) : (s.updCue f).inReset = s.inReset := rfl
@[simp] theorem State.updCue_pending (s : State) (f : CueEngine → CueEngine) : (s.updCue f).pending = s.pending := rfl

/-! ### updFader -/

@[simp] theorem State.updFader_tables (s : State) (f : Fader → Fader) : (s.updFader f).tables = s.tables := rfl
@[simp] theorem State.updFader_port (s : State) (f : Fader → Fader) : (s.updFader f).port = s.port := rfl
@[simp] theorem State.updFader_tracks (s : State) (f : Fader → Fader) : (s.updFader f).tracks = s.tracks := rfl
@[simp] theorem State.updFader_freeCells (s : State) (f : Fader → Fader) : (s.updFader f).freeCells = s.freeCells := rfl
@[simp] theorem State.updFader_seq (s : State) (f : Fader → Fader) : (s.updFader f).seq = s.seq := rfl
@[simp] theorem State.updFader_clk (s : State) (f : Fader → Fader) : (s.updFader f).clk = s.clk := rfl
@[simp] theorem State.updFader_repeats (s : State) (f : Fader → Fader) : (s.updFader f).repeats = s.repeats := rfl
@[simp] theorem State.updFader_snd (s : State) (f : Fader → Fader) :
    (s.updFader f).snd = { s.snd with fader := f s.snd.fader } := rfl
@[simp] theorem State.updFader_sub (s : State) (f : Fader → Fader) : (s.updFader f).sub = s.sub := rfl
@[simp] theorem State.updFader_cue (s : State) (f : Fader → Fader) : (s.updFader f).cue = s.cue := rfl
@[simp] theorem State.updFader_booth (s : State) (f : Fader → Fader) : (s.updFader f).booth = s.booth := rfl
@[simp] theorem State.updFader_acct (s : State) (f : Fader → Fader) : (s.updFader f).acct = s.acct := rfl
@[simp] theorem State.updFader_mgmt (s : State) (f : Fader → Fader) : (s.updFader f).mgmt = s.mgmt := rfl
@[simp] theorem State.updFader_link (s : State) (f : Fader → Fader) : (s.updFader f).link = s.link := rfl
@[simp] theorem State.updFader_inReset (s : State) (f : Fader → Fader) : (s.updFader f).inReset = s.inReset := rfl
@[simp] theorem State.updFader_pending (s : State) (f : Fader → Fader) : (s.updFader f).pending = s.pending := rfl

/-! ### mapLanes -/

@[simp] theorem State.mapLanes_tables (s : State) (f : Nat → Lane → Lane) : (s.mapLanes f).tables = s.tables := rfl
@[simp] theorem State.mapLanes_port (s : State) (f : Nat → Lane → Lane) : (s.mapLanes f).port = s.port := rfl
@[simp] theorem State.mapLanes_tracks (s : State) (f : Nat → Lane → Lane) : (s.mapLanes f).tracks = s.tracks := rfl
@[simp] theorem State.mapLanes_freeCells (s : State) (f : Nat → Lane → Lane) : (s.mapLanes f).freeCells = s.freeCells := rfl
@[simp] theorem State.mapLanes_seq (s : State) (f : Nat → Lane → Lane) : (s.mapLanes f).seq = s.seq := rfl
@[simp] theorem State.mapLanes_clk (s : State) (f : Nat → Lane → Lane) : (s.mapLanes f).clk = s.clk := rfl
@[simp] theorem State.mapLanes_repeats (s : State) (f : Nat → Lane → Lane) : (s.mapLanes f).repeats = s.repeats := rfl
@[simp] theorem State.mapLanes_snd (s : State) (f : Nat → Lane → Lane) :
    (s.mapLanes f).snd = { s.snd with lanes := s.snd.lanes.mapIdx f } := rfl
@[simp] theorem State.mapLanes_sub (s : State) (f : Nat → Lane → Lane) : (s.mapLanes f).sub = s.sub := rfl
@[simp] theorem State.mapLanes_cue (s : State) (f : Nat → Lane → Lane) : (s.mapLanes f).cue = s.cue := rfl
@[simp] theorem State.mapLanes_booth (s : State) (f : Nat → Lane → Lane) : (s.mapLanes f).booth = s.booth := rfl
@[simp] theorem State.mapLanes_acct (s : State) (f : Nat → Lane → Lane) : (s.mapLanes f).acct = s.acct := rfl
@[simp] theorem State.mapLanes_mgmt (s : State) (f : Nat → Lane → Lane) : (s.mapLanes f).mgmt = s.mgmt := rfl
@[simp] theorem State.mapLanes_link (s : State) (f : Nat → Lane → Lane) : (s.mapLanes f).link = s.link := rfl
@[simp] theorem State.mapLanes_inReset (s : State) (f : Nat → Lane → Lane) : (s.mapLanes f).inReset = s.inReset := rfl
@[simp] theorem State.mapLanes_pending (s : State) (f : Nat → Lane → Lane) : (s.mapLanes f).pending = s.pending := rfl

/-! ### activateMap -/

@[simp] theorem State.activateMap_tables (s : State) (m : Nat) : (s.activateMap m).tables = s.tables := rfl
@[simp] theorem State.activateMap_port (s : State) (m : Nat) : (s.activateMap m).port = s.port := rfl
@[simp] theorem State.activateMap_tracks (s : State) (m : Nat) : (s.activateMap m).tracks = s.tracks := rfl
@[simp] theorem State.activateMap_freeCells (s : State) (m : Nat) : (s.activateMap m).freeCells = s.freeCells := rfl
@[simp] theorem State.activateMap_seq (s : State) (m : Nat) : (s.activateMap m).seq = s.seq := rfl
@[simp] theorem State.activateMap_clk (s : State) (m : Nat) : (s.activateMap m).clk = s.clk := rfl
@[simp] theorem State.activateMap_repeats (s : State) (m : Nat) : (s.activateMap m).repeats = s.repeats := rfl
@[simp] theorem State.activateMap_snd (s : State) (m : Nat) : (s.activateMap m).snd = { s.snd with activeMap := m } := rfl
@[simp] theorem State.activateMap_sub (s : State) (m : Nat) : (s.activateMap m).sub = s.sub := rfl
@[simp] theorem State.activateMap_cue (s : State) (m : Nat) : (s.activateMap m).cue = s.cue := rfl
@[simp] theorem State.activateMap_booth (s : State) (m : Nat) : (s.activateMap m).booth = s.booth := rfl
@[simp] theorem State.activateMap_acct (s : State) (m : Nat) : (s.activateMap m).acct = s.acct := rfl
@[simp] theorem State.activateMap_mgmt (s : State) (m : Nat) : (s.activateMap m).mgmt = s.mgmt := rfl
@[simp] theorem State.activateMap_link (s : State) (m : Nat) : (s.activateMap m).link = s.link := rfl
@[simp] theorem State.activateMap_inReset (s : State) (m : Nat) : (s.activateMap m).inReset = s.inReset := rfl
@[simp] theorem State.activateMap_pending (s : State) (m : Nat) : (s.activateMap m).pending = s.pending := rfl

/-! ### useLicence -/

@[simp] theorem State.useLicence_tables (s : State) (i : Nat) :
    (s.useLicence i).tables = { s.tables with licence := s.tables.licence.modify i fun l => { l with used := l.used + 1 } } := rfl
@[simp] theorem State.useLicence_port (s : State) (i : Nat) : (s.useLicence i).port = s.port := rfl
@[simp] theorem State.useLicence_tracks (s : State) (i : Nat) : (s.useLicence i).tracks = s.tracks := rfl
@[simp] theorem State.useLicence_freeCells (s : State) (i : Nat) : (s.useLicence i).freeCells = s.freeCells := rfl
@[simp] theorem State.useLicence_seq (s : State) (i : Nat) : (s.useLicence i).seq = s.seq := rfl
@[simp] theorem State.useLicence_clk (s : State) (i : Nat) : (s.useLicence i).clk = s.clk := rfl
@[simp] theorem State.useLicence_repeats (s : State) (i : Nat) : (s.useLicence i).repeats = s.repeats := rfl
@[simp] theorem State.useLicence_snd (s : State) (i : Nat) : (s.useLicence i).snd = s.snd := rfl
@[simp] theorem State.useLicence_sub (s : State) (i : Nat) : (s.useLicence i).sub = s.sub := rfl
@[simp] theorem State.useLicence_cue (s : State) (i : Nat) : (s.useLicence i).cue = s.cue := rfl
@[simp] theorem State.useLicence_booth (s : State) (i : Nat) : (s.useLicence i).booth = s.booth := rfl
@[simp] theorem State.useLicence_acct (s : State) (i : Nat) : (s.useLicence i).acct = s.acct := rfl
@[simp] theorem State.useLicence_mgmt (s : State) (i : Nat) : (s.useLicence i).mgmt = s.mgmt := rfl
@[simp] theorem State.useLicence_link (s : State) (i : Nat) : (s.useLicence i).link = s.link := rfl
@[simp] theorem State.useLicence_inReset (s : State) (i : Nat) : (s.useLicence i).inReset = s.inReset := rfl
@[simp] theorem State.useLicence_pending (s : State) (i : Nat) : (s.useLicence i).pending = s.pending := rfl

/-! ### closeRecord -/

@[simp] theorem State.closeRecord_tables (s : State) : s.closeRecord.tables = s.tables := rfl
@[simp] theorem State.closeRecord_port (s : State) : s.closeRecord.port = s.port := rfl
@[simp] theorem State.closeRecord_tracks (s : State) : s.closeRecord.tracks = s.tracks := rfl
@[simp] theorem State.closeRecord_freeCells (s : State) : s.closeRecord.freeCells = s.freeCells := rfl
@[simp] theorem State.closeRecord_seq (s : State) : s.closeRecord.seq = s.seq := rfl
@[simp] theorem State.closeRecord_clk (s : State) : s.closeRecord.clk = s.clk := rfl
@[simp] theorem State.closeRecord_repeats (s : State) : s.closeRecord.repeats = s.repeats := rfl
@[simp] theorem State.closeRecord_snd (s : State) : s.closeRecord.snd = s.snd := rfl
@[simp] theorem State.closeRecord_sub (s : State) : s.closeRecord.sub = s.sub := rfl
@[simp] theorem State.closeRecord_cue (s : State) : s.closeRecord.cue = s.cue := rfl
@[simp] theorem State.closeRecord_booth (s : State) : s.closeRecord.booth = s.booth := rfl
@[simp] theorem State.closeRecord_acct (s : State) :
    s.closeRecord.acct = s.acct.updOpen fun r => { r with outcome := r.closing } := rfl
@[simp] theorem State.closeRecord_mgmt (s : State) : s.closeRecord.mgmt = s.mgmt := rfl
@[simp] theorem State.closeRecord_link (s : State) : s.closeRecord.link = s.link := rfl
@[simp] theorem State.closeRecord_inReset (s : State) : s.closeRecord.inReset = s.inReset := rfl
@[simp] theorem State.closeRecord_pending (s : State) : s.closeRecord.pending = s.pending := rfl

/-! ### setRegion -/

@[simp] theorem State.setRegion_tables (s : State) (r : Nat) (x : Option Shown) : (s.setRegion r x).tables = s.tables := rfl
@[simp] theorem State.setRegion_port (s : State) (r : Nat) (x : Option Shown) : (s.setRegion r x).port = s.port := rfl
@[simp] theorem State.setRegion_tracks (s : State) (r : Nat) (x : Option Shown) : (s.setRegion r x).tracks = s.tracks := rfl
@[simp] theorem State.setRegion_freeCells (s : State) (r : Nat) (x : Option Shown) :
    (s.setRegion r x).freeCells = s.freeCells := rfl
@[simp] theorem State.setRegion_seq (s : State) (r : Nat) (x : Option Shown) : (s.setRegion r x).seq = s.seq := rfl
@[simp] theorem State.setRegion_clk (s : State) (r : Nat) (x : Option Shown) : (s.setRegion r x).clk = s.clk := rfl
@[simp] theorem State.setRegion_repeats (s : State) (r : Nat) (x : Option Shown) : (s.setRegion r x).repeats = s.repeats := rfl
@[simp] theorem State.setRegion_snd (s : State) (r : Nat) (x : Option Shown) : (s.setRegion r x).snd = s.snd := rfl
@[simp] theorem State.setRegion_sub (s : State) (r : Nat) (x : Option Shown) :
    (s.setRegion r x).sub = { s.sub with regions := s.sub.regions.set r x } := rfl
@[simp] theorem State.setRegion_cue (s : State) (r : Nat) (x : Option Shown) : (s.setRegion r x).cue = s.cue := rfl
@[simp] theorem State.setRegion_booth (s : State) (r : Nat) (x : Option Shown) : (s.setRegion r x).booth = s.booth := rfl
@[simp] theorem State.setRegion_acct (s : State) (r : Nat) (x : Option Shown) : (s.setRegion r x).acct = s.acct := rfl
@[simp] theorem State.setRegion_mgmt (s : State) (r : Nat) (x : Option Shown) : (s.setRegion r x).mgmt = s.mgmt := rfl
@[simp] theorem State.setRegion_link (s : State) (r : Nat) (x : Option Shown) : (s.setRegion r x).link = s.link := rfl
@[simp] theorem State.setRegion_inReset (s : State) (r : Nat) (x : Option Shown) : (s.setRegion r x).inReset = s.inReset := rfl
@[simp] theorem State.setRegion_pending (s : State) (r : Nat) (x : Option Shown) : (s.setRegion r x).pending = s.pending := rfl

/-! ### setCueLevel -/

@[simp] theorem State.setCueLevel_tables (s : State) (line : Nat) (level : Level) :
    (s.setCueLevel line level).tables = s.tables := rfl
@[simp] theorem State.setCueLevel_port (s : State) (line : Nat) (level : Level) : (s.setCueLevel line level).port = s.port := rfl
@[simp] theorem State.setCueLevel_tracks (s : State) (line : Nat) (level : Level) :
    (s.setCueLevel line level).tracks = s.tracks := rfl
@[simp] theorem State.setCueLevel_freeCells (s : State) (line : Nat) (level : Level) :
    (s.setCueLevel line level).freeCells = s.freeCells := rfl
@[simp] theorem State.setCueLevel_seq (s : State) (line : Nat) (level : Level) : (s.setCueLevel line level).seq = s.seq := rfl
@[simp] theorem State.setCueLevel_clk (s : State) (line : Nat) (level : Level) : (s.setCueLevel line level).clk = s.clk := rfl
@[simp] theorem State.setCueLevel_repeats (s : State) (line : Nat) (level : Level) :
    (s.setCueLevel line level).repeats = s.repeats := rfl
@[simp] theorem State.setCueLevel_snd (s : State) (line : Nat) (level : Level) : (s.setCueLevel line level).snd = s.snd := rfl
@[simp] theorem State.setCueLevel_sub (s : State) (line : Nat) (level : Level) : (s.setCueLevel line level).sub = s.sub := rfl
@[simp] theorem State.setCueLevel_cue (s : State) (line : Nat) (level : Level) : (s.setCueLevel line level).cue = s.cue := rfl
@[simp] theorem State.setCueLevel_booth (s : State) (line : Nat) (level : Level) :
    (s.setCueLevel line level).booth = { s.booth with cueLevels := s.booth.cueLevels.set line level } := rfl
@[simp] theorem State.setCueLevel_acct (s : State) (line : Nat) (level : Level) : (s.setCueLevel line level).acct = s.acct := rfl
@[simp] theorem State.setCueLevel_mgmt (s : State) (line : Nat) (level : Level) : (s.setCueLevel line level).mgmt = s.mgmt := rfl
@[simp] theorem State.setCueLevel_link (s : State) (line : Nat) (level : Level) : (s.setCueLevel line level).link = s.link := rfl
@[simp] theorem State.setCueLevel_inReset (s : State) (line : Nat) (level : Level) :
    (s.setCueLevel line level).inReset = s.inReset := rfl
@[simp] theorem State.setCueLevel_pending (s : State) (line : Nat) (level : Level) :
    (s.setCueLevel line level).pending = s.pending := rfl

/-! ### setGenerators -/

@[simp] theorem State.setGenerators_tables (s : State) (l : List Generator) : (s.setGenerators l).tables = s.tables := rfl
@[simp] theorem State.setGenerators_port (s : State) (l : List Generator) : (s.setGenerators l).port = s.port := rfl
@[simp] theorem State.setGenerators_tracks (s : State) (l : List Generator) : (s.setGenerators l).tracks = s.tracks := rfl
@[simp] theorem State.setGenerators_freeCells (s : State) (l : List Generator) :
    (s.setGenerators l).freeCells = s.freeCells := rfl
@[simp] theorem State.setGenerators_seq (s : State) (l : List Generator) : (s.setGenerators l).seq = s.seq := rfl
@[simp] theorem State.setGenerators_clk (s : State) (l : List Generator) : (s.setGenerators l).clk = s.clk := rfl
@[simp] theorem State.setGenerators_repeats (s : State) (l : List Generator) : (s.setGenerators l).repeats = s.repeats := rfl
@[simp] theorem State.setGenerators_snd (s : State) (l : List Generator) : (s.setGenerators l).snd = s.snd := rfl
@[simp] theorem State.setGenerators_sub (s : State) (l : List Generator) : (s.setGenerators l).sub = s.sub := rfl
@[simp] theorem State.setGenerators_cue (s : State) (l : List Generator) : (s.setGenerators l).cue = s.cue := rfl
@[simp] theorem State.setGenerators_booth (s : State) (l : List Generator) :
    (s.setGenerators l).booth = { s.booth with generators := l } := rfl
@[simp] theorem State.setGenerators_acct (s : State) (l : List Generator) : (s.setGenerators l).acct = s.acct := rfl
@[simp] theorem State.setGenerators_mgmt (s : State) (l : List Generator) : (s.setGenerators l).mgmt = s.mgmt := rfl
@[simp] theorem State.setGenerators_link (s : State) (l : List Generator) : (s.setGenerators l).link = s.link := rfl
@[simp] theorem State.setGenerators_inReset (s : State) (l : List Generator) : (s.setGenerators l).inReset = s.inReset := rfl
@[simp] theorem State.setGenerators_pending (s : State) (l : List Generator) : (s.setGenerators l).pending = s.pending := rfl

/-! ### updInput -/

@[simp] theorem State.updInput_tables (s : State) (i : Nat) (f : Input → Input) : (s.updInput i f).tables = s.tables := rfl
@[simp] theorem State.updInput_port (s : State) (i : Nat) (f : Input → Input) : (s.updInput i f).port = s.port := rfl
@[simp] theorem State.updInput_tracks (s : State) (i : Nat) (f : Input → Input) : (s.updInput i f).tracks = s.tracks := rfl
@[simp] theorem State.updInput_freeCells (s : State) (i : Nat) (f : Input → Input) :
    (s.updInput i f).freeCells = s.freeCells := rfl
@[simp] theorem State.updInput_seq (s : State) (i : Nat) (f : Input → Input) : (s.updInput i f).seq = s.seq := rfl
@[simp] theorem State.updInput_clk (s : State) (i : Nat) (f : Input → Input) : (s.updInput i f).clk = s.clk := rfl
@[simp] theorem State.updInput_repeats (s : State) (i : Nat) (f : Input → Input) : (s.updInput i f).repeats = s.repeats := rfl
@[simp] theorem State.updInput_snd (s : State) (i : Nat) (f : Input → Input) : (s.updInput i f).snd = s.snd := rfl
@[simp] theorem State.updInput_sub (s : State) (i : Nat) (f : Input → Input) : (s.updInput i f).sub = s.sub := rfl
@[simp] theorem State.updInput_cue (s : State) (i : Nat) (f : Input → Input) : (s.updInput i f).cue = s.cue := rfl
@[simp] theorem State.updInput_booth (s : State) (i : Nat) (f : Input → Input) :
    (s.updInput i f).booth = { s.booth with inputs := s.booth.inputs.modify i f } := rfl
@[simp] theorem State.updInput_acct (s : State) (i : Nat) (f : Input → Input) : (s.updInput i f).acct = s.acct := rfl
@[simp] theorem State.updInput_mgmt (s : State) (i : Nat) (f : Input → Input) : (s.updInput i f).mgmt = s.mgmt := rfl
@[simp] theorem State.updInput_link (s : State) (i : Nat) (f : Input → Input) : (s.updInput i f).link = s.link := rfl
@[simp] theorem State.updInput_inReset (s : State) (i : Nat) (f : Input → Input) : (s.updInput i f).inReset = s.inReset := rfl
@[simp] theorem State.updInput_pending (s : State) (i : Nat) (f : Input → Input) : (s.updInput i f).pending = s.pending := rfl

/-! ### updPort -/

@[simp] theorem State.updPort_tables (s : State) (f : Port → Port) : (s.updPort f).tables = s.tables := rfl
@[simp] theorem State.updPort_port (s : State) (f : Port → Port) : (s.updPort f).port = f s.port := rfl
@[simp] theorem State.updPort_tracks (s : State) (f : Port → Port) : (s.updPort f).tracks = s.tracks := rfl
@[simp] theorem State.updPort_freeCells (s : State) (f : Port → Port) : (s.updPort f).freeCells = s.freeCells := rfl
@[simp] theorem State.updPort_seq (s : State) (f : Port → Port) : (s.updPort f).seq = s.seq := rfl
@[simp] theorem State.updPort_clk (s : State) (f : Port → Port) : (s.updPort f).clk = s.clk := rfl
@[simp] theorem State.updPort_repeats (s : State) (f : Port → Port) : (s.updPort f).repeats = s.repeats := rfl
@[simp] theorem State.updPort_snd (s : State) (f : Port → Port) : (s.updPort f).snd = s.snd := rfl
@[simp] theorem State.updPort_sub (s : State) (f : Port → Port) : (s.updPort f).sub = s.sub := rfl
@[simp] theorem State.updPort_cue (s : State) (f : Port → Port) : (s.updPort f).cue = s.cue := rfl
@[simp] theorem State.updPort_booth (s : State) (f : Port → Port) : (s.updPort f).booth = s.booth := rfl
@[simp] theorem State.updPort_acct (s : State) (f : Port → Port) : (s.updPort f).acct = s.acct := rfl
@[simp] theorem State.updPort_mgmt (s : State) (f : Port → Port) : (s.updPort f).mgmt = s.mgmt := rfl
@[simp] theorem State.updPort_link (s : State) (f : Port → Port) : (s.updPort f).link = s.link := rfl
@[simp] theorem State.updPort_inReset (s : State) (f : Port → Port) : (s.updPort f).inReset = s.inReset := rfl
@[simp] theorem State.updPort_pending (s : State) (f : Port → Port) : (s.updPort f).pending = s.pending := rfl

/-! ### setReserved -/

@[simp] theorem State.setReserved_tables (s : State) (b : Bool) : (s.setReserved b).tables = s.tables := rfl
@[simp] theorem State.setReserved_port (s : State) (b : Bool) : (s.setReserved b).port = s.port := rfl
@[simp] theorem State.setReserved_tracks (s : State) (b : Bool) : (s.setReserved b).tracks = s.tracks := rfl
@[simp] theorem State.setReserved_freeCells (s : State) (b : Bool) : (s.setReserved b).freeCells = s.freeCells := rfl
@[simp] theorem State.setReserved_seq (s : State) (b : Bool) : (s.setReserved b).seq = s.seq := rfl
@[simp] theorem State.setReserved_clk (s : State) (b : Bool) : (s.setReserved b).clk = s.clk := rfl
@[simp] theorem State.setReserved_repeats (s : State) (b : Bool) : (s.setReserved b).repeats = s.repeats := rfl
@[simp] theorem State.setReserved_snd (s : State) (b : Bool) : (s.setReserved b).snd = s.snd := rfl
@[simp] theorem State.setReserved_sub (s : State) (b : Bool) : (s.setReserved b).sub = s.sub := rfl
@[simp] theorem State.setReserved_cue (s : State) (b : Bool) : (s.setReserved b).cue = s.cue := rfl
@[simp] theorem State.setReserved_booth (s : State) (b : Bool) : (s.setReserved b).booth = s.booth := rfl
@[simp] theorem State.setReserved_acct (s : State) (b : Bool) : (s.setReserved b).acct = s.acct := rfl
@[simp] theorem State.setReserved_mgmt (s : State) (b : Bool) : (s.setReserved b).mgmt = { s.mgmt with reserved := b } := rfl
@[simp] theorem State.setReserved_link (s : State) (b : Bool) : (s.setReserved b).link = s.link := rfl
@[simp] theorem State.setReserved_inReset (s : State) (b : Bool) : (s.setReserved b).inReset = s.inReset := rfl
@[simp] theorem State.setReserved_pending (s : State) (b : Bool) : (s.setReserved b).pending = s.pending := rfl

/-! ### queueReply -/

@[simp] theorem State.queueReply_tables (s : State) (p : Bytes) : (s.queueReply p).tables = s.tables := rfl
@[simp] theorem State.queueReply_port (s : State) (p : Bytes) : (s.queueReply p).port = s.port := rfl
@[simp] theorem State.queueReply_tracks (s : State) (p : Bytes) : (s.queueReply p).tracks = s.tracks := rfl
@[simp] theorem State.queueReply_freeCells (s : State) (p : Bytes) : (s.queueReply p).freeCells = s.freeCells := rfl
@[simp] theorem State.queueReply_seq (s : State) (p : Bytes) : (s.queueReply p).seq = s.seq := rfl
@[simp] theorem State.queueReply_clk (s : State) (p : Bytes) : (s.queueReply p).clk = s.clk := rfl
@[simp] theorem State.queueReply_repeats (s : State) (p : Bytes) : (s.queueReply p).repeats = s.repeats := rfl
@[simp] theorem State.queueReply_snd (s : State) (p : Bytes) : (s.queueReply p).snd = s.snd := rfl
@[simp] theorem State.queueReply_sub (s : State) (p : Bytes) : (s.queueReply p).sub = s.sub := rfl
@[simp] theorem State.queueReply_cue (s : State) (p : Bytes) : (s.queueReply p).cue = s.cue := rfl
@[simp] theorem State.queueReply_booth (s : State) (p : Bytes) : (s.queueReply p).booth = s.booth := rfl
@[simp] theorem State.queueReply_acct (s : State) (p : Bytes) : (s.queueReply p).acct = s.acct := rfl
@[simp] theorem State.queueReply_mgmt (s : State) (p : Bytes) :
    (s.queueReply p).mgmt = { s.mgmt with reserved := false, slots := s.mgmt.slots ++ [⟨.reply, p⟩] } := rfl
@[simp] theorem State.queueReply_link (s : State) (p : Bytes) : (s.queueReply p).link = s.link := rfl
@[simp] theorem State.queueReply_inReset (s : State) (p : Bytes) : (s.queueReply p).inReset = s.inReset := rfl
@[simp] theorem State.queueReply_pending (s : State) (p : Bytes) : (s.queueReply p).pending = s.pending := rfl

/-! ### eventReport -/

@[simp] theorem State.eventReport_tables (s : State) : s.eventReport.tables = s.tables := rfl
@[simp] theorem State.eventReport_port (s : State) : s.eventReport.port = s.port := rfl
@[simp] theorem State.eventReport_tracks (s : State) : s.eventReport.tracks = s.tracks := rfl
@[simp] theorem State.eventReport_freeCells (s : State) : s.eventReport.freeCells = s.freeCells := rfl
@[simp] theorem State.eventReport_seq (s : State) : s.eventReport.seq = s.seq := rfl
@[simp] theorem State.eventReport_clk (s : State) : s.eventReport.clk = s.clk := rfl
@[simp] theorem State.eventReport_repeats (s : State) : s.eventReport.repeats = s.repeats := rfl
@[simp] theorem State.eventReport_snd (s : State) : s.eventReport.snd = s.snd := rfl
@[simp] theorem State.eventReport_sub (s : State) : s.eventReport.sub = s.sub := rfl
@[simp] theorem State.eventReport_cue (s : State) : s.eventReport.cue = s.cue := rfl
@[simp] theorem State.eventReport_booth (s : State) : s.eventReport.booth = s.booth := rfl
@[simp] theorem State.eventReport_acct (s : State) : s.eventReport.acct = s.acct := rfl
@[simp] theorem State.eventReport_mgmt (s : State) : s.eventReport.mgmt = { s.mgmt with eventSlot := some s.eventPayload } := rfl
@[simp] theorem State.eventReport_link (s : State) : s.eventReport.link = s.link := rfl
@[simp] theorem State.eventReport_inReset (s : State) : s.eventReport.inReset = s.inReset := rfl
@[simp] theorem State.eventReport_pending (s : State) : s.eventReport.pending = s.pending := rfl

/-! ### flowReport -/

@[simp] theorem State.flowReport_tables (s : State) : s.flowReport.tables = s.tables := rfl
@[simp] theorem State.flowReport_port (s : State) : s.flowReport.port = s.port := rfl
@[simp] theorem State.flowReport_tracks (s : State) : s.flowReport.tracks = s.tracks := rfl
@[simp] theorem State.flowReport_freeCells (s : State) : s.flowReport.freeCells = s.freeCells := rfl
@[simp] theorem State.flowReport_seq (s : State) : s.flowReport.seq = s.seq := rfl
@[simp] theorem State.flowReport_clk (s : State) : s.flowReport.clk = s.clk := rfl
@[simp] theorem State.flowReport_repeats (s : State) : s.flowReport.repeats = s.repeats := rfl
@[simp] theorem State.flowReport_snd (s : State) : s.flowReport.snd = s.snd := rfl
@[simp] theorem State.flowReport_sub (s : State) : s.flowReport.sub = s.sub := rfl
@[simp] theorem State.flowReport_cue (s : State) : s.flowReport.cue = s.cue := rfl
@[simp] theorem State.flowReport_booth (s : State) : s.flowReport.booth = s.booth := rfl
@[simp] theorem State.flowReport_acct (s : State) : s.flowReport.acct = s.acct := rfl
@[simp] theorem State.flowReport_mgmt (s : State) : s.flowReport.mgmt = { s.mgmt with
      slots := if s.mgmt.slotsTaken < Config.replyFlowSlots then s.mgmt.slots ++ [⟨.flow, s.flowPayload⟩] else s.mgmt.slots
      flowCount := 0 } := rfl
@[simp] theorem State.flowReport_link (s : State) : s.flowReport.link = s.link := rfl
@[simp] theorem State.flowReport_inReset (s : State) : s.flowReport.inReset = s.inReset := rfl
@[simp] theorem State.flowReport_pending (s : State) : s.flowReport.pending = s.pending := rfl

end Sys2Proof.Machine
end

