-- ==== Sys2Proof/Laws/Flags.lean ====
section
/-! SUPPORT. What raising a flag, reporting a change of show state and the arbiter can do: they touch the management block alone. -/

namespace Sys2Proof.Machine

/-! ### Sets of flags -/

@[simp] theorem flagSet_withFlag (m : BitVec 17) (f g : Flag) : flagSet (withFlag m f) g = (flagSet m g || decide (g = f)) := by
  cases f <;> cases g <;> simp [flagSet, withFlag, Flag.bit]

theorem withFlag_of_set {m : BitVec 17} {f : Flag} (h : flagSet m f = true) : withFlag m f = m := by
  apply BitVec.eq_of_getLsbD_eq
  intro i hi
  simp only [withFlag, BitVec.getLsbD_or, BitVec.getLsbD_shiftLeft]
  by_cases e : i = f.bit
  · subst e; simp [flagSet] at h; simp [h]
  · have : (1#17).getLsbD (i - f.bit) = false ∨ i < f.bit := by
      by_cases l : i < f.bit
      · exact .inr l
      · left
        have : i - f.bit ≠ 0 := by omega
        simp [this]
    rcases this with h' | h' <;> simp [h']

/-! ### raise -/

theorem State.raise_eq (s : State) (f : Flag) : s.raise f = { s with mgmt := (s.raise f).mgmt } := by
  unfold State.raise; split
  · rfl
  · dsimp only; split <;> rfl

@[simp] theorem State.raise_tables (s : State) (f : Flag) : (s.raise f).tables = s.tables := by rw [State.raise_eq]
@[simp] theorem State.raise_port (s : State) (f : Flag) : (s.raise f).port = s.port := by rw [State.raise_eq]
@[simp] theorem State.raise_tracks (s : State) (f : Flag) : (s.raise f).tracks = s.tracks := by rw [State.raise_eq]
@[simp] theorem State.raise_freeCells (s : State) (f : Flag) : (s.raise f).freeCells = s.freeCells := by rw [State.raise_eq]
@[simp] theorem State.raise_seq (s : State) (f : Flag) : (s.raise f).seq = s.seq := by rw [State.raise_eq]
@[simp] theorem State.raise_clk (s : State) (f : Flag) : (s.raise f).clk = s.clk := by rw [State.raise_eq]
@[simp] theorem State.raise_repeats (s : State) (f : Flag) : (s.raise f).repeats = s.repeats := by rw [State.raise_eq]
@[simp] theorem State.raise_snd (s : State) (f : Flag) : (s.raise f).snd = s.snd := by rw [State.raise_eq]
@[simp] theorem State.raise_sub (s : State) (f : Flag) : (s.raise f).sub = s.sub := by rw [State.raise_eq]
@[simp] theorem State.raise_cue (s : State) (f : Flag) : (s.raise f).cue = s.cue := by rw [State.raise_eq]
@[simp] theorem State.raise_booth (s : State) (f : Flag) : (s.raise f).booth = s.booth := by rw [State.raise_eq]
@[simp] theorem State.raise_acct (s : State) (f : Flag) : (s.raise f).acct = s.acct := by rw [State.raise_eq]
@[simp] theorem State.raise_link (s : State) (f : Flag) : (s.raise f).link = s.link := by rw [State.raise_eq]
@[simp] theorem State.raise_inReset (s : State) (f : Flag) : (s.raise f).inReset = s.inReset := by rw [State.raise_eq]
@[simp] theorem State.raise_pending (s : State) (f : Flag) : (s.raise f).pending = s.pending := by rw [State.raise_eq]

@[simp] theorem State.raise_flags (s : State) (f : Flag) : (s.raise f).mgmt.flags = withFlag s.mgmt.flags f := by
  unfold State.raise; split
  · rename_i h; exact (withFlag_of_set h).symm
  · dsimp only; split <;> rfl

@[simp] theorem State.raise_requests' (s : State) (f : Flag) : (s.raise f).mgmt.requests = s.mgmt.requests := by
  unfold State.raise; split
  · rfl
  · dsimp only; split <;> rfl

@[simp] theorem State.raise_enables' (s : State) (f : Flag) : (s.raise f).mgmt.enables = s.mgmt.enables := by
  unfold State.raise; split
  · rfl
  · dsimp only; split <;> rfl

@[simp] theorem State.raise_flowCount' (s : State) (f : Flag) : (s.raise f).mgmt.flowCount = s.mgmt.flowCount := by
  unfold State.raise; split
  · rfl
  · dsimp only; split <;> rfl

@[simp] theorem State.raise_slots' (s : State) (f : Flag) : (s.raise f).mgmt.slots = s.mgmt.slots := by
  unfold State.raise; split
  · rfl
  · dsimp only; split <;> rfl

@[simp] theorem State.raise_reserved' (s : State) (f : Flag) : (s.raise f).mgmt.reserved = s.mgmt.reserved := by
  unfold State.raise; split
  · rfl
  · dsimp only; split <;> rfl

@[simp] theorem State.raise_lane' (s : State) (f : Flag) : (s.raise f).mgmt.lane = s.mgmt.lane := by
  unfold State.raise; split
  · rfl
  · dsimp only; split <;> rfl

/-! ### reportChange -/

theorem State.reportChange_eq (s : State) (q : ShowState) : s.reportChange q = { s with mgmt := (s.reportChange q).mgmt } := by
  unfold State.reportChange; split
  · rfl
  · rw [State.raise_eq]; rfl

theorem State.reportChange_same {s : State} {q : ShowState} (h : s.seq.state = q) : s.reportChange q = s := by
  simp [State.reportChange, h]

@[simp] theorem State.reportChange_tables (s : State) (q : ShowState) : (s.reportChange q).tables = s.tables := by rw [State.reportChange_eq]
@[simp] theorem State.reportChange_port (s : State) (q : ShowState) : (s.reportChange q).port = s.port := by rw [State.reportChange_eq]
@[simp] theorem State.reportChange_tracks (s : State) (q : ShowState) : (s.reportChange q).tracks = s.tracks := by rw [State.reportChange_eq]
@[simp] theorem State.reportChange_freeCells (s : State) (q : ShowState) : (s.reportChange q).freeCells = s.freeCells := by rw [State.reportChange_eq]
@[simp] theorem State.reportChange_seq (s : State) (q : ShowState) : (s.reportChange q).seq = s.seq := by rw [State.reportChange_eq]
@[simp] theorem State.reportChange_clk (s : State) (q : ShowState) : (s.reportChange q).clk = s.clk := by rw [State.reportChange_eq]
@[simp] theorem State.reportChange_repeats (s : State) (q : ShowState) : (s.reportChange q).repeats = s.repeats := by rw [State.reportChange_eq]
@[simp] theorem State.reportChange_snd (s : State) (q : ShowState) : (s.reportChange q).snd = s.snd := by rw [State.reportChange_eq]
@[simp] theorem State.reportChange_sub (s : State) (q : ShowState) : (s.reportChange q).sub = s.sub := by rw [State.reportChange_eq]
@[simp] theorem State.reportChange_cue (s : State) (q : ShowState) : (s.reportChange q).cue = s.cue := by rw [State.reportChange_eq]
@[simp] theorem State.reportChange_booth (s : State) (q : ShowState) : (s.reportChange q).booth = s.booth := by rw [State.reportChange_eq]
@[simp] theorem State.reportChange_acct (s : State) (q : ShowState) : (s.reportChange q).acct = s.acct := by rw [State.reportChange_eq]
@[simp] theorem State.reportChange_link (s : State) (q : ShowState) : (s.reportChange q).link = s.link := by rw [State.reportChange_eq]
@[simp] theorem State.reportChange_inReset (s : State) (q : ShowState) : (s.reportChange q).inReset = s.inReset := by rw [State.reportChange_eq]
@[simp] theorem State.reportChange_pending (s : State) (q : ShowState) : (s.reportChange q).pending = s.pending := by rw [State.reportChange_eq]

@[simp] theorem State.reportChange_flags (s : State) (q : ShowState) :
    (s.reportChange q).mgmt.flags = if s.seq.state = q then s.mgmt.flags else withFlag s.mgmt.flags .showState := by
  unfold State.reportChange; split <;> simp

/-! ### arbitrate -/

theorem State.arbitrate_eq (s : State) : s.arbitrate = { s with mgmt := s.arbitrate.mgmt } := by
  unfold State.arbitrate; split
  · rfl
  · split <;> rfl

@[simp] theorem State.arbitrate_tables (s : State) : s.arbitrate.tables = s.tables := by rw [State.arbitrate_eq]
@[simp] theorem State.arbitrate_port (s : State) : s.arbitrate.port = s.port := by rw [State.arbitrate_eq]
@[simp] theorem State.arbitrate_tracks (s : State) : s.arbitrate.tracks = s.tracks := by rw [State.arbitrate_eq]
@[simp] theorem State.arbitrate_freeCells (s : State) : s.arbitrate.freeCells = s.freeCells := by rw [State.arbitrate_eq]
@[simp] theorem State.arbitrate_seq (s : State) : s.arbitrate.seq = s.seq := by rw [State.arbitrate_eq]
@[simp] theorem State.arbitrate_clk (s : State) : s.arbitrate.clk = s.clk := by rw [State.arbitrate_eq]
@[simp] theorem State.arbitrate_repeats (s : State) : s.arbitrate.repeats = s.repeats := by rw [State.arbitrate_eq]
@[simp] theorem State.arbitrate_snd (s : State) : s.arbitrate.snd = s.snd := by rw [State.arbitrate_eq]
@[simp] theorem State.arbitrate_sub (s : State) : s.arbitrate.sub = s.sub := by rw [State.arbitrate_eq]
@[simp] theorem State.arbitrate_cue (s : State) : s.arbitrate.cue = s.cue := by rw [State.arbitrate_eq]
@[simp] theorem State.arbitrate_booth (s : State) : s.arbitrate.booth = s.booth := by rw [State.arbitrate_eq]
@[simp] theorem State.arbitrate_acct (s : State) : s.arbitrate.acct = s.acct := by rw [State.arbitrate_eq]
@[simp] theorem State.arbitrate_link (s : State) : s.arbitrate.link = s.link := by rw [State.arbitrate_eq]
@[simp] theorem State.arbitrate_inReset (s : State) : s.arbitrate.inReset = s.inReset := by rw [State.arbitrate_eq]
@[simp] theorem State.arbitrate_pending (s : State) : s.arbitrate.pending = s.pending := by rw [State.arbitrate_eq]
@[simp] theorem State.arbitrate_requests' (s : State) : s.arbitrate.mgmt.requests = s.mgmt.requests := by
  unfold State.arbitrate; split
  · rfl
  · split <;> rfl

@[simp] theorem State.arbitrate_flags' (s : State) : s.arbitrate.mgmt.flags = s.mgmt.flags := by
  unfold State.arbitrate; split
  · rfl
  · split <;> rfl

@[simp] theorem State.arbitrate_enables' (s : State) : s.arbitrate.mgmt.enables = s.mgmt.enables := by
  unfold State.arbitrate; split
  · rfl
  · split <;> rfl

@[simp] theorem State.arbitrate_flowCount' (s : State) : s.arbitrate.mgmt.flowCount = s.mgmt.flowCount := by
  unfold State.arbitrate; split
  · rfl
  · split <;> rfl

@[simp] theorem State.arbitrate_reserved' (s : State) : s.arbitrate.mgmt.reserved = s.mgmt.reserved := by
  unfold State.arbitrate; split
  · rfl
  · split <;> rfl


/-- The arbiter leaves a part alone whose lane is busy or whose upstream queue is empty. -/
theorem State.arbitrate_of_idle {s : State} (h : s.mgmt.lane = none → s.mgmt.slots = [] ∧ s.mgmt.eventSlot = none) :
    s.arbitrate = s := by
  unfold State.arbitrate; split
  · rfl
  · rename_i hl
    obtain ⟨h1, h2⟩ := h hl
    simp [Mgmt.choose, h1, h2]

/-! ### event and run -/

@[simp] theorem run_running {work : State → State} {s : State} (h : s.inReset = false) : run work s = .next (work s) := by
  simp [run, h]

@[simp] theorem run_held {work : State → State} {s : State} (h : s.inReset = true) : run work s = .next s := by simp [run, h]

/-- An event whose work leaves the show state and the management block as they were is its work. -/
theorem event_quiet {work : State → State} {s : State} (h : (work s).seq.state = s.seq.state) (hm : (work s).mgmt = s.mgmt)
    (hi : s.mgmt.lane = none → s.mgmt.slots = [] ∧ s.mgmt.eventSlot = none) : event work s = work s := by
  unfold event
  rw [State.reportChange_same h, State.arbitrate_of_idle (by rw [hm]; exact hi)]

theorem event_seq (work : State → State) (s : State) : (event work s).seq = (work s).seq := by simp [event]

theorem event_flags (work : State → State) (s : State) : (event work s).mgmt.flags =
    if (work s).seq.state = s.seq.state then (work s).mgmt.flags else withFlag (work s).mgmt.flags .showState := by
  simp [event]

end Sys2Proof.Machine
end

