-- ==== Sys2Proof/Laws/Account.lean ====
section
/-! SUPPORT. The showing log: what a record that joins it leaves, and what the open record's changes leave. -/

namespace Sys2Proof.Machine

/-- A record joins the log (R161): it is the newest, numbered with the next number, before the records the log had, of which the
oldest leaves a full log, counted as a drop. Beside accounting only the management block may change, by LOG_WRAP. -/
theorem State.joinLog_spec (s : State) (r : Record) (h : s.acct.log.length ≤ Config.logRecords) :
    s.joinLog r = { s with acct := (s.joinLog r).acct, mgmt := (s.joinLog r).mgmt } ∧
    (s.joinLog r).acct =
      { s.acct with
        log := ({ r with number := s.acct.nextNumber } :: s.acct.log).take Config.logRecords
        nextNumber := nextNumber s.acct.nextNumber
        drops := if s.acct.log.length < Config.logRecords then s.acct.drops else satInc s.acct.drops } ∧
    (s.joinLog r).mgmt.flags =
      if s.acct.log.length < Config.logRecords then s.mgmt.flags else withFlag s.mgmt.flags .logWrap := by
  by_cases hl : s.acct.log.length < Config.logRecords
  · have ht : ({ r with number := s.acct.nextNumber } :: s.acct.log).take Config.logRecords =
        { r with number := s.acct.nextNumber } :: s.acct.log := List.take_of_length_le (by simpa using hl)
    simp [State.joinLog, hl, ht]
  · have e : s.acct.log.length = Config.logRecords := Nat.le_antisymm h (Nat.le_of_not_lt hl)
    simp only [State.joinLog, hl, if_false, State.raise_acct, State.raise_tables, State.raise_port, State.raise_tracks,
      State.raise_freeCells, State.raise_seq, State.raise_clk, State.raise_repeats, State.raise_snd, State.raise_sub,
      State.raise_cue, State.raise_booth, State.raise_link, State.raise_inReset, State.raise_pending, State.raise_flags]
    exact ⟨trivial, by simp [Config.logRecords, List.take_succ_cons], trivial⟩

/-- With an open record, its change is the change of the newest record. -/
theorem Accounting.updOpen_some {a : Accounting} {r : Record} (h : a.openRecord? = some r) (f : Record → Record) :
    a.updOpen f = { a with log := f r :: a.log.tail } := by
  unfold Accounting.openRecord? at h
  unfold Accounting.updOpen
  split at h
  · rename_i x rest hl
    split at h
    · cases h; simp_all
    · cases h
  · cases h

/-- Without an open record nothing changes. -/
theorem Accounting.updOpen_none {a : Accounting} (h : a.openRecord? = none) (f : Record → Record) : a.updOpen f = a := by
  unfold Accounting.openRecord? at h
  unfold Accounting.updOpen
  cases hl : a.log with
  | nil => rfl
  | cons x rest =>
    rw [hl] at h
    have : ¬ x.outcome = .opened := fun e => by simp [e] at h
    simp [this]

/-- The record that closes keeps its place, with the outcome of R165. -/
theorem State.closeRecord_some {s : State} {r : Record} (h : s.acct.openRecord? = some r) :
    s.closeRecord = { s with acct := { s.acct with log := { r with outcome := r.closing } :: s.acct.log.tail } } := by
  rw [State.closeRecord, Accounting.updOpen_some h]

theorem State.closeRecord_none {s : State} (h : s.acct.openRecord? = none) : s.closeRecord = s := by
  rw [State.closeRecord, Accounting.updOpen_none h]

end Sys2Proof.Machine
end

