-- ==== Sys2Proof/Laws/Bytes.lean ====
section
/-! SUPPORT. Fields of bytes: their lengths, and that a field and its number read back from each other; and
the stored cue entry. -/

namespace Sys2Proof.Machine

@[simp] theorem be_length (k n : Nat) : (be k n).length = k := by
  induction k with
  | zero => rfl
  | succ k ih => simp [be, ih]

theorem beNat_foldl (b : Bytes) (a : Nat) : b.foldl (fun a x => a * 256 + x.toNat) a = a * 256 ^ b.length + beNat b := by
  induction b generalizing a with
  | nil => simp [beNat]
  | cons x b ih =>
    have e : beNat (x :: b) = x.toNat * 256 ^ b.length + beNat b := by
      change b.foldl _ (0 * 256 + x.toNat) = _
      rw [ih, Nat.zero_mul, Nat.zero_add]
    rw [List.foldl_cons, ih, e, List.length_cons]
    ring

@[simp] theorem beNat_nil : beNat [] = 0 := rfl

theorem beNat_cons (x : Byte) (b : Bytes) : beNat (x :: b) = x.toNat * 256 ^ b.length + beNat b := by
  rw [beNat, List.foldl_cons, beNat_foldl]; simp

theorem beNat_append (a b : Bytes) : beNat (a ++ b) = beNat a * 256 ^ b.length + beNat b := by
  rw [beNat, List.foldl_append, ← beNat, beNat_foldl]

theorem beNat_lt (b : Bytes) : beNat b < 256 ^ b.length := by
  induction b with
  | nil => simp
  | cons x b ih =>
    rw [beNat_cons, List.length_cons, pow_succ]
    have := x.isLt
    nlinarith

/-- The number of a written field is the number written, within the field's range. -/
theorem beNat_be (k n : Nat) : beNat (be k n) = n % 256 ^ k := by
  induction k with
  | zero => simp [be, Nat.mod_one]
  | succ k ih =>
    rw [be, beNat_cons, ih, be_length, BitVec.toNat_ofNat, pow_succ 256 k, Nat.mod_mul (x := n) (a := 256 ^ k) (b := 256)]
    ring

/-- A field written from its own number is the field. -/
theorem be_beNat (b : Bytes) : be b.length (beNat b) = b := by
  induction b with
  | nil => rfl
  | cons x b ih =>
    rw [List.length_cons, be, beNat_cons]
    have h := beNat_lt b
    have q : (x.toNat * 256 ^ b.length + beNat b) / 256 ^ b.length = x.toNat := by
      rw [Nat.add_comm, Nat.add_mul_div_right _ _ (Nat.pos_of_ne_zero (by positivity)), Nat.div_eq_of_lt h, Nat.zero_add]
    have high : ∀ k m c, be k (c * 256 ^ k + m) = be k m := by
      intro k
      induction k with
      | zero => intro m c; rfl
      | succ k ih' =>
        intro m c
        rw [be, be, show c * 256 ^ (k + 1) + m = c * 256 * 256 ^ k + m by ring, ih' m (c * 256)]
        congr 1
        rw [Nat.add_comm, Nat.add_mul_div_right _ _ (Nat.pos_of_ne_zero (by positivity))]
        apply BitVec.eq_of_toNat_eq
        simp
    rw [q, high, ih]
    simp

/-- An EMPTY cue is stored as the blank entry, whatever trigger it was written with (R124). -/
@[simp] theorem CueEntry.stored_empty (n : Nat) : CueEntry.stored n .empty = CueEntry.blank := rfl

@[simp] theorem CueEntry.stored_cue (n : Nat) (c : Cue) : (CueEntry.stored n c).cue = c := rfl

theorem CueEntry.stored_trigger {n : Nat} {c : Cue} (h : c ≠ .empty) : (CueEntry.stored n c).trigger = n := if_neg h

end Sys2Proof.Machine
end

