-- ==== Sys2Proof/Laws/Requests.lean ====
section
/-! SUPPORT. What a request does that is executed on arrival: its effects, the report of a change of show state, and one reply. -/

namespace Sys2Proof.Machine

open Sys2Proof.Safety

/-- A request that arrives at an empty queue while a slot is free is executed at once. -/
theorem State.submit_taken {s : State} {r : Request} (h : TakesRequest s) : s.submit r = s.execRequest r := by
  obtain ⟨-, hr, hs⟩ := h
  have e : ({ s with mgmt := { s.mgmt with requests := [] } } : State) = s := by
    rw [← hr]
  simp only [State.submit, hr, Config.inputRequests, List.length_nil, Nat.zero_lt_succ, if_true, List.nil_append, State.serveAll,
    List.length_cons, State.serve, hs, e, Nat.reduceAdd]

theorem request_taken {s : State} {r : Request} (h : TakesRequest s) : request r s = .next (s.execRequest r) := by
  rw [request, run_running h.1, State.submit_taken h]

/-- A request that changes neither the show state nor the management block, once its slot is reserved, leaves the effects of its
work on the state without the reservation, and its reply. -/
theorem State.execRequest_quiet {s t : State} {r : Request} {result : Result} {body : Bytes}
    (hp : (s.setReserved true).perform r = (t.setReserved true, result, body)) (hs : t.seq.state = s.seq.state) :
    s.execRequest r = answered t (replyPayload r result body) := by
  have hq : ∀ p, (t.setReserved true).queueReply p = t.queueReply p := fun p => rfl
  have hc : (t.setReserved true).reportChange s.seq.state = t.setReserved true := State.reportChange_same (by simpa using hs)
  unfold State.execRequest
  simp only [hp, hc, answered]
  split <;> rw [hq]

/-- The reply of a request is on the lane or in its slot when the arbiter has acted. -/
theorem replied_answered (t : State) (p : Bytes) : Replied (answered t p) p := by
  unfold Replied answered State.arbitrate
  split
  · right; simp
  · rename_i hl
    simp only [State.queueReply_mgmt] at hl ⊢
    unfold Mgmt.choose
    dsimp only
    cases hf : (t.mgmt.slots ++ [(⟨.reply, p⟩ : UpParcel)]).find? (fun q => q.kind == .reply) with
    | none => simp at hf
    | some q =>
      dsimp only
      by_cases e : q = ⟨.reply, p⟩
      · left; rw [e]
      · right
        have hq := List.find?_some hf
        rw [List.find?_append] at hf
        cases hg : t.mgmt.slots.find? (fun q => q.kind == .reply) with
        | none => simp [hg] at hf; exact absurd hf.symm e
        | some x =>
          have : t.mgmt.slots.any (fun q => q.kind == .reply) = true := by
            rw [List.any_eq_true]
            exact ⟨x, List.mem_of_find?_eq_some hg, by simpa using List.find?_some hg⟩
          obtain ⟨y, hy, hy'⟩ := List.any_eq_true.mp this
          rw [List.eraseP_append_left (p := fun q : UpParcel => q.kind == .reply) hy' _ hy]
          simp

/-- Every executed request ends as a state with its reply queued and the arbiter's look at the lane (R171, R182). -/
theorem State.execRequest_answered (s : State) (r : Request) : ∃ (t : State) (result : Result) (body : Bytes),
    s.execRequest r = answered t (replyPayload r result body) := by
  unfold State.execRequest
  exact ⟨_, _, _, rfl⟩

/-- The statements' FLOW parcel is the one that the part queues. -/
theorem flowOf_eq (t : State) : flowOf t = ⟨.flow, t.flowPayload⟩ := rfl

/-- The statements' EVENT payload is the one that the part sends. -/
theorem eventOf_eq (t : State) : eventOf t = t.eventPayload := rfl

end Sys2Proof.Machine
end

