-- ==== Sys2Proof/Laws/Sound.lean ====
section
/-! SUPPORT. The sound path's ranges: what the clamp answers, and what one sample takes from a lane. -/

namespace Sys2Proof.Machine

open Sys2Proof.Safety

/-- The clamp answers a 24-bit sample (R88). -/
theorem clamp24_in24 (y : Int) : In24 (clamp24 y) := by unfold In24 clamp24; split <;> [omega; (split <;> omega)]

/-- A 24-bit sample passes the clamp unchanged. -/
theorem clamp24_of_in24 {y : Int} (h : In24 y) : clamp24 y = y := by
  unfold In24 at h; unfold clamp24; rw [if_neg (by omega), if_neg (by omega)]

/-- The clamp is the nearest 24-bit value. -/
theorem clamp24_eq (y : Int) : clamp24 y = max (-8388608) (min 8388607 y) := by unfold clamp24; split <;> [omega; (split <;> omega)]

/-- A term of silence is 0, so a lane's chain over silence is 0 (R90). -/
theorem mixValue_silence (cs : List Contribution) (inputs : List Int) (h : ∀ c, inputs.getD c 0 = 0) : mixValue cs inputs = 0 := by
  have e : (cs.map fun c => c.term inputs) = cs.map fun _ => (0 : Int) := by
    refine List.map_congr_left fun c _ => ?_
    rw [Contribution.term, h]; simp
  rw [mixValue, e]
  simp [scaleBy]

theorem chainValue_silence (r : Recipe) (trim : Nat) (gain : Int) (inputs : List Int) (h : ∀ c, inputs.getD c 0 = 0) :
    chainValue r trim gain inputs = 0 := by
  rw [chainValue, mixValue_silence _ _ h]
  split <;> simp [scaleBy]

/-- The lanes keep their number under a change of lanes. -/
theorem State.mapLanes_length (s : State) (f : Nat → Lane → Lane) : (s.mapLanes f).snd.lanes.length = s.snd.lanes.length := by
  simp [State.mapLanes]

/-- One lane under a change of lanes. -/
theorem State.mapLanes_lane (s : State) (f : Nat → Lane → Lane) (j : Nat) :
    (s.mapLanes f).snd.lanes[j]? = (s.snd.lanes[j]?).map (f j) := by simp [State.mapLanes]

end Sys2Proof.Machine
end

