-- ==== Sys2Proof/Laws/Tracks.lean ====
section
/-! SUPPORT. One track's look-up under each update of a track, and what decides whether a track is scheduled. -/

namespace Sys2Proof.Machine

/-- A track after one track has changed: that track changes, if there is one, and no other. -/
theorem State.track_updTrack (s : State) (t k : Nat) (f : Track → Track) :
    (s.updTrack t f).track k = if k = t ∧ t < s.tracks.length then f (s.track t) else s.track k := by
  simp only [State.track, State.updTrack_tracks, List.getD_eq_getElem?_getD, List.getElem?_modify]
  by_cases h : t = k
  · subst h
    by_cases l : t < s.tracks.length
    · simp [l]
    · simp [l]
  · have h' : ¬ k = t := fun e => h e.symm
    simp [h, h']

theorem State.track_updTrack_same {s : State} {t : Nat} (f : Track → Track) (h : t < s.tracks.length) :
    (s.updTrack t f).track t = f (s.track t) := by rw [State.track_updTrack, if_pos ⟨rfl, h⟩]

theorem State.track_updTrack_other {s : State} {t k : Nat} (f : Track → Track) (h : k ≠ t) :
    (s.updTrack t f).track k = s.track k := by rw [State.track_updTrack, if_neg (fun e => h e.1)]

theorem State.track_count (s : State) (t k : Nat) (f : Counters → Counters) :
    (s.count t f).track k =
      if k = t ∧ t < s.tracks.length then { s.track t with counters := f (s.track t).counters } else s.track k :=
  State.track_updTrack s t k _

theorem State.track_grantCells (s : State) (t n k : Nat) :
    (s.grantCells t n).track k =
      if k = t ∧ t < s.tracks.length then { s.track t with cellsHeld := (s.track t).cellsHeld + n } else s.track k :=
  State.track_updTrack s t k _

theorem State.track_returnCells (s : State) (t n k : Nat) :
    (s.returnCells t n).track k =
      if k = t ∧ t < s.tracks.length then { s.track t with cellsHeld := (s.track t).cellsHeld - n } else s.track k :=
  State.track_updTrack s t k _

theorem State.track_setAssembly (s : State) (t k : Nat) (a : Option Assembly) :
    (s.setAssembly t a).track k =
      if k = t ∧ t < s.tracks.length then { s.track t with assembly := a } else s.track k :=
  State.track_updTrack s t k _

theorem State.track_updWindow (s : State) (t k : Nat) (f : Window → Window) :
    (s.updWindow t f).track k =
      if k = t ∧ t < s.tracks.length then { s.track t with window := (s.track t).window.map f } else s.track k :=
  State.track_updTrack s t k _

/-- A track's look-up depends on the tracks alone. -/
theorem State.track_congr {s u : State} (h : s.tracks = u.tracks) (k : Nat) : s.track k = u.track k := by
  rw [State.track, State.track, h]

/-- Whether a track is scheduled depends on table 1, the show state, the playlist and the position alone (R7). -/
theorem State.scheduled_congr {s u : State} (ht : s.tables = u.tables) (hq : s.seq = u.seq) (t : Nat) :
    s.scheduled t = u.scheduled t := by simp only [State.scheduled, State.trackEntry, ht, hq]

@[simp] theorem State.raise_track (s : State) (f : Flag) (k : Nat) : (s.raise f).track k = s.track k :=
  State.track_congr (State.raise_tracks s f) k

@[simp] theorem State.arbitrate_track (s : State) (k : Nat) : s.arbitrate.track k = s.track k :=
  State.track_congr (State.arbitrate_tracks s) k

@[simp] theorem State.reportChange_track (s : State) (q : ShowState) (k : Nat) : (s.reportChange q).track k = s.track k :=
  State.track_congr (State.reportChange_tracks s q) k

end Sys2Proof.Machine
end

