-- ==== Sys2Proof/Laws/Subtitle.lean ====
section
/-! SUPPORT. The subtitle engine's shared operations: the regions emptied, the items dropped, and a track's items removed, each said
once. -/

namespace Sys2Proof.Machine

/-- Two states that differ in nothing but the cells held, the free cells, the subtitle engine and the projector link. -/
structure OnlySubtitles (s u : State) : Prop where
  rest   : u = { s with tracks := u.tracks, freeCells := u.freeCells, sub := u.sub, link := u.link }
  length : u.tracks.length = s.tracks.length
  tracks : ∀ k, u.track k = { s.track k with cellsHeld := (u.track k).cellsHeld }

theorem OnlySubtitles.refl (s : State) : OnlySubtitles s s := ⟨rfl, rfl, fun _ => rfl⟩

theorem OnlySubtitles.trans {s u v : State} (h : OnlySubtitles s u) (g : OnlySubtitles u v) : OnlySubtitles s v := by
  refine ⟨?_, g.length.trans h.length, fun k => ?_⟩
  · have e := g.rest
    rw [h.rest] at e
    exact e
  · have e := g.tracks k
    rw [h.tracks k] at e
    exact e

/-- A return of cells touches nothing but the cells held and the free cells. -/
theorem State.returnCells_only (s : State) (t n : Nat) : OnlySubtitles s (s.returnCells t n) := by
  refine ⟨rfl, by simp, fun k => ?_⟩
  rw [State.track_returnCells]
  split
  · rename_i h; rw [h.1]
  · rfl

@[simp] theorem State.returnCells_region (s : State) (t n r : Nat) : (s.returnCells t n).region r = s.region r := rfl

/-- The items of a list are removed: their cells return and nothing else changes (R102). -/
theorem State.returnItems_only (s : State) (l : List Item) :
    OnlySubtitles s (s.returnItems l) ∧ (s.returnItems l).sub = s.sub ∧ (s.returnItems l).link = s.link := by
  induction l generalizing s with
  | nil => exact ⟨.refl s, rfl, rfl⟩
  | cons i l ih =>
    obtain ⟨h, hs, hl⟩ := ih (s.returnCells i.track itemCells)
    exact ⟨(s.returnCells_only _ _).trans h, hs, hl⟩

/-- A region after one region has been set. -/
theorem State.region_setRegion (s : State) (r k : Nat) (x : Option Shown) :
    (s.setRegion r x).region k = if k = r ∧ r < s.sub.regions.length then x else s.region k := by
  simp only [State.region, State.setRegion, List.getD_eq_getElem?_getD, List.getElem?_set]
  by_cases h : r = k
  · subst h
    by_cases l : r < s.sub.regions.length
    · simp [l]
    · simp [l]
  · simp [h, Ne.symm h]

/-- A region past the display set holds nothing. -/
theorem State.region_past {s : State} {r : Nat} (h : s.sub.regions.length ≤ r) : s.region r = none := by
  rw [State.region, List.getD_eq_getElem?_getD, List.getElem?_eq_none h]; rfl

/-- One region emptied of an item that meets the test, with its record. -/
theorem State.emptyRegion_spec (test : Item → Bool) (s : State) (r : Nat) :
    OnlySubtitles s (State.emptyRegion test s r) ∧
    (State.emptyRegion test s r).sub = { s.sub with regions := (State.emptyRegion test s r).sub.regions } ∧
    (State.emptyRegion test s r).sub.regions.length = s.sub.regions.length ∧
    (∀ k, (State.emptyRegion test s r).region k =
      if k = r then (s.region k).filter fun x => !test x.item else s.region k) ∧
    (State.emptyRegion test s r).link = s.link ++ if (s.region r).any fun x => test x.item then [.clearRegion r] else [] := by
  unfold State.emptyRegion
  cases h : s.region r with
  | none =>
    refine ⟨.refl s, rfl, rfl, fun k => ?_, by simp⟩
    by_cases e : k = r
    · subst e; simp [h]
    · simp [e]
  | some x =>
    by_cases ht : test x.item = true
    · simp only [ht, if_true]
      have hr : r < s.sub.regions.length := by
        by_contra c
        rw [State.region_past (Nat.le_of_not_lt c)] at h
        cases h
      refine ⟨?_, rfl, by simp [State.setRegion], fun k => ?_, by simp [State.send, State.setRegion, ht]⟩
      · refine OnlySubtitles.trans ?_ (State.returnCells_only _ _ _)
        exact ⟨rfl, rfl, fun _ => rfl⟩
      · have : (((s.setRegion r none).send (.clearRegion r)).returnCells x.item.track itemCells).region k =
            (s.setRegion r none).region k := rfl
        rw [this, State.region_setRegion]
        by_cases e : k = r
        · subst e; simp [hr, h, Option.filter, ht]
        · simp [e]
    · simp only [ht]
      refine ⟨.refl s, rfl, rfl, fun k => ?_, by simp [ht]⟩
      by_cases e : k = r
      · subst e; simp [h, Option.filter, ht]
      · simp [e]

/-- Every region emptied of the items that meet the test, with their records in region order (R116, R118). -/
theorem State.emptyRegions_spec (s : State) (test : Item → Bool) :
    OnlySubtitles s (s.emptyRegions test) ∧
    (s.emptyRegions test).sub = { s.sub with regions := (s.emptyRegions test).sub.regions } ∧
    (s.emptyRegions test).sub.regions.length = s.sub.regions.length ∧
    (∀ r, r ≤ 3 → (s.emptyRegions test).region r = (s.region r).filter fun x => !test x.item) ∧
    (s.emptyRegions test).link =
      s.link ++ (regionNumbers.filter fun r => (s.region r).any fun x => test x.item).map LinkRecord.clearRegion := by
  obtain ⟨o0, b0, l0, r0, k0⟩ := State.emptyRegion_spec test s 0
  obtain ⟨o1, b1, l1, r1, k1⟩ := State.emptyRegion_spec test (State.emptyRegion test s 0) 1
  obtain ⟨o2, b2, l2, r2, k2⟩ := State.emptyRegion_spec test (State.emptyRegion test (State.emptyRegion test s 0) 1) 2
  obtain ⟨o3, b3, l3, r3, k3⟩ :=
    State.emptyRegion_spec test (State.emptyRegion test (State.emptyRegion test (State.emptyRegion test s 0) 1) 2) 3
  have e : s.emptyRegions test =
      State.emptyRegion test (State.emptyRegion test (State.emptyRegion test (State.emptyRegion test s 0) 1) 2) 3 := rfl
  rw [e]
  refine ⟨((o0.trans o1).trans o2).trans o3, ?_, l3.trans (l2.trans (l1.trans l0)), ?_, ?_⟩
  · rw [b3, b2, b1, b0]
  · intro r hr
    interval_cases r <;> simp [r3, r2, r1, r0]
  · rw [k3, k2, k1, k0, r2, r1, r0, r1, r0, r0]
    simp only [regionNumbers, List.filter_cons, List.filter_nil]
    cases h0 : (s.region 0).any fun x => test x.item <;> cases h1 : (s.region 1).any fun x => test x.item <;>
      cases h2 : (s.region 2).any fun x => test x.item <;> cases h3 : (s.region 3).any fun x => test x.item <;> simp [h1, h2, h3]

/-- The items of the schedule that meet the test are removed with their cells, without a record. -/
theorem State.dropItems_spec (s : State) (test : Item → Bool) :
    OnlySubtitles s (s.dropItems test) ∧ (s.dropItems test).link = s.link ∧
    (s.dropItems test).sub = { s.sub with schedule := s.sub.schedule.filter fun i => !test i } := by
  obtain ⟨h, hs, hl⟩ := State.returnItems_only
    { s with sub := { s.sub with schedule := s.sub.schedule.filter fun i => !test i } } (s.sub.schedule.filter test)
  refine ⟨OnlySubtitles.trans ?_ h, hl, hs⟩
  exact ⟨rfl, rfl, fun _ => rfl⟩

/-- A track's items leave the schedule and the display set (R118). -/
theorem State.removeTrackItems_spec (s : State) (t : Nat) :
    OnlySubtitles s (s.removeTrackItems t) ∧
    (s.removeTrackItems t).sub = { s.sub with schedule := s.sub.schedule.filter fun i => !(i.track == t),
                                              regions := (s.removeTrackItems t).sub.regions } ∧
    (s.removeTrackItems t).sub.regions.length = s.sub.regions.length ∧
    (∀ r, r ≤ 3 → (s.removeTrackItems t).region r = (s.region r).filter fun x => !(x.item.track == t)) ∧
    (s.removeTrackItems t).link =
      s.link ++ (regionNumbers.filter fun r => (s.region r).any fun x => x.item.track == t).map LinkRecord.clearRegion := by
  obtain ⟨o, hl, hs⟩ := State.dropItems_spec s fun i => i.track == t
  obtain ⟨o', hs', hn, hr, hl'⟩ := State.emptyRegions_spec (s.dropItems fun i => i.track == t) fun i => i.track == t
  have e : ∀ r, (s.dropItems fun i => i.track == t).region r = s.region r := fun r => by rw [State.region, State.region, hs]
  refine ⟨o.trans o', ?_, ?_, fun r h => ?_, ?_⟩
  · rw [State.removeTrackItems, hs', hs]
  · rw [State.removeTrackItems, hn, hs]
  · rw [State.removeTrackItems, hr r h, e]
  · rw [State.removeTrackItems, hl', hl]
    simp only [e]

/-! ## Tracks whose items are not removed -/

/-- A track that no removed item belongs to keeps its cells. -/
theorem State.returnItems_track (s : State) (l : List Item) (k : Nat) (h : ∀ i ∈ l, i.track ≠ k) :
    (s.returnItems l).track k = s.track k := by
  induction l generalizing s with
  | nil => rfl
  | cons i l ih =>
    have e := ih (s.returnCells i.track itemCells) fun j hj => h j (List.mem_cons_of_mem _ hj)
    rw [State.track_returnCells, if_neg (fun c => h i List.mem_cons_self c.1.symm)] at e
    exact e

theorem State.emptyRegion_track (test : Item → Bool) (s : State) (r k : Nat) (h : ∀ i, test i = true → i.track ≠ k) :
    (State.emptyRegion test s r).track k = s.track k := by
  unfold State.emptyRegion
  split
  · rename_i x hx
    split
    · rename_i ht
      rw [State.track_returnCells, if_neg (fun c => h _ ht c.1.symm)]
      rfl
    · rfl
  · rfl

theorem State.emptyRegions_track (test : Item → Bool) (s : State) (k : Nat) (h : ∀ i, test i = true → i.track ≠ k) :
    (s.emptyRegions test).track k = s.track k := by
  simp only [State.emptyRegions, regionNumbers, List.foldl_cons, List.foldl_nil, State.emptyRegion_track _ _ _ _ h]

theorem State.dropItems_track (test : Item → Bool) (s : State) (k : Nat) (h : ∀ i, test i = true → i.track ≠ k) :
    (s.dropItems test).track k = s.track k := by
  rw [State.dropItems, State.returnItems_track _ _ _ fun i hi => h i (List.mem_filter.mp hi).2]
  rfl

/-- The removal of one track's items leaves every other track as it is. -/
theorem State.removeTrackItems_track (s : State) {t k : Nat} (h : k ≠ t) : (s.removeTrackItems t).track k = s.track k := by
  have e : ∀ i : Item, (i.track == t) = true → i.track ≠ k := fun i hi c => h (by rw [← c]; simpa using hi)
  rw [State.removeTrackItems, State.emptyRegions_track _ _ _ e, State.dropItems_track _ _ _ e]

end Sys2Proof.Machine
end

