-- ==== Sys2Proof/Laws/Unpack.lean ====
section
/-! SUPPORT. Tracks that stop being scheduled: what one track leaves behind, a list of tracks, and every scheduled track (R9, R118). -/

namespace Sys2Proof.Safety

open Sys2Proof.Machine

/-! ## CLEAR_REGION records (R118) -/

/-- No track, no record. -/
theorem RegionsCleared.nil (s : State) : RegionsCleared s [] [] := ⟨by simp, by simp, by simp⟩

/-- One track: the regions that hold an item of it, in order. -/
theorem RegionsCleared.single (s : State) (t : Nat) :
    RegionsCleared s [t] (regionNumbers.filter fun r => (s.region r).any fun x => x.item.track == t) where
  once := List.Nodup.filter _ (by decide)
  held r := by
    have e : r ∈ regionNumbers ↔ r ≤ 3 := by simp [regionNumbers]; omega
    rw [List.mem_filter, e, Option.any_eq_true]
    simp
  order k := (List.Pairwise.filter _ (by decide : regionNumbers.Pairwise (· < ·))).filter _

/-- A track, and then the tracks of a list, over what the first has left. -/
theorem RegionsCleared.append {s u : State} {t : Nat} {l c d : List Nat} (h : RegionsCleared s [t] c) (g : RegionsCleared u l d)
    (hr : ∀ r, r ≤ 3 → u.region r = (s.region r).filter fun x => !List.contains [t] x.item.track) :
    RegionsCleared s (t :: l) (c ++ d) := by
  have left : ∀ r x, r ≤ 3 → (u.region r = some x ↔ s.region r = some x ∧ x.item.track ≠ t) := fun r x h3 => by
    rw [hr r h3, Option.filter_eq_some_iff]
    simp
  have inC : ∀ r, r ∈ c → ∃ x, s.region r = some x ∧ x.item.track = t := fun r m => by
    obtain ⟨_, x, hx, e⟩ := (h.held r).mp m
    exact ⟨x, hx, by simpa using e⟩
  have inD : ∀ r, r ∈ d → ∃ x, s.region r = some x ∧ x.item.track ≠ t := fun r m => by
    obtain ⟨h3, x, hx, _⟩ := (g.held r).mp m
    exact ⟨x, (left r x h3).mp hx⟩
  refine ⟨List.nodup_append.mpr ⟨h.once, g.once, fun a ha b hb e => ?_⟩, fun r => ?_, fun k => ?_⟩
  · obtain ⟨x, hx, ex⟩ := inC a ha
    obtain ⟨y, hy, ey⟩ := inD b hb
    rw [← e, hx] at hy
    exact ey (by cases hy; exact ex)
  · rw [List.mem_append, h.held, g.held]
    constructor
    · rintro (⟨h3, x, hx, e⟩ | ⟨h3, x, hx, e⟩)
      · exact ⟨h3, x, hx, by simp_all⟩
      · exact ⟨h3, x, ((left r x h3).mp hx).1, List.mem_cons_of_mem _ e⟩
    · rintro ⟨h3, x, hx, e⟩
      by_cases n : x.item.track = t
      · exact .inl ⟨h3, x, hx, by simp [n]⟩
      · exact .inr ⟨h3, x, (left r x h3).mpr ⟨hx, n⟩, by simpa [n] using e⟩
  · rw [List.filter_append]
    by_cases e : k = t
    · rw [show (d.filter fun r => (s.region r).any fun x => x.item.track == k) = [] from
        List.filter_eq_nil_iff.mpr fun r m => by
          obtain ⟨x, hx, ne⟩ := inD r m
          simp [hx, e, ne], List.append_nil]
      exact h.order k
    · rw [show (c.filter fun r => (s.region r).any fun x => x.item.track == k) = [] from
        List.filter_eq_nil_iff.mpr fun r m => by
          obtain ⟨x, hx, eq⟩ := inC r m
          simp [hx, eq, Ne.symm e], List.nil_append]
      rw [show (d.filter fun r => (s.region r).any fun x => x.item.track == k) =
          d.filter fun r => (u.region r).any fun x => x.item.track == k from List.filter_congr fun r m => by
        obtain ⟨h3, x, hx, _⟩ := (g.held r).mp m
        rw [hx, ((left r x h3).mp hx).1]]
      exact g.order k

end Sys2Proof.Safety

namespace Sys2Proof.Machine

open Sys2Proof.Safety

/-! ## Tracks -/

/-- What it means that the tracks of a list have stopped being scheduled, one after another. -/
structure Unscheduled (l : List Nat) (s u : State) : Prop where
  rest     : u = { s with tracks := u.tracks, freeCells := u.freeCells, sub := u.sub, link := u.link }
  length   : u.tracks.length = s.tracks.length
  emptied  : ∀ k ∈ l, u.track k = { Track.empty with counters := (s.track k).counters }
  kept     : ∀ k, k ∉ l → u.track k = s.track k
  schedule : u.sub.schedule = s.sub.schedule.filter fun i => !l.contains i.track
  regions  : ∀ r, r ≤ 3 → u.region r = (s.region r).filter fun x => !l.contains x.item.track
  counts   : u.sub = { s.sub with schedule := u.sub.schedule, regions := u.sub.regions }
  link     : ∃ clears, RegionsCleared s l clears ∧ u.link = s.link ++ clears.map LinkRecord.clearRegion

theorem Unscheduled.nil (s : State) : Unscheduled [] s s :=
  ⟨rfl, rfl, by simp, fun _ _ => rfl, by simp, fun r _ => by cases s.region r <;> simp [Option.filter], rfl, [],
    .nil s, by simp⟩

/-- What a track that leaves gives back, over a state whose items and regions it has left already. -/
theorem Unscheduled.empty {s v : State} {t : Nat} (o : OnlySubtitles s v)
    (hs : v.sub = { s.sub with schedule := s.sub.schedule.filter fun i => !(i.track == t), regions := v.sub.regions })
    (hr : ∀ r, r ≤ 3 → v.region r = (s.region r).filter fun x => !(x.item.track == t))
    (hk : ∀ k, k ≠ t → v.track k = s.track k)
    (hl : ∃ clears, RegionsCleared s [t] clears ∧ v.link = s.link ++ clears.map LinkRecord.clearRegion) (n : Nat) :
    Unscheduled [t] s { v.updTrack t (fun k => { Track.empty with counters := k.counters }) with freeCells := n } where
  rest := congrArg (fun u : State => { u with tracks := v.tracks.modify t fun k => { Track.empty with counters := k.counters },
                                              freeCells := n }) o.rest
  length := by rw [← o.length]; exact List.length_modify ..
  emptied k hk := by
    obtain rfl : k = t := by simpa using hk
    change (v.updTrack k _).track k = _
    rw [State.track_updTrack]
    split
    · rw [o.tracks]
    · rename_i h
      have p : ∀ u : State, u.tracks.length = s.tracks.length → u.track k = Track.empty := fun u hu => by
        rw [State.track, List.getD_eq_getElem?_getD, List.getElem?_eq_none (by have := o.length; by_contra c; exact h ⟨rfl, by omega⟩)]
        rfl
      rw [p _ o.length, p s rfl]
  kept k m := by
    have h : k ≠ t := by simpa using m
    exact (State.track_updTrack_other _ h).trans (hk k h)
  schedule := by
    have e : v.sub.schedule = _ := congrArg Subtitles.schedule hs
    exact e.trans (List.filter_congr fun i _ => by simp [Bool.beq_eq_decide_eq])
  regions r h := (hr r h).trans (by congr 1; funext x; simp [Bool.beq_eq_decide_eq])
  counts := by
    have e : v.sub.schedule = _ := congrArg Subtitles.schedule hs
    change v.sub = { s.sub with schedule := v.sub.schedule, regions := v.sub.regions }
    rw [e]
    exact hs
  link := hl

/-- One track. -/
theorem State.unscheduleTrack_spec (s : State) (t : Nat) : Unscheduled [t] s (s.unscheduleTrack t) := by
  obtain ⟨o, hs, _, hr, hl⟩ := State.removeTrackItems_spec s t
  exact .empty o hs hr (fun k h => State.removeTrackItems_track s h) ⟨_, .single s t, hl⟩ _

/-- Tracks one after another. -/
theorem Unscheduled.cons {t : Nat} {l : List Nat} {s u v : State} (h : Unscheduled [t] s u) (g : Unscheduled l u v) :
    Unscheduled (t :: l) s v := by
  obtain ⟨c, rc, hc⟩ := h.link
  obtain ⟨d, rd, hd⟩ := g.link
  refine ⟨?_, g.length.trans h.length, ?_, ?_, ?_, ?_, ?_, c ++ d, rc.append rd h.regions, ?_⟩
  · have e := g.rest
    rw [h.rest] at e
    exact e
  · intro k hk
    by_cases m : k ∈ l
    · rw [g.emptied k m]
      by_cases e : k = t
      · rw [h.emptied k (by simp [e])]
      · rw [h.kept k (by simpa using e)]
    · obtain rfl : k = t := by
        rcases List.mem_cons.mp hk with e | e
        · exact e
        · exact absurd e m
      rw [g.kept k m, h.emptied k (by simp)]
  · intro k hk
    rw [g.kept k fun m => hk (List.mem_cons_of_mem _ m), h.kept k fun m => hk (by simp_all)]
  · rw [g.schedule, h.schedule, List.filter_filter]
    congr 1
    funext i
    simp [Bool.and_comm]
  · intro r hr
    rw [g.regions r hr, h.regions r hr, Option.filter_filter]
    congr 1
    funext i
    simp
  · have e := g.counts
    rw [h.counts] at e
    exact e
  · rw [hd, hc, List.map_append, List.append_assoc]

/-- A list of tracks. -/
theorem State.unscheduleTracks_spec (l : List Nat) (s : State) : Unscheduled l s (l.foldl State.unscheduleTrack s) := by
  induction l generalizing s with
  | nil => exact .nil s
  | cons t l ih => exact (State.unscheduleTrack_spec s t).cons (ih _)

/-- Every scheduled track (R7, R9). -/
theorem State.unscheduleAll_spec (s : State) : Unscheduled (leaving s) s s.unscheduleAll :=
  State.unscheduleTracks_spec (essenceTracks.filter s.scheduled) s

/-- What statements say of the scheduled tracks of a show that stops or is cleared. -/
theorem Unscheduled.leave {s u : State} (h : Unscheduled (leaving s) s u) : TracksLeave s u [] :=
  ⟨h.emptied, h.kept, h.schedule, h.regions, h.counts, by simpa using h.link⟩

end Sys2Proof.Machine
end

