-- ==== Sys2Proof/Tests/Slice0.lean ====
section
/-! SUPPORT. The model's own tests: the smoke test of WellFormed, one-step tests whose expected results come from the spec's tables and
worked examples, and for each statement with hypotheses states and operands that meet them together. -/

namespace Sys2Proof.Tests

-- One theorem after another: each kernel evaluation waits for those before it, and side by side they ask for too many threads.
set_option Elab.async false

open Sys2Proof Sys2Proof.Machine Sys2Proof.Safety

/-! ## Well-formed commands: an ill-formed term for each check -/

theorem test_parcel_too_long : (Instr.parcelComplete (List.replicate 1037 0)).wellFormed = false := by decide +kernel
theorem test_parcel_largest : (Instr.parcelComplete (List.replicate 1036 0)).wellFormed = true := by decide +kernel
theorem test_tick_order_repeats : (Instr.millisecondTick [3, 3]).wellFormed = false := by decide
theorem test_arm_too_many_slots : (Instr.arm 1 (List.replicate 256 0)).wellFormed = false := by decide +kernel
theorem test_malformed_is_well_formed : (Instr.malformedRequest [5, 1]).wellFormed = false := by decide
theorem test_malformed_too_long : (Instr.malformedRequest (List.replicate 1025 0)).wellFormed = false := by decide +kernel
theorem test_malformed_short : (Instr.malformedRequest [5]).wellFormed = true := by decide

/-- The rows with table entries. -/
def tableRows (entries : Bytes) : List Instr :=
  [.writeTrackTable 1 0 1 entries, .writeCompositionTable 1 0 1 entries, .writeLicenceTable 1 0 1 entries,
   .writeRoutingMaps 1 0 1 entries, .writeLaneSettings 1 0 1 entries, .writeCueStore 1 0 1 entries, .writeLineSettings 1 0 1 entries,
   .writeInputActions 1 0 1 entries, .writeShowSettings 1 0 1 entries, .writeTable 1 1 0 1 entries]

theorem test_entries_too_long : (tableRows (List.replicate 1019 0)).all (fun c => !c.wellFormed) = true := by decide +kernel
theorem test_entries_longest : (tableRows (List.replicate 1018 0)).all Instr.wellFormed = true := by decide +kernel

/-! ## Encodings, by the spec's tables -/

/-- The check value of the CRC-16 of R185 over the nine digits "123456789". -/
theorem test_crc : crc16 [0x31, 0x32, 0x33, 0x34, 0x35, 0x36, 0x37, 0x38, 0x39] = 0x29B1 := by decide +kernel

/-- 10.1: kind ESSENCE on track 5, first and last fragment, eye RIGHT, sequence 258, frame 65536, 1 byte of payload. -/
theorem test_parcel_header :
    checkParcel (withCheck [0x25, 0xE0, 0x01, 0x02, 0x01, 0x00, 0x00, 0xFF, 0x00, 0x01, 0xAB]) =
      .good ⟨.essence, 5, true, true, .right, 258, 65536, [0xAB]⟩ := by decide +kernel

theorem test_parcel_bad_crc :
    checkParcel [0x25, 0xE0, 0x01, 0x02, 0x01, 0x00, 0x00, 0xFF, 0x00, 0x01, 0xAB, 0, 0] = .crcError := by decide +kernel

/-- 10.4, table 1: a valid SOUND_MAIN track of slot 3, 6 channels and quota 300. -/
theorem test_track_entry : decodeEntry 1 [0xC1, 3, 6, 0, 0, 0, 0x01, 0x2C] =
    .ok (.track ⟨true, .soundMain, 3, some 6, none, 300⟩) := by decide +kernel

/-- 10.4, table 6: LINE_PULSE at trigger 300, generator 1 on line 9, REPEAT, count 4, pulse 256 ms, space 2 ms. -/
theorem test_cue_entry : decodeEntry 6 [2, 0, 1, 0x2C, 1, 9, 1, 4, 1, 0, 0, 2] =
    .ok (.cue ⟨300, .linePulse 1 9 .repeating 4 256 2⟩) := by decide +kernel

/-- R124: an EMPTY entry that is written clears the entry, its trigger with it. -/
theorem test_empty_cue_clears : decodeEntry 6 [0, 0, 1, 0x2C, 1, 9, 1, 4, 1, 0, 0, 2] = .ok (.cue CueEntry.blank) := by decide +kernel

/-- R5: a channel count on a picture track is MALFORMED even where its slot is out of range too (R173). -/
theorem test_track_malformed_first : decodeEntry 1 [0xC0, 9, 2, 0, 0, 0, 0, 1] = .error .malformed := by decide +kernel

/-- 10.3: SHOW with action ARM and two positions. -/
theorem test_arm_request : parseRequest [3, 9, 0, 2, 4, 1] = .arm 9 [4, 1] := by decide
theorem test_arm_request_short : parseRequest [3, 9, 0, 2, 4] = .malformed [3, 9, 0, 2, 4] := by decide

/-! ## The sound chain, by the worked rows of R90 and R92 -/

/-- R90: every input at +8,388,607 and four contributions at gain 65535. -/
theorem test_mix_largest : mixValue (List.replicate 4 ⟨0, 65535, false⟩) [8388607] = 67107832 := by decide
theorem test_clamp_largest : clamp24 67107832 = 8388607 := by decide
theorem test_mix_smallest : mixValue (List.replicate 4 ⟨0, 65535, false⟩) [-8388608] = -67107840 := by decide
/-- R90: one contribution at gain 32768, trim and fader 32768, passes the sample unchanged. -/
theorem test_unity : chainValue ⟨true, [⟨0, 32768, false⟩]⟩ 32768 32768 [-5] = -5 := by decide
theorem test_fader_up : faderStep 0 32768 65535 = 32767 := by decide
theorem test_fader_last_step : faderStep 32767 32768 65535 = 32768 := by decide
theorem test_fader_down : faderStep 32768 0 65535 = 1 := by decide
theorem test_fader_slow : faderStep 0 32768 1 = 1 := by decide

/-! ## States for the tests -/

/-- The state that a command answers. -/
def after (c : Instr) (s : State) : State :=
  match exec c s with
  | .next t => t
  | .fault _ => s
  | .refused _ => s

/-- The part after power-on reset, in a show state. -/
def inState (q : ShowState) : State := { State.reset with seq := { Sequencer.reset with state := q } }

/-- A show on a playlist of one position with slot 0, whose composition and tracks are given. -/
def onSlot (q : ShowState) (c : Composition) (tracks : List TrackEntry) : State :=
  { State.reset with
    tables := { Tables.powerOn with
      composition := c :: List.replicate 7 Composition.invalid
      track := TrackEntry.invalid :: tracks ++ List.replicate (31 - tracks.length) TrackEntry.invalid }
    seq := { Sequencer.reset with state := q, playlist := [0], position := 1 } }

/-- A valid composition of 10 frames. -/
def film : Composition := { Composition.invalid with valid := true, duration := 10, countFrame := 5 }

/-- A valid picture track, a valid sound track of one channel and a valid subtitle track, all of slot 0. -/
def picture : TrackEntry := { TrackEntry.invalid with valid := true }
def sound : TrackEntry := { TrackEntry.invalid with valid := true, kind := .soundMain, channels := some 1, quota := 30 }
def subtitle : TrackEntry := { TrackEntry.invalid with valid := true, kind := .subtitle, quota := 4 }

/-- The parcel of a track with these fields, as bytes. -/
def parcelBytes (p : Parcel) : Bytes :=
  withCheck (be 1 (32 + p.track) ++ [fragmentByte p.first p.last p.eye] ++ be 2 p.sequence ++ be 3 p.frame ++ [0] ++
    be 2 p.payload.length ++ p.payload)

/-- The port in RECEIVING. -/
def receiving (s : State) : State := { s with port := { s.port with framing := .receiving } }

/-- An open showing record. -/
def openRecord : Record :=
  { number := 1, id := 0, position := 1, licence := none, startTime := none, countTime := none, presented := 1, repeated := 0,
    impaired := false, counted := false, outcome := .opened }

/-! ## One step each -/

/-- R67: START sends one BLACK; R40: the preroll timer is at 0. -/
theorem test_start : (after (.start 7) (inState .armed)).link = [.black, .black] ∧
    (after (.start 7) (inState .armed)).seq.prerollTimer = some 0 := by decide +kernel

/-- 10.3, R183: the REPLY to START overtakes the FLOW report of its change of state and goes on the lane. -/
theorem test_start_reply : (after (.start 7) (inState .armed)).mgmt.lane = some ⟨.reply, [3, 7, 0, 2, 0, 0]⟩ := by decide +kernel

/-- R43: HOLD is refused outside PLAYING. -/
theorem test_hold_refused : (after (.hold 7) (inState .stalled)).mgmt.lane = some ⟨.reply, [3, 7, 1, 5, 0, 0]⟩ := by decide +kernel

/-- R95: HOLD saves the fader's target and cuts. -/
theorem test_hold_cuts :
    (after (.hold 7) { inState .playing with snd := { State.reset.snd with fader := ⟨100, 200, 300, 0, false⟩ } }).snd.fader =
      ⟨0, 0, 300, 200, false⟩ := by decide +kernel

/-- R96, R29: RESUME ramps from 0 to the saved target at the resume rate, 4096 by default. -/
theorem test_resume :
    (after (.resume 7) { inState .holding with snd := { State.reset.snd with fader := ⟨0, 0, 300, 200, false⟩ } }).snd.fader =
      ⟨0, 200, 4096, 200, false⟩ := by decide +kernel

/-- R40: the thirtieth second tick in PREROLL stops the show with its own reason. -/
theorem test_preroll_timeout :
    (after .secondTick { inState .preroll with seq := { (inState .preroll).seq with prerollTimer := some 29 } }).seq.reason =
      .prerollTimeout := by decide +kernel

/-- R28: booth time stays at its greatest value. -/
theorem test_booth_time_stays :
    (after .secondTick { State.reset with clk := { State.reset.clk with booth := some 4294967295 } }).clk.booth =
      some 4294967295 := by decide +kernel

/-- R23: a picture parcel of frame 64 is early while the window base is 0. -/
theorem test_window_early : (Window.create .mono).covers 64 = false ∧ (Window.create .mono).covers 63 = true := by decide

/-- R105: an item goes after those with its own in-frame. -/
theorem test_insert_keeps_arrival_order :
    (insertItem ⟨9, 4, 8, 0, 0, 0, [], 1⟩ [⟨1, 3, 8, 0, 0, 0, [], 1⟩, ⟨2, 4, 8, 0, 0, 0, [], 1⟩, ⟨3, 5, 8, 0, 0, 0, [], 1⟩]).map
      Item.id = [1, 2, 9, 3] := by decide

/-- R108: a fade-in of 3 frames rises by quarters of 255. -/
theorem test_opacity : (List.range 4).map (Item.opacity ⟨0, 0, 100, 0, 3, 0, [], 1⟩) = [63, 127, 191, 255] := by decide

/-- R144: the end of the last pulse of a counted pattern. -/
theorem test_last_pulse : (Generator.endPhase ⟨.pulse, 4, .repeating, 5, 6, 1, 0⟩) = ⟨.idle, 4, .repeating, 5, 6, 0, 0⟩ := by decide

/-- R141: a safety level wins over a running generator while the latch is set. -/
theorem test_safety_level :
    ({ State.reset with
        tables := { Tables.powerOn with line := ⟨.release, some .assert⟩ :: List.replicate 15 LineSetting.off }
        booth := { State.reset.booth with latch := true, generators := [⟨.space, 0, .repeating, 1, 1, 0, 1⟩] } } : State).lineLevel 0 =
      .assert := by decide +kernel

/-- R157: the tests of the licence check in their order. -/
theorem test_licence_order : (Licence.check ⟨true, 0, some 5, some 3, some 0, 0⟩ (some 4)) = some .notYet ∧
    (Licence.check ⟨true, 0, some 5, some 3, some 0, 0⟩ none) = some .timeUnset ∧
    (Licence.check ⟨true, 0, none, none, none, 65535⟩ none) = some .exhausted := by decide

/-- R161: the number after 4,294,967,295 is 1, and it counts as above it. -/
theorem test_number_wraps : nextNumber 4294967295 = 1 ∧ numberAtOrAbove 2 1 4294967295 = true ∧
    numberAtOrAbove 2 4294967295 1 = false := by decide

/-- R170: the fifth request meets a full queue. -/
theorem test_mgmt_overrun :
    flagSet (after (.queryStatus 1) { State.reset with mgmt := { State.reset.mgmt with
      requests := List.replicate 4 (.queryStatus 1) } }).mgmt.flags .mgmtOverrun = true := by decide +kernel

/-- R11: q = e − 1 is a duplicate, with 16-bit wrap. -/
theorem test_duplicate_wraps : checkSequence (some 0) 65535 = .duplicate ∧ checkSequence (some 65535) 0 = .gap := by decide

/-- R1: a start mark in RECEIVING drops the partial parcel as malformed. -/
theorem test_start_mark : (after .startMark (receiving State.reset)).port = ⟨.receiving, 0, 1, 0⟩ := by decide +kernel

/-- R1, R3: an oversized parcel, and a FILL parcel. -/
theorem test_oversize : (after .oversizeParcel (receiving State.reset)).port = ⟨.hunting, 0, 1, 0⟩ := by decide +kernel
theorem test_fill : (after (.parcelComplete (withCheck [0x7F, 0, 0, 0, 0, 0, 0, 0, 0, 0])) (receiving State.reset)).port =
    ⟨.hunting, 0, 0, 1⟩ := by decide +kernel

/-- R3, R170, R183: a MGMT parcel with QUERY_STATUS is counted and its REPLY goes on the lane. -/
theorem test_mgmt_parcel :
    ((after (.parcelComplete (mgmtParcel [5, 9])) (receiving State.reset)).mgmt.lane.map fun p => p.payload.take 3) =
      some [5, 9, 0] := by decide +kernel

/-- R139, R140: a table 7 write sets the cue level of its line. -/
theorem test_line_write : (after (.writeLineSettings 1 2 1 [1, 0]) State.reset).booth.cueLevels.take 4 =
    [.release, .release, .assert, .release] := by decide +kernel

/-- R135: a macro that calls itself raises CUE_NEST, and its entries end. -/
theorem test_cue_nest :
    flagSet (({ State.reset with tables := { Tables.powerOn with
      cue := ⟨0, .callMacro 0 1⟩ :: List.replicate 511 CueEntry.blank } } : State).inputMacro 0 1).mgmt.flags .cueNest = true := by
  decide +kernel

/-- R89: with a delay of 1 the lane sends the value before. -/
theorem test_delay : (Lane.sample ⟨[7, 8], 1, [5], 0, 0, 0⟩).out = 5 ∧ (Lane.sample ⟨[7, 8], 0, [5], 0, 0, 0⟩).out = 7 := by decide


/-! ## Witnesses: for each statement with hypotheses, states and operands that meet them, at the bounds of its clauses -/

/-- The state with another management block. -/
def withMgmt (s : State) (f : Mgmt → Mgmt) : State := { s with mgmt := f s.mgmt }

/-- The state with another sequencer. -/
def withSeq (s : State) (f : Sequencer → Sequencer) : State := { s with seq := f s.seq }

/-- The state with another clock. -/
def withClock (s : State) (f : Clock → Clock) : State := { s with clk := f s.clk }

/-- The state with other booth lines. -/
def withBooth (s : State) (f : Booth → Booth) : State := { s with booth := f s.booth }

/-- The state with another accounting block. -/
def withAcct (s : State) (f : Accounting → Accounting) : State := { s with acct := f s.acct }

/-- The state with other tables. -/
def withTables (s : State) (f : Tables → Tables) : State := { s with tables := f s.tables }

/-- A management block as after power-on reset keeps the bounds of its queues. -/
theorem queuesOk_fresh {s : State} (h : s.mgmt = Mgmt.powerOn false) : QueuesOk s := by
  constructor <;> rw [h] <;> decide

/-- A request that reaches a management block as after power-on reset is executed on arrival. -/
theorem takesRequest_fresh {s : State} (h : s.mgmt = Mgmt.powerOn false) (r : s.inReset = false) : TakesRequest s := by
  refine ⟨r, ?_, ?_⟩ <;> rw [h] <;> decide

theorem track_replicate (t : Nat) : (List.replicate 32 Track.empty).getD t Track.empty = Track.empty := by
  rw [List.getD_eq_getElem?_getD, List.getElem?_replicate]
  split <;> rfl

/-- A part that holds no essence keeps the cell pool. -/
theorem cellsOk_fresh {s : State} (ht : s.tracks = List.replicate 32 Track.empty) (hf : s.freeCells = 8192)
    (hs : s.sub = Subtitles.reset) : CellsOk s := by
  have k : ∀ t, s.track t = Track.empty := fun t => by rw [State.track, ht, track_replicate]
  refine ⟨by rw [ht]; rfl, by rw [hs]; rfl, ?_, ?_, by rw [ht, hf]; decide, ?_, ?_, ?_, ?_⟩
  · intro t _
    simp only [cellsOf, trackItems, k, hs]
    rfl
  · intro t; rw [k]; exact Nat.zero_le _
  · intro t a h; rw [State.assembly, k] at h; cases h
  · intro t a h; rw [State.assembly, k] at h; cases h
  · intro i h; rw [hs] at h; simp [Subtitles.reset] at h
  · intro t _; rw [k]

/-- A property of each entry of a write of one entry. -/
theorem only_entry {P : Nat → Prop} (h : P 0) : ∀ j, j < (1 : Byte).toNat → P j := by
  intro j hj
  obtain rfl : j = 0 := by simpa using hj
  exact h

theorem witness_StepRunsTheFrontCommand : State.reset.pending = [] := rfl

theorem witness_ResetHeldIsSilent : ({ State.reset with inReset := true } : State).inReset = true ∧
    Instr.secondTick ≠ .powerOnReset ∧ Instr.secondTick ≠ .resetAsserted ∧
    ∀ i level, Instr.secondTick ≠ .inputLevelChange i level := ⟨rfl, by decide, by decide, fun _ _ => by simp⟩

theorem witness_request : TakesRequest State.reset := takesRequest_fresh rfl rfl

theorem witness_WarmResetValues : TakesRequest State.reset := witness_request

theorem witness_SetClockAndQueryStatus : TakesRequest State.reset := witness_request

theorem witness_EventRequestsChangeFlags : TakesRequest State.reset := witness_request

/-- A log of five closed records, numbered 5 down to 1. -/
def fiveShowings : State :=
  withAcct State.reset fun a => { a with
    log := [5, 4, 3, 2, 1].map fun n => { openRecord with number := n, outcome := .short }, nextNumber := 6 }

theorem witness_FetchShowingsReturnsRecords : TakesRequest fiveShowings ∧ fiveShowings.acct.log.length = 5 ∧
    ((fiveShowings.recordsFrom 1).map Record.number).take 4 = [1, 2, 3, 4] := ⟨takesRequest_fresh rfl rfl, rfl, by decide⟩

theorem witness_TrimShowingsRemovesClosed : TakesRequest fiveShowings ∧
    ((after (.trimShowings 9 3) fiveShowings).acct.log.map Record.number) = [5, 4] :=
  ⟨takesRequest_fresh rfl rfl, by decide +kernel⟩

/-- The last sample period of a frame period, on a lane with the greatest delay, and countdown 0. -/
theorem witness_SamplePeriodMovesLanes : ∃ s u : State, s.inReset = false ∧ s.clk.countdown = 1 ∧
    s.snd.lanes[0]? = some ⟨[7], 2047, [5], 0, 0, 0⟩ ∧ u.inReset = false ∧ u.clk.countdown = 0 :=
  ⟨{ withClock State.reset (fun c => { c with countdown := 1 }) with
      snd := { State.reset.snd with lanes := [⟨[7], 2047, [5], 0, 0, 0⟩] } },
   withClock State.reset fun c => { c with countdown := 0 }, rfl, rfl, rfl, rfl, rfl⟩

/-- A show in PREROLL or STALLED whose timer is one tick, or more, from its timeout. -/
def prerollAt (n : Nat) : State := withSeq (inState .preroll) fun q => { q with prerollTimer := some n }
def stalledAt (n : Nat) : State := withSeq (inState .stalled) fun q => { q with stallTimer := some n }

theorem witness_SecondTickAndTimeouts_counting : (prerollAt 28).inReset = false ∧ QueuesOk (prerollAt 28) ∧
    (prerollAt 28).seq.state = .preroll ∧ 28 + 1 < (prerollAt 28).tables.settings.prerollTimeout ∧
    QueuesOk (stalledAt 18) ∧ (stalledAt 18).seq.state = .stalled ∧ 18 + 1 < (stalledAt 18).tables.settings.stallTimeout :=
  ⟨rfl, queuesOk_fresh rfl, rfl, by decide, queuesOk_fresh rfl, rfl, by decide⟩

theorem witness_SecondTickAndTimeouts : (prerollAt 29).inReset = false ∧ (prerollAt 29).seq.state = .preroll ∧
    (prerollAt 29).tables.settings.prerollTimeout ≤ (prerollAt 29).seq.prerollTimer.getD 0 + 1 ∧
    (stalledAt 19).seq.state = .stalled ∧
    (stalledAt 19).tables.settings.stallTimeout ≤ (stalledAt 19).seq.stallTimer.getD 0 + 1 := by decide

theorem witness_StallTriggerAndFlowInterval : (inState .playing).inReset = false ∧ (inState .playing).seq.state = .playing ∧
    QueuesOk (inState .preroll) ∧ (inState .preroll).seq.state = .preroll ∧ QueuesOk State.reset ∧
    State.reset.seq.state = .idle := ⟨rfl, rfl, queuesOk_fresh rfl, rfl, queuesOk_fresh rfl, rfl⟩

theorem inState_takes (q : ShowState) : TakesRequest (inState q) := takesRequest_fresh rfl rfl

theorem witness_StartHoldAndResume_start : TakesRequest (inState .armed) ∧ (inState .armed).seq.state = .armed := ⟨inState_takes _, rfl⟩

theorem witness_StartHoldAndResume : TakesRequest (inState .playing) ∧ (inState .playing).seq.state = .playing ∧
    TakesRequest (inState .holding) ∧ (inState .holding).seq.state = .holding := ⟨inState_takes _, rfl, inState_takes _, rfl⟩

theorem witness_StopEndsShow : TakesRequest (inState .stalled) ∧ (inState .stalled).seq.state.active = true := ⟨inState_takes _, rfl⟩

theorem witness_ClearReturnsToIdle : TakesRequest (inState .ended) ∧ (inState .ended).seq.state = .ended := ⟨inState_takes _, rfl⟩

/-- Each of the eight states refuses START or HOLD. -/
theorem witness_refused_commands : ∀ q ∈ [ShowState.idle, .armed, .preroll, .playing, .holding, .stalled, .ended, .stopped],
    (inState q).seq.state ∉ acceptedIn .start ∨ (inState q).seq.state ∉ acceptedIn .hold := by decide

/-- A show on a playlist of two positions, with slots 0 and 1. -/
def onTwo (q : ShowState) : State := withSeq (onSlot q film [picture]) fun x => { x with playlist := [0, 1] }

/-- SKIP in the last state it is accepted in, past the end and on to a composition without a licence. -/
theorem witness_SkipAdvancesPosition : TakesRequest (onSlot .stalled film []) ∧ (onSlot .stalled film []).seq.state.running = true ∧
    (onSlot .stalled film []).acct.log.length ≤ 64 ∧ (onSlot .stalled film []).acct.drops ≤ 65535 ∧
    PlaylistOk (onSlot .stalled film []) ∧ (onSlot .stalled film []).tracks.length = 32 ∧
    clearedAhead (onSlot .stalled film []) = 0 ∧
    TakesRequest (onTwo .stalled) ∧ PlaylistOk (onTwo .stalled) ∧ (onTwo .stalled).tracks.length = 32 ∧
    clearedAhead (onTwo .stalled) = 2 ∧ advanceTouches (onTwo .stalled) = [1] ∧ aheadTracks (onTwo .stalled) = [] :=
  ⟨takesRequest_fresh rfl rfl, rfl, by decide, by decide, by unfold PlaylistOk; decide, by decide, by decide,
   takesRequest_fresh rfl rfl, by unfold PlaylistOk; decide, by decide, by decide, by decide, by decide⟩

/-- A composition of duration 10 with a picture track and a sound track meets R35's nine checks. -/
theorem armSlot_film : ArmSlot (onSlot .idle film [picture, sound]) none 0 where
  number := by decide
  valid := by decide
  differs := by decide
  picture := by decide
  sound := by
    refine ⟨by decide, by decide, ?_, ?_⟩
    · have h : (onSlot .idle film [picture, sound]).kindTracks .soundMain 0 = [2] := by decide
      rw [h]; intro t ht; obtain rfl : t = 2 := by simpa using ht
      exact ⟨1, by decide, by decide, by decide⟩
    · have h : (onSlot .idle film [picture, sound]).kindTracks .soundAux 0 = [] := by decide
      rw [h]; simp
  count := by decide
  licence := by intro i h; have : (onSlot .idle film [picture, sound]).composition 0 = film := rfl; rw [this] at h; cases h
  subtitle := by intro i h; have : (onSlot .idle film [picture, sound]).composition 0 = film := rfl; rw [this] at h; cases h
  sheet := by intro i n h; have : (onSlot .idle film [picture, sound]).composition 0 = film := rfl; rw [this] at h; cases h

theorem armPosition_film : ArmPosition (onSlot .idle film [picture, sound]) (([0] : Bytes).map BitVec.toNat) 1 :=
  ⟨0, rfl, armSlot_film⟩

theorem witness_ArmSchedulesTracks : ∃ (slots : Bytes) (s : State), TakesRequest s ∧ CellsOk s ∧ s.seq.state.active = false ∧
    s.booth.latch = false ∧ 1 ≤ slots.length ∧ slots.length ≤ 16 ∧
    ∀ p, 1 ≤ p → p ≤ slots.length → ArmPosition s (slots.map BitVec.toNat) p := by
  refine ⟨[0], onSlot .idle film [picture, sound], takesRequest_fresh rfl rfl, cellsOk_fresh rfl rfl rfl, rfl, rfl, by decide,
    by decide, ?_⟩
  intro p h1 h2
  obtain rfl : p = 1 := Nat.le_antisymm h2 h1
  exact armPosition_film

/-- A playlist whose first position fails (slot 9 does not exist), and one whose second does: the slot before it again. -/
theorem witness_arm_refused :
    ¬ ArmPosition (onSlot .idle film [picture, sound]) (([9] : Bytes).map BitVec.toNat) 1 ∧
    ArmPosition (onSlot .idle film [picture, sound]) (([0, 0] : Bytes).map BitVec.toNat) 1 ∧
    ¬ ArmPosition (onSlot .idle film [picture, sound]) (([0, 0] : Bytes).map BitVec.toNat) 2 := by
  refine ⟨?_, ⟨0, rfl, armSlot_film⟩, ?_⟩
  · rintro ⟨slot, h, a⟩
    obtain rfl : 9 = slot := by simpa using h
    exact absurd a.number (by decide)
  · rintro ⟨slot, h, a⟩
    obtain rfl : 0 = slot := by simpa using h
    exact a.differs rfl

/-- ARM with the latch set, and with no positions and with 17. -/
theorem witness_ShowRequestsRefused : TakesRequest (withBooth State.reset fun b => { b with latch := true }) ∧
    (withBooth State.reset fun b => { b with latch := true }).booth.latch = true ∧
    State.reset.seq.state.active = false ∧ State.reset.booth.latch = false ∧ ([] : Bytes).length = 0 ∧
    16 < (List.replicate 17 (0 : Byte)).length := ⟨⟨rfl, rfl, by decide⟩, rfl, rfl, rfl, rfl, by decide⟩

/-- RELEASE_EMERGENCY with the latch set: input 0 at rest, and input 0 still LOW. -/
theorem witness_ReleaseEmergencyClearsLatch : ∃ s u : State, TakesRequest s ∧ s.booth.inputs.length = 8 ∧ s.booth.latch = true ∧
    (∀ i, i < 8 → ¬ ((s.inputEntry i).enabled = true ∧ (s.inputEntry i).action = .emergency ∧
      (s.input i).debounced = if (s.inputEntry i).edge = .falling then .low else .high)) ∧
    TakesRequest u ∧ u.booth.inputs.length = 8 ∧ u.booth.latch = true ∧
    ∃ i, i < 8 ∧ (u.inputEntry i).enabled = true ∧ (u.inputEntry i).action = .emergency ∧
      (u.input i).debounced = if (u.inputEntry i).edge = .falling then .low else .high :=
  ⟨withBooth State.reset fun b => { b with latch := true },
   State.powerOn (.low :: List.replicate 7 .high) [] [], ⟨rfl, rfl, by decide⟩, rfl, rfl, by decide,
   ⟨rfl, rfl, by decide⟩, rfl, rfl, 0, by decide⟩

/-- Payloads that R171 refuses, one for each way, at its bounds. -/
theorem witness_MalformedRequestsAnswered :
    ([[], [5], [0, 1], [11, 1], [1, 7, 2, 0, 0], [2, 7, 2, 0, 0], [2, 7, 2, 0, 0, 1, 0], [3, 7], [3, 7, 0], [3, 7, 0, 2, 1],
      [3, 7, 8], [3, 7, 1, 0], [4, 7, 0, 0, 0], [6, 7, 0, 0, 0, 0, 0], [7, 7], [8, 7, 0, 0], [9, 7, 0, 0, 0, 0], [5, 7, 0],
      [10, 7, 0]] : List Bytes).all payloadMalformed = true ∧
    (∃ rest, ([0, 2, 1] : Bytes) = 0 :: rest ∧ ∀ n slots, rest = n :: slots → slots.length ≠ n.toNat) ∧
    ∃ action rest, ([1, 0] : Bytes) = action :: rest ∧ action ≠ 0 ∧ (7 < action.toNat ∨ rest ≠ []) := by
  refine ⟨by decide, ⟨[2, 1], rfl, ?_⟩, ⟨1, [0], rfl, by decide, by decide⟩⟩
  rintro n slots h
  obtain ⟨rfl, rfl⟩ := List.cons.inj h
  decide

/-- A composition with every part present. -/
def feature : Composition :=
  { valid := true, id := 9, rateCode := 7, duration := 16777215, countFrame := 16777214, tolerance := 65535, eyes := .stereo,
    licence := some 15, sheet := some (511, 1), map := 7, subtitle := some 31, fader := some 32768 }

/-- An entry of each table that can be written, with the last index of its table. -/
def lastEntries : List (Nat × Nat × Entry) :=
  [(1, 31, .track subtitle), (2, 7, .composition feature), (3, 15, .licence ⟨true, 5, some 3, some 4, some 65534, 65535⟩),
   (4, 191, .routing ⟨true, List.replicate 4 ⟨23, 65535, true⟩⟩), (5, 23, .lane ⟨32768, 2047⟩),
   (6, 511, .cue ⟨16777215, .linePulse 3 15 .repeating 255 65535 65535⟩), (7, 15, .line ⟨.assert, some .release⟩),
   (8, 7, .input ⟨true, .rising, 255, .runMacro 496 16⟩), (10, 0, .settings ⟨32, 255, 255, 255, 65535, 255, 7⟩)]

theorem sizesOk_reset : SizesOk State.reset := by constructor <;> decide +kernel

/-- Each of those entries, written alone after power-on reset, passes R173's checks as itself. -/
theorem witness_writes : ∀ x ∈ lastEntries,
    (encodeEntry x.2.2).length = (1 : Byte).toNat * entrySize x.1 ∧ tableEntries x.1 = some (x.2.1 + 1) ∧
    State.reset.judgeEntry x.1 (x.2.1 + 0)
      (((encodeEntry x.2.2).drop (0 * entrySize x.1)).take (entrySize x.1)) = .ok x.2.2 := by decide +kernel

theorem witness_WriteStoresEntries : ∃ (table : Nat) (tag : Byte) (index : BitVec 16) (count : Byte) (entries : Bytes) (c : Instr)
    (s : State), TakesRequest s ∧ SizesOk s ∧ 1 ≤ table ∧ table ≤ 6 ∧ c ∈ writeRows table tag index count entries ∧
    count ≠ 0 ∧ entries.length = count.toNat * entrySize table ∧
    ∀ j, j < count.toNat → ∃ e, s.judgeEntry table (index.toNat + j)
      ((entries.drop (j * entrySize table)).take (entrySize table)) = .ok e :=
  ⟨6, 1, 511, 1, encodeEntry (.cue ⟨16777215, .linePulse 3 15 .repeating 255 65535 65535⟩),
   .writeCueStore 1 511 1 (encodeEntry (.cue ⟨16777215, .linePulse 3 15 .repeating 255 65535 65535⟩)), State.reset,
   witness_request, sizesOk_reset, by decide, by decide, by decide, by decide, by decide +kernel,
   only_entry ⟨.cue ⟨16777215, .linePulse 3 15 .repeating 255 65535 65535⟩, by decide +kernel⟩⟩

theorem witness_WriteLineAndShowSettings :
    (∃ (index : BitVec 16) (count : Byte) (entries : Bytes), .writeLineSettings 1 index count entries ∈ writeRows 7 1 index count entries ∧
      count ≠ 0 ∧ entries.length = count.toNat * 2 ∧
      ∀ j, j < count.toNat → ∃ e, State.reset.judgeEntry 7 (index.toNat + j) ((entries.drop (j * 2)).take 2) = .ok e) ∧
    State.reset.seq.state.running = false ∧
    decodeEntry 10 (encodeEntry (.settings ⟨32, 255, 255, 255, 65535, 255, 7⟩)) =
      .ok (.settings ⟨32, 255, 255, 255, 65535, 255, 7⟩) :=
  ⟨⟨15, 1, [1, 0], by decide, by decide, by decide, only_entry ⟨.line ⟨.assert, none⟩, by decide +kernel⟩⟩, rfl,
   by decide +kernel⟩

/-- A write of table 8 that makes input 3 an active EMERGENCY input: it reads HIGH, and its new entry names the edge RISING. -/
theorem witness_WriteInputActions : ∃ (s : State) (entries : Bytes), TakesRequest s ∧ SizesOk s ∧
    .writeInputActions 1 3 1 entries ∈ writeRows 8 1 3 1 entries ∧ entries.length = (1 : Byte).toNat * 6 ∧
    (∀ j, j < (1 : Byte).toNat → ∃ e, s.judgeEntry 8 ((3 : BitVec 16).toNat + j) ((entries.drop (j * 6)).take 6) = .ok e) ∧
    s.booth.latch = false ∧ s.emergencyActive 3 = false ∧
    (after (.writeInputActions 1 3 1 entries) s).emergencyActive 3 = true :=
  ⟨State.reset, encodeEntry (.input ⟨true, .rising, 0, .emergency⟩), witness_request, sizesOk_reset, by decide, by decide,
   only_entry ⟨.input ⟨true, .rising, 0, .emergency⟩, by decide +kernel⟩, rfl, by decide +kernel, by decide +kernel⟩

/-- Writes that are refused: an unknown table, no entries, a read-only table, a wrong length, and, of two entries at index 31 of
table 1, the second past the table's end. -/
theorem witness_WriteRefused :
    (∀ table ∈ [0, 9, 13, 255], Instr.writeTable 1 (BitVec.ofNat 8 table) 0 1 [] ∈ writeRows table 1 0 1 []) ∧
    (∀ table ∈ [11, 12], Instr.writeTable 1 (BitVec.ofNat 8 table) 0 1 [] ∈ writeRows table 1 0 1 []) ∧
    ([0] : Bytes).length ≠ (1 : Byte).toNat * entrySize 1 ∧
    (encodeEntry (.track picture) ++ encodeEntry (.track picture)).length = (2 : Byte).toNat * entrySize 1 ∧
    State.reset.judgeEntry 1 (31 + 0) (((encodeEntry (.track picture) ++ encodeEntry (.track picture)).drop (0 * entrySize 1)).take
      (entrySize 1)) = .ok (.track picture) ∧
    State.reset.judgeEntry 1 (31 + 1) (((encodeEntry (.track picture) ++ encodeEntry (.track picture)).drop (1 * entrySize 1)).take
      (entrySize 1)) = .error .outOfRange := by decide +kernel

/-- An entry in use in each table whose rule has an in-use check, and the same entry not in use. -/
theorem witness_EntryJudgementOrder :
    (onSlot .armed film [picture]).judgeEntry 1 1 (encodeEntry (.track TrackEntry.invalid)) = .error .refusedInUse ∧
    (onSlot .idle film [picture]).judgeEntry 1 1 (encodeEntry (.track TrackEntry.invalid)) = .ok (.track TrackEntry.invalid) ∧
    (onSlot .armed film []).judgeEntry 1 5 (encodeEntry (.track picture)) = .error .refusedInUse ∧
    (onSlot .armed film []).judgeEntry 2 0 (encodeEntry (.composition film)) = .error .refusedInUse ∧
    (onSlot .armed film []).judgeEntry 2 1 (encodeEntry (.composition film)) = .ok (.composition film) ∧
    (withSeq (onSlot .playing { film with licence := some 2 } []) fun q => { q with cleared := true }).judgeEntry 3 2
      (encodeEntry (.licence Licence.invalid)) = .error .refusedInUse ∧
    (onSlot .playing { film with licence := some 2 } []).judgeEntry 3 2 (encodeEntry (.licence Licence.invalid)) =
      .ok (.licence Licence.invalid) ∧
    State.reset.judgeEntry 4 23 (encodeEntry (.routing Recipe.off)) = .error .refusedInUse ∧
    State.reset.judgeEntry 4 24 (encodeEntry (.routing Recipe.off)) = .ok (.routing Recipe.off) ∧
    (inState .armed).judgeEntry 6 0 (encodeEntry (.cue CueEntry.blank)) = .error .refusedInUse ∧
    (withBooth State.reset fun b => { b with latch := true }).judgeEntry 7 0 (encodeEntry (.line ⟨.release, some .assert⟩)) =
      .error .refusedInUse ∧
    (withBooth State.reset fun b => { b with latch := true }).judgeEntry 7 0 (encodeEntry (.line ⟨.assert, none⟩)) =
      .ok (.line ⟨.assert, none⟩) ∧
    (inState .preroll).judgeEntry 10 0 (encodeEntry (.settings ShowSettings.defaults)) = .error .refusedInUse ∧
    (inState .armed).judgeEntry 10 0 (encodeEntry (.settings ShowSettings.defaults)) = .ok (.settings ShowSettings.defaults) := by
  decide +kernel

theorem witness_DecodedEntriesInRange : ∀ x ∈ lastEntries, decodeEntry x.1 (encodeEntry x.2.2) = .ok x.2.2 := by decide +kernel

/-- Reads: unknown tables, and the last entry of a table and one past it. -/
theorem witness_ReadTableReturnsEntries : Instr.readMeters 1 23 1 ∈ readRows 11 1 23 1 ∧ Instr.readTable 1 12 32 1 ∈ readRows 12 1 32 1 ∧
    tableEntries 11 = some 24 ∧ tableEntries 12 = some 33 ∧ (0 : Nat) < 256 ∧ (23 : BitVec 16).toNat < 24 ∧
    24 ≤ (24 : BitVec 16).toNat := by decide

/-- A busy upstream lane, with these slots, this EVENT and these requests. -/
def busy (slots : List UpParcel) (e : Option Bytes) (requests : List Request) : State :=
  withMgmt State.reset fun m => { m with lane := some ⟨.flow, []⟩, slots := slots, eventSlot := e, requests := requests }

/-- Seven taken slots. -/
def fullSlots (kind : UpKind) : List UpParcel := List.replicate 7 ⟨kind, []⟩

theorem witness_RequestQueueOrder : requestOf (.queryStatus 1) = some (.queryStatus 1) ∧
    (busy (fullSlots .flow) none (List.replicate 4 (.queryStatus 0))).inReset = false ∧
    QueuesOk (busy (fullSlots .flow) none (List.replicate 4 (.queryStatus 0))) ∧
    (busy (fullSlots .flow) none (List.replicate 4 (.queryStatus 0))).mgmt.requests.length = 4 ∧
    (busy (fullSlots .flow) none (List.replicate 3 (.queryStatus 0))).mgmt.requests.length < 4 ∧
    7 ≤ (busy (fullSlots .flow) none (List.replicate 3 (.queryStatus 0))).mgmt.slots.length ∧
    TakesRequest (busy (List.replicate 6 ⟨.flow, []⟩) none []) :=
  ⟨rfl, rfl, ⟨by decide, by decide, by decide, by decide, by decide, by decide⟩, rfl, by decide, by decide, ⟨rfl, rfl, by decide⟩⟩

/-- The lane ends a parcel: a REPLY behind a FLOW, an EVENT before a FLOW, a FLOW, nothing, and a request that waits for a slot. -/
theorem witness_TransmissionEndChoosesParcel :
    State.reset.mgmt.lane = none ∧
    (busy [⟨.flow, [1]⟩, ⟨.reply, [2]⟩] none []).mgmt.slots = [⟨.flow, [1]⟩] ++ ⟨.reply, [2]⟩ :: [] ∧
    (∀ p ∈ (busy [⟨.flow, [1]⟩] (some [3]) []).mgmt.slots, p.kind ≠ .reply) ∧
    (busy [⟨.flow, [1]⟩] (some [3]) []).mgmt.eventSlot = some [3] ∧
    (busy [⟨.flow, [1]⟩] none []).mgmt.slots = ⟨.flow, [1]⟩ :: [] ∧ (busy [] none []).mgmt.slots = [] ∧
    (busy (fullSlots .flow) (some [3]) [.queryStatus 1]).mgmt.slots.length = 7 ∧
    (∀ p ∈ (busy (fullSlots .flow) (some [3]) [.queryStatus 1]).mgmt.slots, p.kind ≠ .reply) ∧
    (busy (fullSlots .reply) none [.queryStatus 1]).mgmt.reserved = false ∧
    (∃ p ∈ (busy (fullSlots .reply) none [.queryStatus 1]).mgmt.slots, p.kind = .reply) ∧
    (∀ tag, Request.queryStatus 1 ≠ .warmReset tag) ∧
    (busy (fullSlots .reply) none [.warmReset 1]).mgmt.requests = .warmReset 1 :: [] ∧
    (∃ p ∈ (busy (fullSlots .reply) none [.warmReset 1]).mgmt.slots, p.kind = .reply) :=
  ⟨rfl, rfl, by decide, rfl, rfl, rfl, rfl, by decide, rfl, by decide, fun _ => by simp, rfl, by decide⟩

/-- The port hunts after power-on reset, and receives after a start mark; 1037 bytes are more than a parcel has. -/
theorem witness_ReceiveFramingEvents : State.reset.port.framing = .hunting ∧ (receiving State.reset).port.framing = .receiving ∧
    1036 < (List.replicate 1037 (0 : Byte)).length := ⟨rfl, rfl, by decide +kernel⟩

/-- Bytes that fail each check of R2, and good parcels of each kind. -/
theorem witness_ParcelChecksAndRouting : (receiving State.reset).inReset = false ∧ (receiving State.reset).port.framing = .receiving ∧
    (List.replicate 9 (0 : Byte)).length < 10 ∧ 1024 < field ([0x20, 0, 0, 0, 0, 0, 0, 0, 4, 1] : Bytes) 8 2 ∧
    ([0x20, 0, 0, 0, 0, 0, 0, 0, 0, 1, 0, 0] : Bytes).length < 12 + field ([0x20, 0, 0, 0, 0, 0, 0, 0, 0, 1, 0, 0] : Bytes) 8 2 ∧
    (∀ head ∈ ([0x00, 0x20, 0x21, 0x40, 0x41, 0x60, 0x80, 0xE0] : Bytes),
      12 + field (withCheck [head, 0, 0, 0, 0, 0, 0, 0, 0, 1, 7]) 8 2 ≤ (withCheck [head, 0, 0, 0, 0, 0, 0, 0, 0, 1, 7]).length ∧
      field (withCheck [head, 0, 0, 0, 0, 0, 0, 0, 0, 1, 7]) (10 + 1) 2 =
        (crc16 ((withCheck [head, 0, 0, 0, 0, 0, 0, 0, 0, 1, 7]).take (10 + 1))).toNat) := by decide +kernel

/-- A port in RECEIVING and a show on slot 0, where track 1 has this entry and this run state. -/
def carrying (q : ShowState) (e : TrackEntry) (k : Track) : State :=
  receiving { onSlot q { film with duration := 200, rateCode := 7 } [e] with tracks := (List.replicate 32 Track.empty).set 1 k }

theorem carrying_takes (q : ShowState) (e : TrackEntry) (k : Track) : QueuesOk (carrying q e k) := queuesOk_fresh rfl

/-- A parcel of track 1 on frame 5. -/
def onFrame5 (first last : Bool) (payload : Bytes) : Parcel := ⟨.essence, 1, first, last, .mono, 7, 5, payload⟩

/-- A track that expects sequence number 7. -/
def expecting : Track := { Track.empty with expected := some 7 }

/-- An unscheduled track (no show), and a scheduled one; and each way in which a track is not scheduled. -/
theorem witness_UnscheduledParcelDropped :
    Received (carrying .idle picture expecting) (parcelBytes (onFrame5 true true [9])) (onFrame5 true true [9]) ∧
    QueuesOk (carrying .idle picture expecting) ∧ (carrying .idle picture expecting).scheduled 1 = false ∧
    Received (carrying .armed picture expecting) (parcelBytes (onFrame5 true true [9])) (onFrame5 true true [9]) ∧
    (carrying .armed picture expecting).scheduled 1 = true ∧
    ((carrying .armed picture expecting).trackEntry 2).valid = false ∧
    ((carrying .armed { picture with slot := 3 } expecting).seq.slotAt 1 ≠ some 3 ∧
      (carrying .armed { picture with slot := 3 } expecting).seq.slotAt (1 + 1) ≠ some 3) :=
  ⟨⟨rfl, rfl, by decide +kernel, by decide +kernel⟩, carrying_takes _ _ _, by decide,
   ⟨rfl, rfl, by decide +kernel, by decide +kernel⟩, by decide, by decide, by decide, by decide⟩

/-- A parcel with sequence number 7 where none, 7, 8 (a duplicate) and 9 (a gap) was expected. -/
theorem witness_SequenceCheckEffects (e : Option Nat) :
    Received (carrying .armed picture { Track.empty with expected := e }) (parcelBytes (onFrame5 true true [9])) (onFrame5 true true [9]) ∧
    QueuesOk (carrying .armed picture { Track.empty with expected := e }) ∧ (carrying .armed picture expecting).scheduled 1 = true ∧
    ((carrying .armed picture { Track.empty with expected := e }).track 1).expected = e ∧
    7 ≠ 8 ∧ (7 + 1) % 65536 = 8 ∧ 7 ≠ 9 ∧ (7 + 1) % 65536 ≠ 9 :=
  ⟨⟨rfl, rfl, by decide +kernel, by decide +kernel⟩, carrying_takes _ _ _, by decide, rfl, by decide, by decide, by decide, by decide⟩

/-- A parcel of a scheduled track that the sequence check accepts. -/
theorem sequenced_fresh {s : State} {p : Parcel} {bytes : Bytes} {gap : Bool} (running : s.inReset = false)
    (port : s.port.framing = .receiving) (size : bytes.length ≤ Config.maxParcel) (good : checkParcel bytes = .good p)
    (rest : (p.kind = .essence ∧ 1 ≤ p.track ∧ p.track ≤ 31) ∧ s.tracks.length = 32 ∧ s.scheduled p.track = true)
    (sequence : if gap then ∃ e, (s.track p.track).expected = some e ∧ p.sequence ≠ e ∧ (p.sequence + 1) % 65536 ≠ e
      else (s.track p.track).expected = none ∨ (s.track p.track).expected = some p.sequence) :
    Sequenced s bytes p gap :=
  ⟨⟨running, port, size, good⟩, rest.1.1, rest.1.2, rest.2.1, rest.2.2, sequence⟩

/-- A picture track that expects a sequence number, with a unit of frame 5 in assembly, damaged or not. -/
def inAssembly (e : Nat) (damaged : Bool) : Track :=
  { Track.empty with
    expected := some e
    assembly := some ⟨5, .mono, [], 0, damaged⟩
    window := some ⟨5, .mono, .inProgress :: List.replicate 63 .absent, []⟩ }

/-- Fragments over an intact and a damaged unit, without and behind a gap: of the unit's frame, of another frame (R15), and of an eye
that a MONO composition has not (R13); and a continuation where there is no unit. -/
theorem witness_SequenceCheckEffects_units :
    (∀ x ∈ [(7, false), (9, true)], ∀ d ∈ [true, false], ∀ first ∈ [true, false], ∀ y ∈ [(Eye.mono, 5), (.mono, 6), (.left, 5)],
      Sequenced (carrying .playing picture (inAssembly x.1 d)) (parcelBytes ⟨.essence, 1, first, false, y.1, 7, y.2, [9]⟩)
        ⟨.essence, 1, first, false, y.1, 7, y.2, [9]⟩ x.2 ∧
      QueuesOk (carrying .playing picture (inAssembly x.1 d)) ∧
      (carrying .playing picture (inAssembly x.1 d)).assembly 1 = some ⟨5, .mono, [], 0, d⟩ ∧
      (carrying .playing picture (inAssembly x.1 d)).contentOk ⟨.essence, 1, first, false, y.1, 7, y.2, [9]⟩ =
        decide (y.1 = .mono)) ∧
    Sequenced (carrying .playing picture expecting) (parcelBytes (onFrame5 false false [9])) (onFrame5 false false [9]) false ∧
    (carrying .playing picture expecting).assembly 1 = none := by
  have h : ∀ x ∈ [(7, false), (9, true)], ∀ d ∈ [true, false], ∀ first ∈ [true, false],
      ∀ y ∈ [(Eye.mono, 5), (.mono, 6), (.left, 5)],
      ((parcelBytes ⟨.essence, 1, first, false, y.1, 7, y.2, [9]⟩).length ≤ Config.maxParcel ∧
        checkParcel (parcelBytes ⟨.essence, 1, first, false, y.1, 7, y.2, [9]⟩) =
          .good ⟨.essence, 1, first, false, y.1, 7, y.2, [9]⟩ ∧
        (carrying .playing picture (inAssembly x.1 d)).scheduled 1 = true ∧
        ((carrying .playing picture (inAssembly x.1 d)).track 1).expected = some x.1 ∧ (x.2 = true ↔ x.1 = 9) ∧
        (x.2 = false ↔ x.1 = 7)) ∧
      (carrying .playing picture (inAssembly x.1 d)).assembly 1 = some ⟨5, .mono, [], 0, d⟩ ∧
      (carrying .playing picture (inAssembly x.1 d)).contentOk ⟨.essence, 1, first, false, y.1, 7, y.2, [9]⟩ =
        decide (y.1 = .mono) := by decide +kernel
  refine ⟨fun x hx d hd first hf y hy => ?_, sequenced_fresh rfl rfl (by decide +kernel) (by decide +kernel)
    ⟨by decide, rfl, by decide⟩ (.inr rfl), by decide⟩
  obtain ⟨⟨size, good, sched, exp, g9, g7⟩, rest⟩ := h x hx d hd first hf y hy
  refine ⟨sequenced_fresh rfl rfl size good ⟨⟨rfl, (by decide : 1 ≤ 1 ∧ 1 ≤ 31)⟩, rfl, sched⟩ ?_,
    queuesOk_fresh rfl, rest⟩
  split
  · next hg => exact ⟨9, by rw [exp, g9.mp hg], (by decide : 7 ≠ 9), (by decide : (7 + 1) % 65536 ≠ 9)⟩
  · next hg => exact .inr (by rw [exp, g7.mp (by simpa using hg)])

/-- The parcel of `onFrame5` is accepted on a scheduled track that expects it. -/
theorem accepted_fresh {s : State} {p : Parcel} {bytes : Bytes} (running : s.inReset = false) (port : s.port.framing = .receiving)
    (size : bytes.length ≤ Config.maxParcel) (good : checkParcel bytes = .good p)
    (rest : (p.kind = .essence ∧ 1 ≤ p.track ∧ p.track ≤ 31) ∧ s.tracks.length = 32 ∧ s.scheduled p.track = true ∧
      ((s.track p.track).expected = none ∨ (s.track p.track).expected = some p.sequence) ∧ s.contentOk p = true) :
    Accepted s bytes p :=
  ⟨⟨running, port, size, good⟩, rest.1.1, rest.1.2, rest.2.1, rest.2.2.1, rest.2.2.2.1, rest.2.2.2.2⟩

/-- A sound unit of 2 cells in assembly on frame 5, with bytes that fill them, on a track that holds `held` cells. -/
def soundTrack (held : Nat) (bytes : Bytes) : Track :=
  { expecting with assembly := some ⟨5, .noEye, bytes, (bytes.length + 255) / 256, false⟩, cellsHeld := held }

/-- A sound parcel that needs one cell at the last cell of the quota of 30, and one past it. -/
theorem witness_SoundParcelGrant :
    Accepted (carrying .playing sound (soundTrack 29 (List.replicate 512 1))) (parcelBytes (onFrame5 false false [9]))
      (onFrame5 false false [9]) ∧
    (carrying .playing sound (soundTrack 29 (List.replicate 512 1))).assembly 1 =
      some ⟨5, .noEye, List.replicate 512 1, 2, false⟩ ∧
    (512 + 1 + 255) / 256 - 2 = 1 ∧ 1 ≤ (carrying .playing sound (soundTrack 29 (List.replicate 512 1))).freeCells ∧
    ((carrying .playing sound (soundTrack 29 (List.replicate 512 1))).track 1).cellsHeld + 1 ≤ sound.quota ∧
    Accepted (carrying .playing sound (soundTrack 30 (List.replicate 512 1))) (parcelBytes (onFrame5 false false [9]))
      (onFrame5 false false [9]) ∧
    sound.quota < ((carrying .playing sound (soundTrack 30 (List.replicate 512 1))).track 1).cellsHeld + 1 :=
  ⟨accepted_fresh rfl rfl (by decide +kernel) (by decide +kernel) (by decide +kernel), by decide +kernel, by decide,
   by decide +kernel, by decide +kernel, accepted_fresh rfl rfl (by decide +kernel) (by decide +kernel) (by decide +kernel),
   by decide +kernel⟩

/-- The last fragment of a sound unit of 400 samples on one channel, with a new frame index. -/
theorem witness_SoundParcelGrant_last :
    Accepted (carrying .playing sound (soundTrack 5 (List.replicate 1199 1))) (parcelBytes (onFrame5 false true [9]))
      (onFrame5 false true [9]) ∧
    (carrying .playing sound (soundTrack 5 (List.replicate 1199 1))).assembly 1 =
      some ⟨5, .noEye, List.replicate 1199 1, 5, false⟩ ∧
    (List.replicate 1199 (1 : Byte) ++ [9]).length = samplesPerFrame 7 * sound.channels.getD 0 * 3 ∧
    ((carrying .playing sound (soundTrack 5 (List.replicate 1199 1))).track 1).lastFrame = none :=
  ⟨accepted_fresh rfl rfl (by decide +kernel) (by decide +kernel) (by decide +kernel), by decide +kernel, by decide +kernel,
   by decide +kernel⟩

/-- The first fragment of a sound unit on a track without one; a last fragment one byte too long; and one of an old frame index. -/
theorem witness_SoundParcelGrant_ends :
    Accepted (carrying .playing sound expecting) (parcelBytes (onFrame5 true false [9])) (onFrame5 true false [9]) ∧
    (carrying .playing sound expecting).assembly 1 = none ∧ sound.kind.isSound = true ∧
    1 ≤ (carrying .playing sound expecting).freeCells ∧
    (List.replicate 1200 (1 : Byte) ++ [9]).length ≠ samplesPerFrame 7 * sound.channels.getD 0 * 3 ∧
    Accepted (carrying .playing sound { soundTrack 5 (List.replicate 1199 1) with lastFrame := some 5 })
      (parcelBytes (onFrame5 false true [9])) (onFrame5 false true [9]) ∧
    ((carrying .playing sound { soundTrack 5 (List.replicate 1199 1) with lastFrame := some 5 }).track 1).lastFrame = some 5 :=
  ⟨accepted_fresh rfl rfl (by decide +kernel) (by decide +kernel) (by decide +kernel), by decide, rfl, by decide +kernel,
   by decide +kernel, accepted_fresh rfl rfl (by decide +kernel) (by decide +kernel) (by decide +kernel), by decide +kernel⟩

/-- A picture track with a window from frame 5 whose first entry is this. -/
def pictureTrack (a : Arrival) (unit : Option Assembly) : Track :=
  { expecting with assembly := unit, window := some ⟨5, .mono, a :: List.replicate 63 .absent, []⟩ }

/-- A picture parcel of a frame. -/
def onPicture (frame : Nat) (first last : Bool) : Parcel := ⟨.essence, 1, first, last, .mono, 7, frame, [9]⟩

/-- First fragments at the bounds of the window (4, 5, 68 and 69) with its first entry ABSENT or COMPLETE, and a continuation. -/
theorem witness_PictureParcelForwarding :
    (∀ frame ∈ [4, 5, 68, 69], ∀ last ∈ [true, false], ∀ a ∈ [Arrival.absent, .complete, .damaged],
      checkParcel (parcelBytes (onPicture frame true last)) = .good (onPicture frame true last) ∧
      (carrying .playing picture (pictureTrack a none)).contentOk (onPicture frame true last) = true ∧
      (carrying .playing picture (pictureTrack a none)).scheduled 1 = true) ∧
    Accepted (carrying .playing picture (pictureTrack .complete none)) (parcelBytes (onPicture 5 true true)) (onPicture 5 true true) ∧
    QueuesOk (carrying .playing picture (pictureTrack .complete none)) ∧
    (carrying .playing picture (pictureTrack .complete none)).intact 1 = false ∧
    Accepted (carrying .playing picture (pictureTrack .inProgress (some ⟨5, .mono, [], 0, false⟩)))
      (parcelBytes (onPicture 5 false true)) (onPicture 5 false true) ∧
    (carrying .playing picture (pictureTrack .inProgress (some ⟨5, .mono, [], 0, false⟩))).assembly 1 =
      some ⟨5, .mono, [], 0, false⟩ :=
  ⟨by decide +kernel, accepted_fresh rfl rfl (by decide +kernel) (by decide +kernel) (by decide +kernel), carrying_takes _ _ _,
   by decide, accepted_fresh rfl rfl (by decide +kernel) (by decide +kernel) (by decide +kernel), by decide⟩

/-- Late and early continuations, over an intact and a damaged unit. -/
theorem witness_PictureParcelForwarding_outside : ∀ frame ∈ [4, 69], ∀ d ∈ [true, false],
    Accepted (carrying .playing picture (pictureTrack .inProgress (some ⟨5, .mono, [], 0, d⟩)))
      (parcelBytes (onPicture frame false false)) (onPicture frame false false) ∧
    QueuesOk (carrying .playing picture (pictureTrack .inProgress (some ⟨5, .mono, [], 0, d⟩))) := by
  intro frame hf d hd
  have h : ∀ frame ∈ [4, 69], ∀ d ∈ [true, false],
      (parcelBytes (onPicture frame false false)).length ≤ Config.maxParcel ∧
      checkParcel (parcelBytes (onPicture frame false false)) = .good (onPicture frame false false) ∧
      (carrying .playing picture (pictureTrack .inProgress (some ⟨5, .mono, [], 0, d⟩))).scheduled 1 = true ∧
      (carrying .playing picture (pictureTrack .inProgress (some ⟨5, .mono, [], 0, d⟩))).contentOk (onPicture frame false false) =
        true := by decide +kernel
  obtain ⟨size, good, sched, ok⟩ := h frame hf d hd
  exact ⟨accepted_fresh rfl rfl size good ⟨⟨rfl, (by decide : 1 ≤ 1 ∧ 1 ≤ 31)⟩, rfl, sched, .inr rfl, ok⟩, queuesOk_fresh rfl⟩

/-- An item with id 3, from frame 2 up to frame 6, in region 1, with the text "A". -/
def itemBytes : Bytes := [0, 3, 0, 0, 2, 0, 0, 6, 1, 0, 0, 0, 1, 0x41]

/-- The show at frame f, with the schedule holding n items. -/
def atFrame (f n : Nat) : State :=
  { withSeq (carrying .playing subtitle expecting) (fun q => { q with frame := f }) with
    sub := { Subtitles.reset with schedule := List.replicate n ⟨1, 2, 9, 0, 0, 0, [], 1⟩ } }

/-- The item offered at frame 6 (stale), at frame 5 with 96 items (refused) and with 95 (admitted late), at frame 2 (not late). -/
theorem witness_SubtitleParcelAdmission :
    Accepted (atFrame 6 0) (parcelBytes (onFrame5 true true itemBytes)) (onFrame5 true true itemBytes) ∧ QueuesOk (atFrame 6 0) ∧
    itemWellFormed itemBytes = true ∧ (readItem 1 itemBytes).outFrame ≤ (atFrame 6 0).seq.frame ∧
    (atFrame 6 0).assembly 1 = none ∧ ((atFrame 6 0).track 1).lastFrame = none ∧ 2 ≤ (atFrame 6 0).freeCells ∧
    ((atFrame 6 0).track 1).cellsHeld + 2 ≤ subtitle.quota ∧
    Accepted (atFrame 5 96) (parcelBytes (onFrame5 true true itemBytes)) (onFrame5 true true itemBytes) ∧
    (atFrame 5 96).seq.frame < (readItem 1 itemBytes).outFrame ∧ 96 ≤ (atFrame 5 96).sub.schedule.length ∧
    Accepted (atFrame 5 95) (parcelBytes (onFrame5 true true itemBytes)) (onFrame5 true true itemBytes) ∧
    (atFrame 5 95).sub.schedule.length < 96 ∧ (readItem 1 itemBytes).inFrame < (atFrame 5 95).seq.frame ∧
    (atFrame 5 95).sub.schedule.Pairwise (fun x y => x.inFrame ≤ y.inFrame) ∧
    Accepted (atFrame 2 1) (parcelBytes (onFrame5 true true itemBytes)) (onFrame5 true true itemBytes) := by
  refine ⟨accepted_fresh rfl rfl (by decide +kernel) (by decide +kernel) (by decide +kernel), queuesOk_fresh rfl, by decide,
    by decide, by decide, by decide, by decide, by decide,
    accepted_fresh rfl rfl (by decide +kernel) (by decide +kernel) (by decide +kernel), by decide, by decide +kernel,
    accepted_fresh rfl rfl (by decide +kernel) (by decide +kernel) (by decide +kernel), by decide +kernel, by decide, ?_,
    accepted_fresh rfl rfl (by decide +kernel) (by decide +kernel) (by decide +kernel)⟩
  exact List.pairwise_replicate.mpr (Or.inr (Nat.le_refl _))

/-- A subtitle track on which this many bytes of an item are in assembly, with the last frame index delivered. -/
def itemTrack (bytes : Nat) (last : Option Nat) : Track :=
  { expecting with assembly := some ⟨5, .noEye, (itemBytes ++ List.replicate 498 0x41).take bytes, 2, false⟩
                   cellsHeld := 2, lastFrame := last }

/-- A continuation that ends a well-formed item (new, and of an old frame index), one that does not, one that makes 512 bytes and one
that makes 513; and a first fragment with the quota used up. -/
theorem witness_SubtitleParcelAdmission_fragments :
    (∀ x ∈ [(13, none), (13, some 5), (12, none), (511, none), (512, none)], ∀ last ∈ [true, false],
      Accepted (carrying .playing subtitle (itemTrack x.1 x.2)) (parcelBytes (onFrame5 false last [0x41])) (onFrame5 false last [0x41]) ∧
      QueuesOk (carrying .playing subtitle (itemTrack x.1 x.2)) ∧
      ((carrying .playing subtitle (itemTrack x.1 x.2)).assembly 1).map (fun a => (a.bytes.length, a.cells, a.frame)) =
        some (x.1, 2, 5)) ∧
    itemWellFormed (itemBytes.take 13 ++ [0x41]) = true ∧ itemWellFormed (itemBytes.take 12 ++ [0x41]) = false ∧
    Accepted (carrying .playing subtitle { expecting with cellsHeld := 3 }) (parcelBytes (onFrame5 true false [9]))
      (onFrame5 true false [9]) ∧
    subtitle.quota < ((carrying .playing subtitle { expecting with cellsHeld := 3 }).track 1).cellsHeld + 2 := by
  refine ⟨fun x hx last hl => ?_, by decide, by decide,
    accepted_fresh rfl rfl (by decide +kernel) (by decide +kernel) (by decide +kernel), by decide⟩
  have h : ∀ x ∈ [(13, none), (13, some 5), (12, none), (511, none), (512, none)], ∀ last ∈ [true, false],
      ((parcelBytes (onFrame5 false last [0x41])).length ≤ Config.maxParcel ∧
        checkParcel (parcelBytes (onFrame5 false last [0x41])) = .good (onFrame5 false last [0x41]) ∧
        (carrying .playing subtitle (itemTrack x.1 x.2)).scheduled 1 = true ∧
        (carrying .playing subtitle (itemTrack x.1 x.2)).contentOk (onFrame5 false last [0x41]) = true) ∧
      ((carrying .playing subtitle (itemTrack x.1 x.2)).assembly 1).map (fun a => (a.bytes.length, a.cells, a.frame)) =
        some (x.1, 2, 5) := by decide +kernel
  obtain ⟨⟨size, good, sched, ok⟩, rest⟩ := h x hx last hl
  exact ⟨accepted_fresh rfl rfl size good ⟨⟨rfl, (by decide : 1 ≤ 1 ∧ 1 ≤ 31)⟩, rfl, sched, .inr rfl, ok⟩, queuesOk_fresh rfl, rest⟩

/-- A window from frame f with n COMPLETE entries. -/
def arrived (f n : Nat) : Track :=
  { Track.empty with window := some ⟨f, .mono, List.replicate n .complete ++ List.replicate (64 - n) .absent, []⟩ }

/-- A show in this state at frame f of 10, with n frames of picture arrived. -/
def showing (q : ShowState) (f n : Nat) : State :=
  { onSlot q film [picture] with
    tracks := (List.replicate 32 Track.empty).set 1 (arrived f n)
    seq := { Sequencer.reset with state := q, playlist := [0], position := 1, frame := f, cleared := true }
    acct := if q.onAir then { Accounting.powerOn with log := [{ openRecord with presented := f }] } else Accounting.powerOn }

theorem witness_ReadinessMeaning : (showing .preroll 0 8).currentTrack .picture = some 1 ∧ ((showing .preroll 0 8).track 1).window.isSome = true ∧
    (showing .preroll 0 8).ready = true ∧ (showing .preroll 0 7).ready = false ∧ (showing .stalled 7 3).ready = true := by decide

/-- Resting boundaries: no show, and PREROLL short of one frame with the flow count one short of the interval of 8, and at it. -/
theorem witness_RestingBoundaryIsSilent : State.reset.inReset = false ∧ QueuesOk State.reset ∧ State.reset.seq.state = .idle ∧
    QueuesOk (showing .preroll 0 7) ∧ (showing .preroll 0 7).ready = false ∧
    (showing .preroll 0 7).mgmt.flowCount + 1 < (showing .preroll 0 7).tables.settings.flowInterval ∧
    QueuesOk (withMgmt (showing .preroll 0 7) fun m => { m with flowCount := 7 }) ∧
    (withMgmt (showing .preroll 0 7) fun m => { m with flowCount := 7 }).ready = false ∧
    (withMgmt (showing .preroll 0 7) fun m => { m with flowCount := 7 }).tables.settings.flowInterval ≤ 7 + 1 :=
  ⟨rfl, queuesOk_fresh rfl, rfl, queuesOk_fresh rfl, by decide, by decide,
   ⟨by decide, by decide, by decide, by decide, by decide, by decide⟩, by decide, by decide⟩

/-- Presented frames: frame 1 shown and the last frame repeated, with the repeats at the stall limit of 12 and past it. -/
theorem witness_PresentedFrameEffects :
    (showing .playing 1 1).seq.state = .playing ∧ 0 < (1 : Nat) ∧ 1 < (showing .playing 1 1).currentComposition.duration ∧
    (showing .playing 1 1).currentTrack .picture = some 1 ∧ ((showing .playing 1 1).track 1).window = (arrived 1 1).window ∧
    (showing .playing 1 1).acct.openRecord? = some { openRecord with presented := 1 } ∧
    (showing .playing 9 0).acct.openRecord? = some { openRecord with presented := 9 } ∧
    9 < (showing .playing 9 0).currentComposition.duration ∧
    ({ showing .playing 9 0 with repeats := 11 } : State).repeats + 1 ≤ (showing .playing 9 0).tables.settings.stallLimit ∧
    (showing .playing 9 0).tables.settings.stallLimit < ({ showing .playing 9 0 with repeats := 12 } : State).repeats + 1 := by
  decide

/-- A show in this state at frame f of 10, with n frames of picture arrived, on a playlist of slots 0 and 1, of which the first has
its licence exhausted. -/
def sequel (q : ShowState) (f n : Nat) (ready : Bool) : State :=
  withSeq (withTables (showing q f n) fun x => { x with
      composition := [{ film with licence := some 2 }, film] ++ List.replicate 6 Composition.invalid
      track := [TrackEntry.invalid, picture, { picture with slot := 1 }] ++ List.replicate 29 TrackEntry.invalid
      settings := { x.settings with prerollDepth := 1 }
      licence := x.licence.set 2 ⟨true, 0, none, none, some 0, 0⟩ })
    (fun x => { x with playlist := [0, 1], cleared := false }) |>
    fun s => { s with tracks := s.tracks.set 2 (arrived 0 (if ready then 1 else 0)) }

/-- PREROLL boundaries that the licence check bars: the show ends, its next composition is not ready, and it is. -/
theorem witness_RestingBoundaryIsSilent_barred :
    (∀ s ∈ [withSeq (sequel .preroll 0 8 false) (fun x => { x with playlist := [0] }), sequel .preroll 0 8 false,
        sequel .preroll 0 8 true],
      s.inReset = false ∧ s.seq.state = .preroll ∧ s.ready = true ∧ s.seq.cleared = false ∧
      s.licenceCheck s.currentComposition = some .exhausted ∧ s.acct.log.length ≤ 64 ∧ s.acct.drops ≤ 65535 ∧
      (∀ x ∈ s.seq.playlist.zip s.seq.playlist.tail, x.1 ≠ x.2) ∧ s.tracks.length = 32) ∧
    clearedAhead (withSeq (sequel .preroll 0 8 false) fun x => { x with playlist := [0] }) = 0 ∧
    clearedAhead (sequel .preroll 0 8 true) = 2 ∧ (sequel .preroll 0 8 false).advancePosition.ready = false ∧
    (sequel .preroll 0 8 true).advancePosition.ready = true ∧ 1 ≤ (compositionAt (sequel .preroll 0 8 true) 2).duration := by
  decide +kernel

/-- The stall exit at frame 7 with three frames arrived and no cue due, and with a sheet of two cues of which the first is due. -/
theorem witness_PresentedFrameEffects_resumed :
    (showing .stalled 7 3).inReset = false ∧ (showing .stalled 7 3).seq.state = .stalled ∧ (showing .stalled 7 3).ready = true ∧
    7 < (showing .stalled 7 3).currentComposition.duration ∧ NoCueDue (showing .stalled 7 3) 7 ∧
    ∃ s : State, s = { showing .stalled 7 3 with cue := { CueEngine.reset with cursor := some ⟨510, 512⟩ } } ∧ s.ready = true ∧
      s.cue.cursor = some ⟨510, 512⟩ ∧ 512 ≤ 510 + 512 ∧ dueEntries s ⟨510, 512⟩ 7 = [510, 511] := by
  refine ⟨rfl, rfl, by decide, by decide, ?_, _, rfl, by decide, rfl, by decide, by decide +kernel⟩
  intro c hc; cases hc

/-- A show at frame 5 with a sound unit of 2 samples for it, behind a stale one, in blocks of 2 samples. -/
def sounding : State :=
  { onSlot .playing film [picture, sound] with
    tracks := ((List.replicate 32 Track.empty).set 2 { Track.empty with
      queue := [⟨4, [], 3⟩, ⟨5, [0x80, 0, 0, 0x7F, 0xFF, 0xFF], 1⟩], cellsHeld := 4 })
    seq := { Sequencer.reset with state := .playing, playlist := [0], position := 1, frame := 5, cleared := true }
    clk := { Clock.powerOn with period := 2 } }

/-- Its two samples are the least and the greatest of 24 bits. -/
theorem witness_SoundBlockMixed : sounding.inReset = false ∧ sounding.tracks.length = 32 ∧ sounding.seq.state = .playing ∧
    0 < sounding.seq.frame ∧ sounding.seq.frame < sounding.currentComposition.duration ∧
    sounding.currentTrack .soundMain = some 2 ∧ sounding.currentTrack .soundAux = none ∧
    unitAt sounding (some 2) 5 = some ⟨5, [0x80, 0, 0, 0x7F, 0xFF, 0xFF], 1⟩ ∧ UnitFits sounding (some 2) 16 5 ∧
    UnitFits sounding none 8 5 ∧ inputAt sounding 5 0 0 = -8388608 ∧ inputAt sounding 5 0 1 = 8388607 := by
  refine ⟨by decide, by decide, by decide, by decide, by decide, by decide, by decide, by decide, ?_, ?_, by decide +kernel,
    by decide +kernel⟩
  · intro k u hk hu
    obtain rfl : 2 = k := Option.some.inj hk
    have h : unitAt sounding (some 2) 5 = some ⟨5, [0x80, 0, 0, 0x7F, 0xFF, 0xFF], 1⟩ := by decide
    obtain rfl := Option.some.inj (h.symm.trans hu)
    decide
  · intro k u hk; cases hk

/-- A show at frame 3 with one item of its active subtitle track due and one later. -/
def titled : State :=
  { onSlot .playing film [subtitle] with
    tracks := (List.replicate 32 Track.empty).set 1 { Track.empty with cellsHeld := 4 }
    freeCells := 8188
    sub := { Subtitles.reset with schedule := [⟨7, 3, 6, 0, 0, 0, [], 1⟩, ⟨8, 4, 6, 0, 0, 0, [], 1⟩], active := some 1 }
    seq := { Sequencer.reset with state := .playing, playlist := [0], position := 1, frame := 3, cleared := true } }

theorem titled_track_past {t : Nat} (h : 32 ≤ t) : titled.track t = Track.empty := by
  have l : titled.tracks.length = 32 := rfl
  rw [State.track, List.getD_eq_getElem?_getD, List.getElem?_eq_none (by omega)]; rfl

theorem cellsOk_titled : CellsOk titled := by
  refine ⟨rfl, rfl, by decide +kernel, ?_, by decide +kernel, ?_, ?_, ?_, ?_⟩
  · intro t
    by_cases h : t < 32
    · exact (by decide +kernel : ∀ t < 32, (titled.track t).cellsHeld ≤ (titled.trackEntry t).quota) t h
    · rw [titled_track_past (by omega)]; exact Nat.zero_le _
  · intro t a h
    by_cases l : t < 32
    · rw [(by decide +kernel : ∀ t < 32, titled.assembly t = none) t l] at h; cases h
    · rw [State.assembly, titled_track_past (by omega)] at h; cases h
  · intro t a h
    by_cases l : t < 32
    · rw [(by decide +kernel : ∀ t < 32, titled.assembly t = none) t l] at h; cases h
    · rw [State.assembly, titled_track_past (by omega)] at h; cases h
  · intro i h
    have e : ∀ i ∈ titled.sub.schedule, i.track < 32 ∧ i.region ≤ 3 ∧ titled.scheduled i.track = true := by decide +kernel
    rcases h with h | h
    · exact e i h
    · simp [titled, Subtitles.reset] at h
  · intro t h
    by_cases l : t < 32
    · exact (by decide +kernel : ∀ t < 32, titled.scheduled t = false →
        titled.track t = { Track.empty with counters := (titled.track t).counters }) t l h
    · rw [titled_track_past (by omega)]

theorem witness_SubtitleWork : titled.inReset = false ∧ CellsOk titled ∧ titled.seq.state = .playing ∧ 0 < titled.seq.frame ∧
    titled.seq.frame < titled.currentComposition.duration ∧ titled.sub.preempted ≤ 65535 ∧ titled.cue.cursor = none ∧
    dueAt titled 3 0 = [⟨7, 3, 6, 0, 0, 0, [], 1⟩] ∧ overlayAt titled 3 = [.showItem 0 1 7 255 []] :=
  ⟨rfl, cellsOk_titled, rfl, by decide, by decide, by decide, rfl, by decide, by decide⟩

/-- The count frame 5 and the frame before it; a repeat there passes the tolerance of 0. -/
theorem witness_ShowingCountJudged : (showing .playing 5 1).acct.openRecord? = some { openRecord with presented := 5 } ∧
    (showing .playing 5 1).currentComposition.countFrame = 5 ∧
    (((showing .playing 5 1).accountVerdict 5 true).acct.openRecord?.map Record.counted) = some true ∧
    (((showing .playing 5 1).accountVerdict 5 false).acct.openRecord?.map Record.counted) = some false ∧
    (((showing .playing 4 1).accountVerdict 4 true).acct.openRecord?.map Record.counted) = some false := by decide

theorem witness_CompositionStartEffects :
    (showing .preroll 0 8).inReset = false ∧ (showing .preroll 0 8).seq.state = .preroll ∧ (showing .preroll 0 8).seq.frame = 0 ∧
    (showing .preroll 0 8).currentComposition = film ∧ 1 ≤ (showing .preroll 0 8).tables.settings.prerollDepth ∧
    1 ≤ film.duration ∧ (showing .preroll 0 8).ready = true ∧ (showing .preroll 0 8).seq.cleared = true ∧
    (showing .preroll 0 8).licenceCheck film = none ∧ (showing .preroll 0 8).currentTrack .picture = some 1 ∧
    ((showing .preroll 0 8).track 1).window = (arrived 0 8).window ∧ film.sheet = none := by decide

/-- The same start with a sheet of the greatest length: all 512 cue entries. -/
theorem witness_CompositionStartEffects_sheet : ∃ s : State,
    s = withTables (showing .preroll 0 8) (fun t => { t with composition := t.composition.set 0 { film with sheet := some (0, 512) } }) ∧
    s.inReset = false ∧ s.seq.state = .preroll ∧ s.seq.frame = 0 ∧ s.currentComposition.sheet = some (0, 512) ∧
    1 ≤ s.currentComposition.duration ∧ s.ready = true ∧ s.seq.cleared = true :=
  ⟨_, rfl, rfl, rfl, rfl, rfl, by decide, by decide, rfl⟩

theorem witness_EndBoundaryEndsShow : (showing .playing 10 0).inReset = false ∧ (showing .playing 10 0).seq.state = .playing ∧
    (showing .playing 10 0).currentComposition.duration ≤ (showing .playing 10 0).seq.frame ∧
    (showing .playing 10 0).seq.playlist.length ≤ (showing .playing 10 0).seq.position ∧
    (showing .playing 10 0).acct.openRecord? = some { openRecord with presented := 10 } := by decide

/-- End boundaries that go on, in PLAYING and out of a stall: the next composition is not ready, and it is; and one with a cursor at
a due entry. -/
theorem witness_EndBoundaryEndsShow_next :
    (∀ q ∈ [ShowState.playing, .stalled], ∀ ready ∈ [true, false],
      (sequel q 10 0 ready).inReset = false ∧ (sequel q 10 0 ready).seq.state = q ∧ (sequel q 10 0 ready).ready = true ∧
      (sequel q 10 0 ready).currentComposition.duration ≤ (sequel q 10 0 ready).seq.frame ∧
      (sequel q 10 0 ready).cue.cursor = none ∧ (sequel q 10 0 ready).acct.log.length ≤ 64 ∧
      (sequel q 10 0 ready).acct.drops ≤ 65535 ∧
      (∀ x ∈ (sequel q 10 0 ready).seq.playlist.zip (sequel q 10 0 ready).seq.playlist.tail, x.1 ≠ x.2) ∧
      (sequel q 10 0 ready).tracks.length = 32 ∧ clearedAhead (sequel q 10 0 ready) = 2 ∧
      (sequel q 10 0 ready).advancePosition.ready = ready) ∧
    1 ≤ (compositionAt (sequel .playing 10 0 true) 2).duration ∧
    dueEntries { sequel .playing 10 0 true with cue := { CueEngine.reset with cursor := some ⟨511, 512⟩ } } ⟨511, 512⟩ 10 = [511] := by
  decide +kernel

/-- A playlist of three positions, of which the second is barred: its licence is exhausted. -/
def barredSecond : State :=
  withSeq (withTables (onSlot .playing film []) fun t =>
    { t with composition := [film, { film with licence := some 2 }] ++ List.replicate 6 Composition.invalid })
    fun q => { q with playlist := [0, 1, 0] }

theorem witness_AdvanceFindsCleared : barredSecond.acct.log.length ≤ 64 ∧ barredSecond.acct.drops ≤ 65535 ∧
    (∀ x ∈ barredSecond.seq.playlist.zip barredSecond.seq.playlist.tail, x.1 ≠ x.2) ∧ barredSecond.tracks.length = 32 ∧
    barredAhead barredSecond = [2] ∧ clearedAhead barredSecond = 3 ∧
    barAt barredSecond 2 = some .exhausted := by decide

theorem witness_LicenceCheckOrder : film.licence = none ∧ ({ film with licence := some 2 } : Composition).licence = some 2 ∧
    State.reset.licence 2 = Licence.invalid := by decide

theorem witness_FaderStepTowardTarget : (0 : Nat) < 32768 ∧ (32768 : Nat) ≤ 32768 ∧ (65535 : Nat) ≤ 65535 := by decide

/-! ### Cues, booth lines and inputs -/

/-- Input 1 with this entry, raw level and debounced level, and a pending change or none. -/
def atInput (e : InputEntry) (raw debounced : InLevel) (waiting : Option Nat) : State :=
  withTables (withBooth State.reset fun b => { b with inputs := b.inputs.set 1 ⟨raw, debounced, waiting⟩ })
    fun t => { t with input := t.input.set 1 e }

/-- Input 1 goes HIGH, and its action runs a macro of the one cue at index 0. -/
def macroOf (c : Cue) : State :=
  withTables (atInput ⟨true, .rising, 2, .runMacro 0 1⟩ .high .low (some 1)) fun t => { t with cue := t.cue.set 0 ⟨0, c⟩ }

theorem queuesOk_macroOf (c : Cue) : QueuesOk (macroOf c) := queuesOk_fresh rfl

/-- A macro of one cue, of each kind; the last calls itself. -/
theorem witness_CueMacrosByKind : ∀ c ∈ [Cue.empty, .lineLevel 15 .assert, .linePulse 3 15 .repeating 2 1 65535, .pulseStop 3,
      .fader 32768 65535, .route 7, .subtitles (some 31), .mark 65535, .holdShow, .callMacro 0 1],
    (macroOf c).inReset = false ∧ ((macroOf c).input 1).waiting ≠ none ∧ ((macroOf c).inputEntry 1).enabled = true ∧
    edgeTo ((macroOf c).input 1).raw = ((macroOf c).inputEntry 1).edge ∧
    ((macroOf c).inputEntry 1).action = .runMacro 0 1 ∧ ((macroOf c).cueEntry 0).cue = c := by decide +kernel

/-- A macro of two entries that runs one of two entries, which runs the first again. -/
theorem witness_CueMacrosByKind_nested : ∃ s : State,
    s = withTables (macroOf Cue.empty) (fun t => { t with
      cue := [⟨0, .callMacro 2 2⟩, ⟨0, .mark 1⟩, ⟨0, .mark 2⟩, ⟨0, .callMacro 0 2⟩] ++ List.replicate 508 CueEntry.blank,
      input := t.input.set 1 ⟨true, .rising, 2, .runMacro 0 2⟩ }) ∧
    s.inReset = false ∧ (s.input 1).waiting ≠ none ∧ (s.inputEntry 1).enabled = true ∧
    edgeTo (s.input 1).raw = (s.inputEntry 1).edge ∧ (s.inputEntry 1).action = .runMacro 0 2 ∧
    flatRun s Config.macroDepth 0 2 =
      [some (.mark 2), some (.mark 2), none, some (.mark 1), some (.mark 1), some (.mark 1)] :=
  ⟨_, rfl, by decide, by decide, by decide, by decide, by decide, by decide +kernel⟩

/-- A change of input 1 one tick short of its debounce time; generators at the end of a phase; a line with a safety level. -/
theorem witness_MillisecondTickAndLines :
    (∀ i n, i < 8 → ((atInput ⟨true, .rising, 2, .start⟩ .high .low (some 0)).input i).waiting = some n →
      n + 1 < ((atInput ⟨true, .rising, 2, .start⟩ .high .low (some 0)).inputEntry i).debounce) ∧
    (Generator.mk .pulse 0 .repeating 1 1 1 1).ticksLeft ≤ 1 ∧ 2 ≤ (Generator.mk .pulse 0 .repeating 1 1 2 2).ticksLeft ∧
    (withBooth State.reset fun b => { b with latch := true }).booth.latch = true ∧
    (withTables State.reset fun t => { t with line := t.line.set 3 ⟨.release, some .assert⟩ }).tables.line.getD 3 LineSetting.off =
      ⟨.release, some .assert⟩ ∧
    OwnersOk (withBooth State.reset fun b => { b with generators := [⟨.pulse, 3, .single, 1, 1, 0, 1⟩, ⟨.space, 4, .single, 1, 1, 0, 1⟩] }) := by
  refine ⟨?_, by decide, by decide, rfl, by decide, ?_⟩
  · intro i n hi
    have h : ∀ i < 8, i = 1 ∨ ((atInput ⟨true, .rising, 2, .start⟩ .high .low (some 0)).input i).waiting = none := by decide +kernel
    rcases h i hi with rfl | h
    · intro hn
      obtain rfl : 0 = n := Option.some.inj hn
      decide +kernel
    · intro hn; rw [h] at hn; cases hn
  · unfold OwnersOk withBooth; simp

/-- Input 1 at each clause: the level it has; back to its debounced level; away from it with a debounce time and with none; a
change due at this tick; no change pending; an action taken in ARMED and refused in IDLE. -/
theorem witness_InputEdgesAndActions :
    QueuesOk (atInput ⟨true, .rising, 2, .start⟩ .high .low (some 1)) ∧
    (atInput ⟨true, .rising, 2, .start⟩ .high .low (some 1)).booth.inputs.length = 8 ∧
    InLevel.low ≠ ((atInput ⟨true, .rising, 2, .start⟩ .high .low (some 1)).input 1).raw ∧
    InLevel.low = ((atInput ⟨true, .rising, 2, .start⟩ .high .low (some 1)).input 1).debounced ∧
    InLevel.low ≠ ((atInput ⟨true, .rising, 2, .start⟩ .high .high none).input 1).debounced ∧
    ((atInput ⟨true, .rising, 2, .start⟩ .high .high none).inputEntry 1).debounce ≠ 0 ∧
    ((atInput ⟨true, .rising, 0, .start⟩ .high .high none).inputEntry 1).debounce = 0 ∧
    ((atInput ⟨true, .rising, 2, .start⟩ .high .low (some 1)).inputEntry 1).debounce ≤ 1 + 1 ∧
    (∀ j < 8, j = 1 ∨ ((atInput ⟨true, .rising, 2, .start⟩ .high .low (some 1)).input j).waiting = none) ∧
    ((atInput ⟨true, .rising, 2, .start⟩ .high .high none).input 1).waiting = none ∧
    edgeTo .high = ((atInput ⟨true, .rising, 2, .start⟩ .high .low (some 1)).inputEntry 1).edge ∧
    (inState .armed).seq.state ∈ acceptedIn .start ∧
    (atInput ⟨true, .rising, 2, .start⟩ .high .low (some 1)).seq.state ∉ acceptedIn .start :=
  ⟨queuesOk_fresh rfl, by decide, by decide, by decide, by decide, by decide, by decide, by decide, by decide +kernel, by decide,
   by decide, by decide, by decide⟩

/-- The fire alarm goes LOW with the latch clear, and with it set; and it goes HIGH. -/
theorem witness_EmergencyLatchSets :
    QueuesOk (atInput ⟨true, .falling, 0, .emergency⟩ .low .high (some 0)) ∧
    ((atInput ⟨true, .falling, 0, .emergency⟩ .low .high (some 0)).input 1).waiting ≠ none ∧
    ((atInput ⟨true, .falling, 0, .emergency⟩ .low .high (some 0)).inputEntry 1).enabled = true ∧
    ((atInput ⟨true, .falling, 0, .emergency⟩ .low .high (some 0)).inputEntry 1).action = .emergency ∧
    (atInput ⟨true, .falling, 0, .emergency⟩ .low .high (some 0)).booth.latch = false ∧
    QueuesOk (withBooth (atInput ⟨true, .falling, 0, .emergency⟩ .low .high (some 0)) fun b => { b with latch := true }) ∧
    (withBooth (atInput ⟨true, .falling, 0, .emergency⟩ .low .high (some 0)) fun b => { b with latch := true }).booth.latch = true ∧
    edgeTo .low = ((atInput ⟨true, .falling, 0, .emergency⟩ .low .high (some 0)).inputEntry 1).edge ∧
    edgeTo .high ≠ ((atInput ⟨true, .falling, 0, .emergency⟩ .high .low (some 0)).inputEntry 1).edge :=
  ⟨queuesOk_fresh rfl, by decide, by decide, by decide, by decide, queuesOk_fresh rfl, rfl, by decide, by decide⟩

/-- The end boundary of a show changes its state; a boundary in IDLE does not. -/
theorem witness_StateChangeReported :
    exec .frameBoundary (showing .playing 10 0) = .next (after .frameBoundary (showing .playing 10 0)) ∧
    (after .frameBoundary (showing .playing 10 0)).seq.state ≠ (showing .playing 10 0).seq.state ∧
    exec .frameBoundary State.reset = .next (after .frameBoundary State.reset) ∧
    (after .frameBoundary State.reset).seq.state = State.reset.seq.state :=
  ⟨rfl, by decide +kernel, rfl, by decide +kernel⟩

/-! ### Encodings and invariants -/

theorem witness_RequestRoundTrip : (List.replicate 255 (0 : Byte)).length ≤ 255 ∧ payloadMalformed [5] = true ∧
    parseRequest (Request.encode (.arm 1 [4, 1])) = .arm 1 [4, 1] := by decide +kernel

theorem witness_TableEntryRoundTrip : decodeEntry 6 [2, 0, 1, 0x2C, 1, 9, 1, 4, 1, 0, 0, 2] =
    .ok (.cue ⟨300, .linePulse 1 9 .repeating 4 256 2⟩) := by decide +kernel

theorem witness_StepsKeepQueues : QueuesOk { busy [⟨.flow, [1]⟩] (some [3]) [] with pending := [.transmissionEnd] } ∧
    ∃ t, step { busy [⟨.flow, [1]⟩] (some [3]) [] with pending := [.transmissionEnd] } = .next t :=
  ⟨⟨by decide, by decide, by decide, by decide, by decide, by decide⟩, _, rfl⟩

/-- The part in the emergency condition, with a release requested. -/
def latched : State :=
  { withBooth State.reset (fun b => { b with latch := true }) with
    snd := { State.reset.snd with fader := { State.reset.snd.fader with muted := true } }, pending := [.releaseEmergency 1] }

theorem witness_StepsKeepLatchAndOwners : LatchOk latched ∧ OwnersOk latched ∧ ∃ t, step latched = .next t := by
  refine ⟨⟨fun _ => .inl rfl, fun _ => ⟨rfl, rfl⟩, fun _ => ?_, rfl⟩, ?_, _, rfl⟩
  · intro g hg
    obtain rfl : g = Generator.off := List.eq_of_mem_replicate hg
    rfl
  · exact List.pairwise_replicate.mpr (Or.inr (Or.inl rfl))

theorem witness_StepsKeepRecords : RecordsOk { showing .playing 9 0 with pending := [.frameBoundary] } ∧
    ∃ t, step { showing .playing 9 0 with pending := [.frameBoundary] } = .next t := by
  refine ⟨⟨by decide, by decide, by decide, ?_, by decide, by decide⟩, _, rfl⟩
  intro r h
  obtain rfl : { openRecord with presented := 9 } = r := Option.some.inj h
  decide

theorem witness_StepsKeepCells : CellsOk { onSlot .idle film [picture, sound] with pending := [.arm 1 [0]] } ∧
    ∃ t, step { onSlot .idle film [picture, sound] with pending := [.arm 1 [0]] } = .next t :=
  ⟨cellsOk_fresh rfl rfl rfl, _, rfl⟩

/-- The sound path and the schedule of a show about to play, and the sizes of its collections. -/
theorem witness_StepsKeepSoundAndSizes : SoundOk { showing .preroll 0 8 with pending := [.frameBoundary] } ∧
    ScheduleOk { showing .preroll 0 8 with pending := [.frameBoundary] } ∧
    SizesOk { showing .preroll 0 8 with pending := [.frameBoundary] } ∧
    PlaylistOk { onTwo .stalled with pending := [.skip 1] } ∧
    CueStoreOk { State.reset with pending := [.writeCueStore 1 0 1 (encodeEntry (.cue ⟨16777215, .holdShow⟩))] } ∧
    ∃ t, step { showing .preroll 0 8 with pending := [.frameBoundary] } = .next t := by
  refine ⟨⟨by decide, by decide, by decide, by decide, by decide +kernel, ?_, ?_, ?_, ?_, by decide⟩,
    ⟨by decide, List.Pairwise.nil⟩, ?_, by unfold PlaylistOk; decide, ?_, _, rfl⟩
  · intro l hl
    obtain rfl : l = Lane.powerOn := List.eq_of_mem_replicate hl
    refine ⟨by unfold In24; decide, ?_, by intro x hx; cases hx⟩
    intro x hx
    obtain rfl : x = 0 := List.eq_of_mem_replicate hx
    unfold In24; decide
  · intro l hl
    obtain rfl : l = Lane.powerOn := List.eq_of_mem_replicate hl
    decide
  · intro c hc t ht
    rcases List.mem_cons.mp hc with rfl | hc
    · cases ht
    · rw [List.eq_of_mem_replicate hc] at ht; cases ht
  · intro e he t k h
    obtain rfl : e = CueEntry.blank := List.eq_of_mem_replicate he
    cases h
  · constructor <;> decide +kernel
  · intro e he
    obtain rfl : e = CueEntry.blank := List.eq_of_mem_replicate he
    exact ⟨by decide, fun _ => rfl⟩

end Sys2Proof.Tests
end

-- ==== the cell pool ====
section
/-! PROOFS. The cell pool (R16, R122): the rules of its operations. An operation that moves cells is followed through states in
which some cells of a track belong to none of its units and items (`LooseCells`); what no rule of the pool reads is set aside by
`poolView`. -/

namespace Sys2Proof.Safety

open Sys2Proof.Machine

/-! ### What the pool reads -/

/-- All of a state that the pool's invariant reads. -/
def poolView (s : State) : List TrackEntry × List Track × Nat × Sequencer × List Item × List (Option Shown) :=
  (s.tables.track, s.tracks, s.freeCells, s.seq, s.sub.schedule, s.sub.regions)

/-- The cells of a track's unit in assembly. -/
def asmCells (a : Option Assembly) : Nat := (a.map Assembly.cells).getD 0

@[simp] theorem asmCells_none : asmCells none = 0 := rfl
@[simp] theorem asmCells_some (a : Assembly) : asmCells (some a) = a.cells := rfl

/-- A track that holds nothing: all but its counters is as after a reset (R6). -/
def Vacant (k : Track) : Prop := k = { Track.empty with counters := k.counters }

/-- What R12, R18 and R24 say of the cells of a unit in assembly on a track of this kind. -/
def UnitOk (kind : TrackKind) (a : Assembly) : Prop :=
  (a.damaged = true ∨ kind = .picture → a.cells = 0) ∧ (a.damaged = false → kind = .subtitle → a.cells = itemCells)

/-- The pool in the middle of an operation: as `CellsOk`, but that each track `t` holds `e t` cells that belong to none of its units
and items. -/
structure LooseCells (s : State) (e : Nat → Nat) : Prop where
  tracks  : s.tracks.length = 32
  regions : s.sub.regions.length = 4
  held    : ∀ t, t < 32 → (s.track t).cellsHeld = cellsOf s t + e t
  quota   : ∀ t, (s.track t).cellsHeld ≤ (s.trackEntry t).quota
  total   : s.freeCells + (s.tracks.map Track.cellsHeld).sum = Config.poolCells
  units   : ∀ t a, s.assembly t = some a → UnitOk (s.trackEntry t).kind a
  items   : ∀ i, i ∈ s.sub.schedule ∨ some i ∈ s.sub.regions.map (Option.map Shown.item) →
              i.track < 32 ∧ i.region ≤ 3 ∧ s.scheduled i.track = true
  empty   : ∀ t, s.scheduled t = false → Vacant (s.track t)

/-- No cell is loose exactly when the pool is in order. -/
theorem looseCells_zero {s : State} : LooseCells s (fun _ => 0) ↔ CellsOk s :=
  ⟨fun h => ⟨h.tracks, h.regions, h.held, h.quota, h.total, fun t a ha => (h.units t a ha).1, fun t a ha => (h.units t a ha).2,
      h.items, h.empty⟩,
   fun h => ⟨h.tracks, h.regions, h.held, h.quota, h.total, fun t a ha => ⟨h.damaged t a ha, h.whole t a ha⟩, h.items, h.empty⟩⟩

/-- `n` cells of track `t` more are loose. -/
def plus (e : Nat → Nat) (t n : Nat) : Nat → Nat := fun k => e k + if k = t then n else 0

@[simp] theorem plus_same (e : Nat → Nat) (t n : Nat) : plus e t n t = e t + n := by simp [plus]
theorem plus_other {t k : Nat} (e : Nat → Nat) (n : Nat) (h : k ≠ t) : plus e t n k = e k := by simp [plus, h]
@[simp] theorem plus_zero (e : Nat → Nat) (t : Nat) : plus e t 0 = e := by funext k; simp [plus]

/-- The invariant reads nothing beyond `poolView`. -/
theorem LooseCells.of_view {s u : State} {e : Nat → Nat} (h : LooseCells s e) (v : poolView u = poolView s) : LooseCells u e := by
  obtain ⟨h1, h2, h3, h4, h5, h6, h7, h8⟩ := h
  simp only [poolView, Prod.mk.injEq] at v
  obtain ⟨v1, v2, v3, v4, v5, v6⟩ := v
  refine ⟨?_, ?_, ?_, ?_, ?_, ?_, ?_, ?_⟩ <;>
    simp only [State.track, State.trackEntry, State.assembly, State.scheduled, cellsOf, trackItems, v1, v2, v3, v4, v5, v6] <;>
    assumption

theorem CellsOk.of_view {s u : State} (h : CellsOk s) (v : poolView u = poolView s) : CellsOk u :=
  looseCells_zero.mp ((looseCells_zero.mpr h).of_view v)

/-! ### One track changes -/

/-- The sum over a list of which one element changes. -/
theorem sum_map_modify {α : Type} (g : α → Nat) (f : α → α) (d : α) (l : List α) (t : Nat) (h : t < l.length) :
    ((l.modify t f).map g).sum + g (l.getD t d) = (l.map g).sum + g (f (l.getD t d)) := by
  induction l generalizing t with
  | nil => simp at h
  | cons x l ih =>
    cases t with
    | zero => simp; omega
    | succ t =>
      have := ih t (by simpa using h)
      simp at this ⊢
      omega

/-- The cells of a track are those of its unit in assembly, its queue and its items. -/
theorem cellsOf_eq (s : State) (t : Nat) :
    cellsOf s t = asmCells (s.track t).assembly + unitCells (s.track t).queue + itemCells * trackItems s t := rfl

/-- One track and the free cells change, so that cells are neither made nor lost. -/
theorem LooseCells.track {s : State} {e e' : Nat → Nat} {t n : Nat} {f : Track → Track} (h : LooseCells s e) (ht : t < 32)
    (other : ∀ k, k ≠ t → e' k = e k) (free : n + (f (s.track t)).cellsHeld = s.freeCells + (s.track t).cellsHeld)
    (held : (f (s.track t)).cellsHeld + asmCells (s.track t).assembly + unitCells (s.track t).queue + e t =
      (s.track t).cellsHeld + asmCells (f (s.track t)).assembly + unitCells (f (s.track t)).queue + e' t)
    (quota : (f (s.track t)).cellsHeld ≤ (s.trackEntry t).quota)
    (unit : ∀ a, (f (s.track t)).assembly = some a → UnitOk (s.trackEntry t).kind a)
    (empty : s.scheduled t = false → Vacant (f (s.track t))) :
    LooseCells { s.updTrack t f with freeCells := n } e' := by
  have hl : t < s.tracks.length := by rw [h.tracks]; exact ht
  have same : ({ s.updTrack t f with freeCells := n } : State).track t = f (s.track t) := State.track_updTrack_same f hl
  have diff : ∀ k, k ≠ t → ({ s.updTrack t f with freeCells := n } : State).track k = s.track k :=
    fun k hk => State.track_updTrack_other f hk
  have items : ∀ k, trackItems { s.updTrack t f with freeCells := n } k = trackItems s k := fun _ => rfl
  refine ⟨?_, h.regions, fun k hk => ?_, fun k => ?_, ?_, fun k a ha => ?_, h.items, fun k hk => ?_⟩
  · simpa using h.tracks
  · have := h.held k hk
    by_cases c : k = t
    · subst c; rw [cellsOf_eq] at this ⊢; rw [same, items]; omega
    · rw [cellsOf_eq] at this ⊢; rw [diff k c, items, other k c]; omega
  · by_cases c : k = t
    · subst c; rw [same]; exact quota
    · rw [diff k c]; exact h.quota k
  · have e1 := sum_map_modify Track.cellsHeld f Track.empty s.tracks t hl
    have e2 := h.total
    change n + ((s.tracks.modify t f).map Track.cellsHeld).sum = _
    simp only [State.track] at free
    omega
  · by_cases c : k = t
    · subst c; rw [State.assembly, same] at ha; exact unit a ha
    · rw [State.assembly, diff k c] at ha; exact h.units k a ha
  · by_cases c : k = t
    · subst c; rw [same]; exact empty hk
    · rw [diff k c]; exact h.empty k hk

/-- Loose cells of a track return (R16). -/
theorem LooseCells.returnCells {s : State} {e : Nat → Nat} {t n : Nat} (h : LooseCells s (plus e t n)) (ht : t < 32) :
    LooseCells (s.returnCells t n) e := by
  have hh := h.held t ht
  rw [plus_same] at hh
  have hq := h.quota t
  refine h.track (f := fun k => { k with cellsHeld := k.cellsHeld - n }) ht (fun k hk => (plus_other e n hk).symm) ?_ ?_ ?_
    (fun a ha => h.units t a ha) fun hs => ?_
  · dsimp only; omega
  · dsimp only; rw [plus_same]; omega
  · dsimp only; omega
  · have v := h.empty t hs
    unfold Vacant at v ⊢
    rw [v]; simp [Track.empty]

/-- A grant that succeeds makes cells of the track that nothing holds yet (R17, R18). -/
theorem LooseCells.grantCells {s : State} {e : Nat → Nat} {t n : Nat} (h : LooseCells s e) (ht : t < 32)
    (hs : s.scheduled t = true) (hg : s.grantSucceeds t n = true) : LooseCells (s.grantCells t n) (plus e t n) := by
  obtain ⟨hf, hq⟩ : n ≤ s.freeCells ∧ (s.track t).cellsHeld + n ≤ (s.trackEntry t).quota := by
    simpa [State.grantSucceeds] using hg
  refine h.track (f := fun k => { k with cellsHeld := k.cellsHeld + n }) ht (fun k hk => plus_other e n hk) ?_ ?_ hq
    (fun a ha => h.units t a ha) fun c => by rw [hs] at c; cases c
  · dsimp only; omega
  · dsimp only; rw [plus_same]; omega

/-- The unit in assembly of a scheduled track changes: cells that it gives up become loose, and it takes loose ones. -/
theorem LooseCells.setAssembly {s : State} {e e' : Nat → Nat} {t : Nat} {a : Option Assembly} (h : LooseCells s e) (ht : t < 32)
    (hs : s.scheduled t = true) (other : ∀ k, k ≠ t → e' k = e k) (cells : asmCells (s.assembly t) + e t = asmCells a + e' t)
    (ok : ∀ b, a = some b → UnitOk (s.trackEntry t).kind b) : LooseCells (s.setAssembly t a) e' := by
  refine h.track (f := fun k => { k with assembly := a }) (n := s.freeCells) ht other rfl ?_ (h.quota t) ok
    fun c => by rw [hs] at c; cases c
  rw [State.assembly] at cells
  dsimp only; omega

/-- The queue of a scheduled track loses units, whose cells become loose. -/
theorem LooseCells.setQueue {s : State} {e e' : Nat → Nat} {t : Nat} {f : Track → Track} (h : LooseCells s e) (ht : t < 32)
    (other : ∀ k, k ≠ t → e' k = e k) (cells : unitCells (s.track t).queue + e t = unitCells (f (s.track t)).queue + e' t)
    (held : (f (s.track t)).cellsHeld = (s.track t).cellsHeld) (asm : (f (s.track t)).assembly = (s.track t).assembly)
    (empty : s.scheduled t = false → Vacant (f (s.track t))) : LooseCells (s.updTrack t f) e' := by
  refine h.track (f := f) (n := s.freeCells) ht other (by rw [held]) ?_ (by rw [held]; exact h.quota t) (fun a ha => ?_) empty
  · rw [held, asm]; omega
  · rw [asm] at ha; exact h.units t a ha

/-- A change of a track that keeps its cells, its unit in assembly and its queue. -/
theorem CellsOk.updTrack {s : State} {t : Nat} {f : Track → Track} (h : CellsOk s) (ht : t < 32)
    (asm : (f (s.track t)).assembly = (s.track t).assembly) (queue : (f (s.track t)).queue = (s.track t).queue)
    (held : (f (s.track t)).cellsHeld = (s.track t).cellsHeld) (empty : s.scheduled t = false → Vacant (f (s.track t))) :
    CellsOk (s.updTrack t f) :=
  looseCells_zero.mp ((looseCells_zero.mpr h).setQueue ht (fun _ _ => rfl) (by rw [queue]) held asm empty)

/-- Counters are not read by the pool. -/
theorem CellsOk.count {s : State} {t : Nat} (h : CellsOk s) (ht : t < 32) (f : Counters → Counters) : CellsOk (s.count t f) :=
  h.updTrack ht rfl rfl rfl fun hs => by
    have v : Vacant (s.track t) := h.empty t hs
    unfold Vacant at v ⊢
    rw [v]

/-- Arrival windows are not read by the pool. -/
theorem CellsOk.updWindow {s : State} {t : Nat} (h : CellsOk s) (ht : t < 32) (f : Window → Window) : CellsOk (s.updWindow t f) :=
  h.updTrack ht rfl rfl rfl fun hs => by
    have v : Vacant (s.track t) := h.empty t hs
    unfold Vacant at v ⊢
    rw [v]; simp [Track.empty]

/-! ### Items -/

/-- The schedule and the regions change: the cells of the items that go become loose, and items that come take loose ones. -/
theorem LooseCells.setItems {s u : State} {e e' : Nat → Nat} (h : LooseCells s e) (hu : u = { s with sub := u.sub, link := u.link })
    (regions : u.sub.regions.length = 4)
    (cells : ∀ k, itemCells * trackItems s k + e k = itemCells * trackItems u k + e' k)
    (items : ∀ i, i ∈ u.sub.schedule ∨ some i ∈ u.sub.regions.map (Option.map Shown.item) →
      i.track < 32 ∧ i.region ≤ 3 ∧ s.scheduled i.track = true) : LooseCells u e' := by
  have et : ∀ k, u.track k = s.track k := State.track_congr (by rw [hu])
  have ee : ∀ k, u.trackEntry k = s.trackEntry k := fun k => by rw [hu]; rfl
  have es : ∀ k, u.scheduled k = s.scheduled k := State.scheduled_congr (by rw [hu]) (by rw [hu])
  have ef : u.freeCells = s.freeCells := by rw [hu]
  have er : u.tracks = s.tracks := by rw [hu]
  refine ⟨er ▸ h.tracks, regions, fun t ht => ?_, fun t => ?_, ?_, fun t a ha => ?_, fun i hi => ?_, fun t ht => ?_⟩
  · have := h.held t ht
    have := cells t
    rw [cellsOf_eq] at *
    rw [et]; omega
  · rw [et, ee]; exact h.quota t
  · rw [ef, er]; exact h.total
  · rw [ee]; rw [State.assembly, et] at ha; exact h.units t a ha
  · rw [es]; exact items i hi
  · rw [et]; exact h.empty t (by rw [← es]; exact ht)

/-- The items of a list of which some go. -/
theorem countP_filter_add (l : List Item) (test : Item → Bool) (k : Nat) :
    (l.filter fun i => !test i).countP (fun i => i.track == k) + (l.filter test).countP (fun i => i.track == k) =
      l.countP fun i => i.track == k := by
  induction l with
  | nil => rfl
  | cons i l ih => cases h : test i <;> simp [List.countP_cons, h] <;> omega

/-- The cells of the items of a list, by track. -/
def itemsLoose (l : List Item) : Nat → Nat := fun k => itemCells * l.countP fun i => i.track == k

/-- Loose items return their cells (R102). -/
theorem CellsOk.returnItems (l : List Item) {s : State} (hl : ∀ i ∈ l, i.track < 32) (h : LooseCells s (itemsLoose l)) :
    CellsOk (s.returnItems l) := by
  induction l generalizing s with
  | nil => exact looseCells_zero.mp h
  | cons i l ih =>
    refine ih (s := s.returnCells i.track itemCells) (fun j hj => hl j (List.mem_cons_of_mem _ hj)) ?_
    refine LooseCells.returnCells (h := ?_) (hl i List.mem_cons_self)
    have e : itemsLoose (i :: l) = plus (itemsLoose l) i.track itemCells := by
      funext k
      by_cases c : i.track = k
      · subst c; simp [itemsLoose]; ring
      · rw [plus_other _ _ (Ne.symm c)]; simp [itemsLoose, c]
    rw [← e]; exact h

/-- The items of the schedule that meet a test are removed (R118). -/
theorem CellsOk.dropItems {s : State} (h : CellsOk s) (test : Item → Bool) : CellsOk (s.dropItems test) := by
  refine CellsOk.returnItems _ (fun i hi => (h.items i (.inl (List.mem_filter.mp hi).1)).1) ?_
  refine (looseCells_zero.mpr h).setItems rfl h.regions (fun k => ?_) fun i hi =>
    h.items i (hi.imp_left fun m => (List.mem_filter.mp m).1)
  have := countP_filter_add s.sub.schedule test k
  simp only [trackItems, itemsLoose]
  rw [← this]; ring

/-- The regions' items of a track when one region changes. -/
theorem countP_set (l : List (Option Shown)) (r k : Nat) (x : Option Shown) (h : r < l.length) :
    (l.set r x).countP (fun x => x.any fun x => x.item.track == k) +
        ((l.getD r none).any fun x => x.item.track == k).toNat =
      l.countP (fun x => x.any fun x => x.item.track == k) + (x.any fun x => x.item.track == k).toNat := by
  induction l generalizing r with
  | nil => simp at h
  | cons y l ih =>
    cases r with
    | zero => simp only [List.set_cons_zero, List.countP_cons, List.getD_cons_zero, Bool.toNat, Bool.cond_eq_ite]; omega
    | succ r =>
      have := ih r (by simpa using h)
      simp [List.countP_cons] at this ⊢
      omega

/-- The items of a track when one region changes. -/
theorem trackItems_setRegion {s : State} {r : Nat} (h : r < s.sub.regions.length) (x : Option Shown) (k : Nat) :
    trackItems (s.setRegion r x) k + ((s.region r).any fun x => x.item.track == k).toNat =
      trackItems s k + (x.any fun x => x.item.track == k).toNat := by
  have := countP_set s.sub.regions r k x h
  simp only [trackItems, State.setRegion, State.region]
  omega

/-- A region that holds an item is one of the display set. -/
theorem region_lt {s : State} {r : Nat} {x : Shown} (h : s.region r = some x) : r < s.sub.regions.length := by
  by_contra c
  rw [State.region_past (Nat.le_of_not_lt c)] at h
  cases h

/-- The item of a region is one of the display set. -/
theorem region_mem {s : State} {r : Nat} {x : Shown} (h : s.region r = some x) :
    some x.item ∈ s.sub.regions.map (Option.map Shown.item) := by
  have m : some x ∈ s.sub.regions := by
    rw [State.region, List.getD_eq_getElem?_getD] at h
    cases e : s.sub.regions[r]? with
    | none => rw [e] at h; cases h
    | some y => rw [e] at h; exact List.mem_of_getElem? (by rw [e]; exact congrArg some h)
  exact List.mem_map.mpr ⟨some x, m, rfl⟩

/-- The items of the display set after one region has been set: the new one, or one that was there. -/
theorem mem_set_items {l : List (Option Shown)} {r : Nat} {x : Option Shown} {i : Item}
    (h : some i ∈ (l.set r x).map (Option.map Shown.item)) : x.map Shown.item = some i ∨ some i ∈ l.map (Option.map Shown.item) := by
  obtain ⟨y, hy, e⟩ := List.mem_map.mp h
  rcases List.mem_or_eq_of_mem_set hy with m | m
  · exact .inr (List.mem_map.mpr ⟨y, m, e⟩)
  · exact .inl (m ▸ e)

/-- A region's item goes, with its record, and its cells return. -/
theorem CellsOk.emptyRegion {s : State} (h : CellsOk s) (test : Item → Bool) (r : Nat) : CellsOk (State.emptyRegion test s r) := by
  unfold State.emptyRegion
  split
  · rename_i x hx
    split
    · have hr : r < s.sub.regions.length := by
        by_contra c
        rw [State.region_past (Nat.le_of_not_lt c)] at hx
        cases hx
      refine looseCells_zero.mp (LooseCells.returnCells (h := ?_) (h.items _ (.inr (region_mem hx))).1)
      refine (looseCells_zero.mpr h).setItems rfl (by simpa [State.setRegion] using h.regions) (fun k => ?_) fun i hi =>
        h.items i (hi.imp_right fun m => (mem_set_items m).resolve_left (by simp))
      have := trackItems_setRegion hr none k
      have e : trackItems ((s.setRegion r none).send (.clearRegion r)) k = trackItems (s.setRegion r none) k := rfl
      rw [hx] at this
      rw [e]
      by_cases c : x.item.track = k
      · subst c; simp at this ⊢; rw [← this]; ring
      · rw [plus_other _ _ (Ne.symm c)]; simp [beq_eq_false_iff_ne.mpr c] at this ⊢; exact .inl this.symm
    · exact h
  · exact h

theorem CellsOk.emptyRegions {s : State} (h : CellsOk s) (test : Item → Bool) : CellsOk (s.emptyRegions test) :=
  (((h.emptyRegion test 0).emptyRegion test 1).emptyRegion test 2).emptyRegion test 3

theorem CellsOk.removeTrackItems {s : State} (h : CellsOk s) (t : Nat) : CellsOk (s.removeTrackItems t) :=
  (h.dropItems _).emptyRegions _

end Sys2Proof.Safety
end

-- ==== the cell pool: scheduling and the show ====
section
/-! PROOFS. The cell pool under scheduling (R8, R9), the position advance (R49) and the show commands. -/

namespace Sys2Proof.Safety

open Sys2Proof.Machine

/-! ### What leaves the pool's view as it is -/

@[simp] theorem poolView_raise (s : State) (f : Flag) : poolView (s.raise f) = poolView s := by simp [poolView]
@[simp] theorem poolView_arbitrate (s : State) : poolView s.arbitrate = poolView s := by simp [poolView]
@[simp] theorem poolView_reportChange (s : State) (q : ShowState) : poolView (s.reportChange q) = poolView s := by simp [poolView]
@[simp] theorem poolView_flowReport (s : State) : poolView s.flowReport = poolView s := rfl
@[simp] theorem poolView_send (s : State) (r : LinkRecord) : poolView (s.send r) = poolView s := rfl
@[simp] theorem poolView_setPeriod (s : State) (p : Nat) : poolView (s.setPeriod p) = poolView s := rfl
@[simp] theorem poolView_reloadCountdown (s : State) : poolView s.reloadCountdown = poolView s := rfl
@[simp] theorem poolView_clearCursor (s : State) : poolView s.clearCursor = poolView s := rfl
@[simp] theorem poolView_clearRepeats (s : State) : poolView s.clearRepeats = poolView s := rfl
@[simp] theorem poolView_updCue (s : State) (f : CueEngine → CueEngine) : poolView (s.updCue f) = poolView s := rfl
@[simp] theorem poolView_updFader (s : State) (f : Fader → Fader) : poolView (s.updFader f) = poolView s := rfl
@[simp] theorem poolView_mapLanes (s : State) (f : Nat → Lane → Lane) : poolView (s.mapLanes f) = poolView s := rfl
@[simp] theorem poolView_activateMap (s : State) (m : Nat) : poolView (s.activateMap m) = poolView s := rfl
@[simp] theorem poolView_closeRecord (s : State) : poolView s.closeRecord = poolView s := rfl
@[simp] theorem poolView_useLicence (s : State) (i : Nat) : poolView (s.useLicence i) = poolView s := rfl
@[simp] theorem poolView_setCueLevel (s : State) (i : Nat) (l : Level) : poolView (s.setCueLevel i l) = poolView s := rfl
@[simp] theorem poolView_setGenerators (s : State) (l : List Generator) : poolView (s.setGenerators l) = poolView s := rfl
@[simp] theorem poolView_updInput (s : State) (i : Nat) (f : Input → Input) : poolView (s.updInput i f) = poolView s := rfl
@[simp] theorem poolView_updPort (s : State) (f : Port → Port) : poolView (s.updPort f) = poolView s := rfl
@[simp] theorem poolView_setReserved (s : State) (b : Bool) : poolView (s.setReserved b) = poolView s := rfl
@[simp] theorem poolView_queueReply (s : State) (p : Bytes) : poolView (s.queueReply p) = poolView s := rfl

@[simp] theorem poolView_joinLog (s : State) (r : Record) : poolView (s.joinLog r) = poolView s := by
  unfold State.joinLog; dsimp only; split
  · rfl
  · simp [poolView]

@[simp] theorem poolView_writeBarred (s : State) (r : BarReason) : poolView (s.writeBarred r) = poolView s := by
  have e := poolView_joinLog s (s.newRecord (.barred r))
  rw [State.writeBarred, poolView_raise, ← e]
  rfl

/-! ### The set of scheduled tracks changes -/

/-- A track with no item and nothing in the schedule. -/
theorem trackItems_pos {s : State} {i : Item} (h : i ∈ s.sub.schedule ∨ some i ∈ s.sub.regions.map (Option.map Shown.item)) :
    0 < trackItems s i.track := by
  rcases h with m | m
  · have : 0 < s.sub.schedule.countP fun j => j.track == i.track := List.countP_pos_iff.mpr ⟨i, m, by simp⟩
    unfold trackItems; omega
  · obtain ⟨x, hx, e⟩ := List.mem_map.mp m
    have : 0 < s.sub.regions.countP fun x => x.any fun x => x.item.track == i.track :=
      List.countP_pos_iff.mpr ⟨x, hx, by cases x with
        | none => cases e
        | some y => cases e; simp⟩
    unfold trackItems; omega

theorem exists_item_of_trackItems {s : State} {t : Nat} (h : trackItems s t ≠ 0) :
    ∃ i, (i ∈ s.sub.schedule ∨ some i ∈ s.sub.regions.map (Option.map Shown.item)) ∧ i.track = t := by
  rcases Nat.add_pos_iff_pos_or_pos.mp (Nat.pos_of_ne_zero h) with q | q
  · obtain ⟨i, hi, e⟩ := List.countP_pos_iff.mp q
    exact ⟨i, .inl hi, by simpa using e⟩
  · obtain ⟨x, hx, e⟩ := List.countP_pos_iff.mp q
    cases x with
    | none => cases e
    | some y => exact ⟨y.item, .inr (List.mem_map.mpr ⟨_, hx, rfl⟩), by simpa using e⟩

/-- Nothing is held beyond track 31. -/
theorem CellsOk.past {s : State} (h : CellsOk s) {t : Nat} (ht : 32 ≤ t) : Vacant (s.track t) ∧ trackItems s t = 0 := by
  refine ⟨?_, ?_⟩
  · rw [State.track, List.getD_eq_getElem?_getD, List.getElem?_eq_none (by rw [h.tracks]; exact ht)]; rfl
  · by_contra c
    have no : ∀ i, i ∈ s.sub.schedule ∨ some i ∈ s.sub.regions.map (Option.map Shown.item) → i.track ≠ t := fun i hi e => by
      have := (h.items i hi).1
      omega
    obtain ⟨i, hi, e⟩ := exists_item_of_trackItems c
    exact no i hi e

/-- The sequencer changes: a track that stops being scheduled has to hold nothing. -/
theorem CellsOk.reschedule {s u : State} (h : CellsOk s) (v : poolView u = poolView { s with seq := u.seq })
    (hs : ∀ t, s.scheduled t = true → u.scheduled t = true ∨ (Vacant (s.track t) ∧ trackItems s t = 0)) : CellsOk u := by
  refine CellsOk.of_view (s := { s with seq := u.seq }) ?_ v
  have es : ∀ t, State.scheduled { s with seq := u.seq } t = u.scheduled t := fun t => by
    simp only [poolView, Prod.mk.injEq] at v
    simp only [State.scheduled, State.trackEntry, v.1]
  refine ⟨h.tracks, h.regions, h.held, h.quota, h.total, h.damaged, h.whole, fun i hi => ?_, fun t ht => ?_⟩
  · obtain ⟨h1, h2, h3⟩ := h.items i hi
    refine ⟨h1, h2, ?_⟩
    rw [es]
    exact (hs _ h3).resolve_right fun c => by have : 0 < trackItems s i.track := trackItems_pos hi; omega
  · rw [es] at ht
    cases c : s.scheduled t with
    | false => exact h.empty t c
    | true => exact ((hs t c).resolve_left (by rw [ht]; simp)).1

/-- A change of the sequencer that keeps the playlist and the position, into a state with a show armed or running. -/
theorem CellsOk.updSeq_active {s : State} (h : CellsOk s) {f : Sequencer → Sequencer} (ha : (f s.seq).state.active = true)
    (hp : (f s.seq).playlist = s.seq.playlist) (hq : (f s.seq).position = s.seq.position) : CellsOk (s.updSeq f) := by
  refine h.reschedule rfl fun t ht => .inl ?_
  simp only [State.scheduled, Bool.and_eq_true] at ht ⊢
  obtain ⟨⟨hv, -⟩, hc⟩ := ht
  refine ⟨⟨hv, ha⟩, ?_⟩
  simpa only [State.trackEntry, State.updSeq_tables, State.updSeq_seq, Sequencer.currentSlot, Sequencer.nextSlot,
    Sequencer.slotAt, hp, hq] using hc

/-- A change of the sequencer that keeps its state, playlist and position. -/
theorem CellsOk.updSeq_same {s : State} (h : CellsOk s) {f : Sequencer → Sequencer} (hs : (f s.seq).state = s.seq.state)
    (hp : (f s.seq).playlist = s.seq.playlist) (hq : (f s.seq).position = s.seq.position) : CellsOk (s.updSeq f) := by
  refine h.reschedule rfl fun t ht => .inl ?_
  simp only [State.scheduled, Bool.and_eq_true] at ht ⊢
  simpa only [State.trackEntry, State.updSeq_tables, State.updSeq_seq, Sequencer.currentSlot, Sequencer.nextSlot,
    Sequencer.slotAt, hs, hp, hq] using ht

/-! ### Tracks stop being scheduled and become scheduled -/

/-- A track whose items have been removed has none. -/
theorem trackItems_of_removed {s u : State} {l : List Nat} {t : Nat} (hl : u.sub.regions.length = 4) (ht : t ∈ l)
    (hs : u.sub.schedule = s.sub.schedule.filter fun i => !l.contains i.track)
    (hr : ∀ r, r ≤ 3 → u.region r = (s.region r).filter fun x => !l.contains x.item.track) : trackItems u t = 0 := by
  have h1 : u.sub.schedule.countP (fun i => i.track == t) = 0 := by
    rw [hs, List.countP_eq_zero]
    intro i hi e
    have e' : i.track = t := by simpa using e
    have := (List.mem_filter.mp hi).2
    simp [e', ht] at this
  have h2 : u.sub.regions.countP (fun x => x.any fun x => x.item.track == t) = 0 := by
    rw [List.countP_eq_zero]
    intro x hx e
    obtain ⟨r, hr4, hrx⟩ := List.getElem_of_mem hx
    have e1 : u.region r = x := by simp [State.region, List.getD_eq_getElem?_getD, hr4, hrx]
    obtain ⟨y, hy, hyt⟩ : ∃ y, x = some y ∧ y.item.track = t := by
      cases x with
      | none => cases e
      | some y => exact ⟨y, rfl, by simpa using e⟩
    rw [hr r (by omega), hy, Option.filter_eq_some_iff] at e1
    simp [hyt, ht] at e1
  unfold trackItems; omega

/-- A track stops being scheduled: all it holds is freed (R9). -/
theorem CellsOk.unscheduleTrack {s : State} (h : CellsOk s) {t : Nat} (ht : t < 32) : CellsOk (s.unscheduleTrack t) := by
  have hv := h.removeTrackItems t
  have he := hv.held t ht
  obtain ⟨-, hs, hl, hr, -⟩ := State.removeTrackItems_spec s t
  have hi : trackItems (s.removeTrackItems t) t = 0 :=
    trackItems_of_removed (s := s) (l := [t]) (hl.trans h.regions) (by simp)
      ((congrArg Subtitles.schedule hs).trans (List.filter_congr fun i _ => by simp [Bool.beq_eq_decide_eq]))
      fun r h3 => (hr r h3).trans (by congr 1; funext x; simp [Bool.beq_eq_decide_eq])
  rw [cellsOf_eq, hi] at he
  refine looseCells_zero.mp ((looseCells_zero.mpr hv).track (f := fun k => { Track.empty with counters := k.counters }) ht
    (fun _ _ => rfl) ?_ ?_ (Nat.zero_le _) (fun a ha => by cases ha) fun _ => rfl)
  · simp [Track.empty]
  · simp only [Track.empty, unitCells, asmCells_none, List.map_nil, List.sum_nil]
    unfold unitCells at he
    omega

theorem CellsOk.unscheduleTracks {l : List Nat} {s : State} (hl : ∀ t ∈ l, t < 32) (h : CellsOk s) :
    CellsOk (l.foldl State.unscheduleTrack s) := by
  induction l generalizing s with
  | nil => exact h
  | cons t l ih => exact ih (fun k hk => hl k (List.mem_cons_of_mem _ hk)) (h.unscheduleTrack (hl t List.mem_cons_self))

/-- The essence tracks are 1 to 31. -/
theorem mem_essenceTracks {t : Nat} : t ∈ essenceTracks ↔ 1 ≤ t ∧ t ≤ 31 := by
  simp only [essenceTracks, List.mem_range'_1]; omega

theorem slotTracks_lt {s : State} {slot t : Nat} (h : t ∈ s.slotTracks slot) : t < 32 := by
  have := mem_essenceTracks.mp (List.mem_filter.mp h).1
  omega

/-- The table, the sequencer and what else scheduling does not touch. -/
theorem unscheduleTrack_tables (s : State) (t : Nat) : (s.unscheduleTrack t).tables = s.tables := by
  rw [(State.unscheduleTrack_spec s t).rest]

theorem unscheduleTrack_seq (s : State) (t : Nat) : (s.unscheduleTrack t).seq = s.seq := by
  rw [(State.unscheduleTrack_spec s t).rest]

theorem scheduleTrack_rest (s : State) (t : Nat) : s.scheduleTrack t =
    { s with tracks := (s.scheduleTrack t).tracks, freeCells := (s.scheduleTrack t).freeCells, sub := (s.scheduleTrack t).sub,
             link := (s.scheduleTrack t).link } := by
  have e := (State.unscheduleTrack_spec s t).rest
  unfold State.scheduleTrack
  dsimp only
  generalize s.unscheduleTrack t = v at e ⊢
  split
  · rw [e]; rfl
  · exact e

theorem scheduleTracks_rest (l : List Nat) (s : State) : l.foldl State.scheduleTrack s =
    { s with tracks := (l.foldl State.scheduleTrack s).tracks, freeCells := (l.foldl State.scheduleTrack s).freeCells,
             sub := (l.foldl State.scheduleTrack s).sub, link := (l.foldl State.scheduleTrack s).link } := by
  induction l generalizing s with
  | nil => rfl
  | cons t l ih =>
    have e := ih (s.scheduleTrack t)
    have f := scheduleTrack_rest s t
    rw [List.foldl_cons, e, f]

/-- A track becomes scheduled (R8). -/
theorem CellsOk.scheduleTrack {s : State} (h : CellsOk s) {t : Nat} (ht : t < 32) (hs : s.scheduled t = true) :
    CellsOk (s.scheduleTrack t) := by
  have hu := h.unscheduleTrack ht
  have es : (s.unscheduleTrack t).scheduled t = true := by
    rw [State.scheduled_congr (unscheduleTrack_tables s t) (unscheduleTrack_seq s t)]; exact hs
  unfold State.scheduleTrack
  dsimp only
  split
  · exact hu.updTrack ht rfl rfl rfl fun c => by rw [es] at c; cases c
  · exact hu

theorem CellsOk.scheduleTracks {l : List Nat} {s : State} (hl : ∀ t ∈ l, t < 32 ∧ s.scheduled t = true) (h : CellsOk s) :
    CellsOk (l.foldl State.scheduleTrack s) := by
  induction l generalizing s with
  | nil => exact h
  | cons t l ih =>
    obtain ⟨h1, h2⟩ := hl t List.mem_cons_self
    refine ih (fun k hk => ⟨(hl k (List.mem_cons_of_mem _ hk)).1, ?_⟩) (h.scheduleTrack h1 h2)
    rw [State.scheduled_congr (u := s) (by rw [scheduleTrack_rest]) (by rw [scheduleTrack_rest])]
    exact (hl k (List.mem_cons_of_mem _ hk)).2

/-- A valid track whose slot stands at the current or the next position of a show armed or running is scheduled (R7). -/
theorem scheduled_iff (s : State) (t : Nat) : s.scheduled t = true ↔ (s.trackEntry t).valid = true ∧ s.seq.state.active = true ∧
    (s.seq.currentSlot = some (s.trackEntry t).slot ∨ s.seq.nextSlot = some (s.trackEntry t).slot) := by
  simp [State.scheduled, and_assoc]

/-- The tracks of the current or the next slot become scheduled. -/
theorem CellsOk.scheduleSlot {s : State} (h : CellsOk s) {slot : Option Nat} (ha : s.seq.state.active = true)
    (hs : slot = s.seq.currentSlot ∨ slot = s.seq.nextSlot) : CellsOk (s.scheduleSlot slot) := by
  unfold State.scheduleSlot
  split
  · rename_i n
    refine CellsOk.scheduleTracks (fun t ht => ⟨slotTracks_lt ht, (scheduled_iff s t).mpr ?_⟩) h
    obtain ⟨hv, he⟩ : (s.trackEntry t).valid = true ∧ (s.trackEntry t).slot = n := by simpa using (List.mem_filter.mp ht).2
    exact ⟨hv, ha, by rw [he]; exact hs.imp Eq.symm Eq.symm⟩
  · exact h

theorem scheduleSlot_rest (s : State) (slot : Option Nat) : s.scheduleSlot slot =
    { s with tracks := (s.scheduleSlot slot).tracks, freeCells := (s.scheduleSlot slot).freeCells,
             sub := (s.scheduleSlot slot).sub, link := (s.scheduleSlot slot).link } := by
  unfold State.scheduleSlot
  split
  · exact scheduleTracks_rest _ s
  · rfl

/-- The tracks of a slot stop being scheduled. -/
theorem unscheduleSlot_spec (s : State) (slot : Option Nat) :
    Unscheduled (match slot with | some n => s.slotTracks n | none => []) s (s.unscheduleSlot slot) := by
  unfold State.unscheduleSlot
  cases slot with
  | none => exact .nil s
  | some n => exact State.unscheduleTracks_spec _ s

theorem CellsOk.unscheduleSlot {s : State} (h : CellsOk s) (slot : Option Nat) : CellsOk (s.unscheduleSlot slot) := by
  unfold State.unscheduleSlot
  split
  · exact CellsOk.unscheduleTracks (fun t => slotTracks_lt) h
  · exact h

/-- Every scheduled track stops being scheduled: then no track holds anything. -/
theorem CellsOk.unscheduleAll {s : State} (h : CellsOk s) :
    CellsOk s.unscheduleAll ∧ ∀ t, Vacant (s.unscheduleAll.track t) ∧ trackItems s.unscheduleAll t = 0 := by
  have hu : CellsOk s.unscheduleAll :=
    CellsOk.unscheduleTracks (fun t ht => by have := mem_essenceTracks.mp (List.mem_filter.mp ht).1; omega) h
  have sp := State.unscheduleAll_spec s
  have inL : ∀ t, t < 32 → s.scheduled t = true → t ∈ leaving s := fun t ht hs => by
    refine List.mem_filter.mpr ⟨mem_essenceTracks.mpr ⟨?_, by omega⟩, hs⟩
    by_contra c
    obtain rfl : t = 0 := by omega
    simp [State.scheduled, State.trackEntry, TrackEntry.invalid] at hs
  refine ⟨hu, fun t => ⟨?_, ?_⟩⟩
  · by_cases m : t ∈ leaving s
    · rw [sp.emptied t m]; rfl
    · rw [sp.kept t m]
      cases c : s.scheduled t with
      | false => exact h.empty t c
      | true =>
        by_cases l : t < 32
        · exact absurd (inL t l c) m
        · exact (h.past (Nat.le_of_not_lt l)).1
  · by_contra c
    obtain ⟨i, hi, rfl⟩ := exists_item_of_trackItems c
    obtain ⟨h1, -, h3⟩ := hu.items i hi
    rw [State.scheduled_congr (u := s) (by rw [sp.rest]) (by rw [sp.rest])] at h3
    exact c (trackItems_of_removed hu.regions (inL _ h1 h3) sp.schedule sp.regions)

/-! ### Entries to the show states -/

theorem CellsOk.enterStopped {s : State} (h : CellsOk s) (r : StopReason) : CellsOk (s.enterStopped r) := by
  obtain ⟨h1, h2⟩ := CellsOk.unscheduleAll (s := s.closeRecord) (h.of_view rfl)
  unfold State.enterStopped
  generalize s.closeRecord.unscheduleAll = v at h1 h2 ⊢
  exact h1.reschedule rfl fun t _ => .inr (h2 t)

theorem CellsOk.enterPreroll {s : State} (h : CellsOk s) : CellsOk s.enterPreroll := by
  unfold State.enterPreroll
  dsimp only
  refine CellsOk.updSeq_active ?_ rfl rfl rfl
  split
  · exact h
  · exact h.of_view rfl

/-- With no current position no track is scheduled. -/
theorem scheduled_of_position_zero {s : State} (h : s.seq.position = 0) (t : Nat) : s.scheduled t = false := by
  simp [State.scheduled, Sequencer.currentSlot, Sequencer.nextSlot, Sequencer.slotAt, h]

theorem CellsOk.enterEnded {s : State} (h : CellsOk s) (hp : s.seq.position = 0) : CellsOk s.enterEnded :=
  h.reschedule rfl fun t ht => by rw [scheduled_of_position_zero hp] at ht; cases ht

theorem CellsOk.holdEvent {s : State} (h : CellsOk s) : CellsOk s.holdEvent := h.of_view rfl

theorem CellsOk.resumeEvent {s : State} (h : CellsOk s) : CellsOk s.resumeEvent := h.of_view rfl

theorem CellsOk.enterHolding {s : State} (h : CellsOk s) : CellsOk s.enterHolding :=
  (h.updSeq_active (f := fun q => { q with state := .holding }) rfl rfl rfl).holdEvent

theorem CellsOk.enterStalled {s : State} (h : CellsOk s) : CellsOk s.enterStalled := by
  refine CellsOk.of_view (h.updSeq_active (f := fun q => { q with state := .stalled, stallTimer := some 0 }) rfl rfl rfl) ?_
  rw [State.enterStalled, poolView_clearRepeats, State.holdEvent, poolView_updFader, poolView_raise]

/-! ### The position advance -/

/-- A valid essence track that names a slot is one of the slot's tracks. -/
theorem mem_slotTracks {s : State} {t : Nat} (ht : t < 32) (hv : (s.trackEntry t).valid = true) :
    t ∈ s.slotTracks (s.trackEntry t).slot := by
  refine List.mem_filter.mpr ⟨mem_essenceTracks.mpr ⟨?_, by omega⟩, by simp [hv]⟩
  by_contra c
  obtain rfl : t = 0 := by omega
  simp [State.trackEntry, TrackEntry.invalid] at hv

/-- An advance leaves the tracks of the current slot: they hold nothing then (R49). -/
theorem CellsOk.leavePosition {s : State} (h : CellsOk s) : CellsOk s.leavePosition ∧
    ∀ t, s.seq.currentSlot = some (s.trackEntry t).slot → s.scheduled t = true →
      Vacant (s.leavePosition.track t) ∧ trackItems s.leavePosition t = 0 := by
  have hu := h.unscheduleSlot s.seq.currentSlot
  have sp := unscheduleSlot_spec s s.seq.currentSlot
  have hl : CellsOk s.leavePosition :=
    (hu.updSeq_same (f := fun q => { q with frame := 0, cleared := false }) rfl rfl rfl).of_view rfl
  refine ⟨hl, fun t hc hs => ?_⟩
  by_cases l : t < 32
  · rw [hc] at sp hu
    have hm := mem_slotTracks l ((scheduled_iff s t).mp hs).1
    have e1 : s.leavePosition.track t = (s.unscheduleSlot (some (s.trackEntry t).slot)).track t := by
      rw [State.leavePosition, hc]; rfl
    have e2 : trackItems s.leavePosition t = trackItems (s.unscheduleSlot (some (s.trackEntry t).slot)) t := by
      rw [State.leavePosition, hc]; rfl
    exact ⟨by rw [e1, sp.emptied t hm]; rfl, by rw [e2]; exact trackItems_of_removed hu.regions hm sp.schedule sp.regions⟩
  · exact hl.past (Nat.le_of_not_lt l)

theorem leavePosition_rest (s : State) : s.leavePosition.tables = s.tables ∧
    s.leavePosition.seq = { s.seq with frame := 0, cleared := false } := by
  have sp := (unscheduleSlot_spec s s.seq.currentSlot).rest
  simp only [State.leavePosition, State.clearRepeats_tables, State.clearRepeats_seq, State.clearCursor_tables,
    State.clearCursor_seq, State.updSeq_tables, State.updSeq_seq]
  rw [sp]
  exact ⟨rfl, rfl⟩

/-- One position on (R49): the tracks of the position left hold nothing, and those of the next position stay scheduled. -/
theorem CellsOk.nextPosition {s : State} (h : CellsOk s) (ha : s.seq.state.active = true) :
    CellsOk s.leavePosition.movePosition := by
  obtain ⟨hl, hv⟩ := h.leavePosition
  obtain ⟨et, eq⟩ := leavePosition_rest s
  have ee : ∀ t, s.leavePosition.trackEntry t = s.trackEntry t := fun t => by simp only [State.trackEntry, et]
  have old : ∀ t, s.leavePosition.scheduled t = true → (s.trackEntry t).valid = true ∧
      ((Vacant (s.leavePosition.track t) ∧ trackItems s.leavePosition t = 0) ∨
        s.seq.nextSlot = some (s.trackEntry t).slot) := fun t ht => by
    obtain ⟨h1, -, h3⟩ := (scheduled_iff _ t).mp ht
    rw [ee, eq] at h3
    rw [ee] at h1
    refine ⟨h1, h3.imp (fun c => hv t c ?_) id⟩
    exact (scheduled_iff s t).mpr ⟨h1, ha, .inl c⟩
  unfold State.movePosition
  split
  · rename_i hp
    refine hl.reschedule rfl fun t ht => .inr ((old t ht).2.resolve_right fun c => ?_)
    rw [eq] at hp
    dsimp only at hp
    unfold Sequencer.nextSlot Sequencer.slotAt at c
    split at c
    · cases c
    · rw [if_neg (by omega), Nat.add_sub_cancel, List.getElem?_eq_none hp] at c; cases c
  · rename_i hp
    refine CellsOk.scheduleSlot (slot := _) (hl.reschedule (u := s.leavePosition.updSeq fun q => { q with position := q.position + 1 })
      rfl fun t ht => ?_) (by rw [State.updSeq_seq, eq]; exact ha) (.inr rfl)
    obtain ⟨h1, h2⟩ := old t ht
    refine h2.symm.imp (fun c => ?_) id
    refine (scheduled_iff _ t).mpr ⟨?_, ?_, .inl ?_⟩
    · rw [← ee] at h1; exact h1
    · rw [State.updSeq_seq, eq]; exact ha
    · change (s.leavePosition.updSeq _).seq.currentSlot = some (s.leavePosition.trackEntry t).slot
      rw [ee, ← c, State.updSeq_seq, eq]
      unfold Sequencer.nextSlot at c ⊢
      split at c
      · cases c
      · rename_i hz; rw [if_neg hz]; rfl

theorem movePosition_state (s : State) : s.movePosition.seq.state = s.seq.state := by
  unfold State.movePosition
  split
  · rfl
  · dsimp only; rw [scheduleSlot_rest]; rfl

/-- The position advance, over barred compositions too (R49). -/
theorem CellsOk.advance (n : Nat) {s : State} (h : CellsOk s) (ha : s.seq.state.active = true) : CellsOk (State.advance n s) := by
  induction n generalizing s with
  | zero => exact h
  | succ n ih =>
    have hn := h.nextPosition ha
    have hs : s.leavePosition.movePosition.seq.state = s.seq.state := by rw [movePosition_state, (leavePosition_rest s).2]
    unfold State.advance
    dsimp only
    split
    · exact hn
    · split
      · rename_i r _
        have e := poolView_writeBarred s.leavePosition.movePosition r
        refine ih (hn.of_view e) ?_
        simp only [poolView, Prod.mk.injEq] at e
        rw [e.2.2.2.1, hs]; exact ha
      · exact hn.updSeq_same rfl rfl rfl

theorem CellsOk.advancePosition {s : State} (h : CellsOk s) (ha : s.seq.state.active = true) : CellsOk s.advancePosition :=
  h.advance _ ha

/-! ### Show commands -/

theorem CellsOk.endBySkip {s : State} (h : CellsOk s) : CellsOk s.endBySkip := by
  have h1 : CellsOk (if s.seq.state.onAir then s.closeRecord.raise .compositionEnd else s) := by
    split
    · exact h.of_view (by simp)
    · exact h
  have h2 := h1.updSeq_same (f := fun q => { q with prerollTimer := none, stallTimer := none }) rfl rfl rfl
  unfold State.endBySkip
  dsimp only
  split
  · exact h2.resumeEvent
  · exact h2

theorem endBySkip_state (s : State) : s.endBySkip.seq.state = s.seq.state := by
  unfold State.endBySkip
  dsimp only
  split <;> split <;> simp [State.resumeEvent]

theorem active_of_running {q : ShowState} (h : q.running = true) : q.active = true := by cases q <;> simp_all [ShowState.running, ShowState.active]

/-- Every show command keeps the pool (R34). -/
theorem CellsOk.showCommand {s u : State} (h : CellsOk s) {c : ShowCommand} (hc : s.showCommand c = some u) : CellsOk u := by
  cases c with
  | start =>
    obtain ⟨-, rfl⟩ : s.seq.state = .armed ∧ s.enterPreroll = u := by simpa [State.showCommand, State.startShow] using hc
    exact h.enterPreroll
  | hold =>
    obtain ⟨-, rfl⟩ : s.seq.state = .playing ∧ s.enterHolding = u := by simpa [State.showCommand, State.holdShow] using hc
    exact h.enterHolding
  | resume =>
    obtain ⟨-, rfl⟩ : s.seq.state = .holding ∧ (s.updSeq fun q => { q with state := .playing }).resumeEvent = u := by
      simpa [State.showCommand, State.resumeShow] using hc
    exact (h.updSeq_active (f := fun q => { q with state := .playing }) rfl rfl rfl).resumeEvent
  | skip =>
    simp only [State.showCommand, State.skipShow] at hc
    split at hc
    · rename_i hr
      have hv := h.endBySkip.advancePosition (by rw [endBySkip_state]; exact active_of_running hr)
      cases hc
      split
      · rename_i hp; exact hv.enterEnded hp
      · exact hv.enterPreroll
    · cases hc
  | stop =>
    obtain ⟨-, rfl⟩ : s.seq.state.active = true ∧ s.enterStopped .command = u := by
      simpa [State.showCommand, State.stopShow] using hc
    exact h.enterStopped _
  | clear =>
    simp only [State.showCommand, State.clearShow] at hc
    split at hc
    · cases hc
      obtain ⟨h1, h2⟩ := h.unscheduleAll
      exact h1.reschedule rfl fun t _ => .inr (h2 t)
    · cases hc

/-- ARM with no show armed or running: no track holds anything when the first two positions become scheduled (R36). -/
theorem CellsOk.enterArmed {s : State} (h : CellsOk s) (ha : s.seq.state.active = false) (slots : List Nat) :
    CellsOk (s.enterArmed slots) := by
  have h1 : CellsOk { s with seq := ⟨.armed, slots, 1, 0, false, none, none, .none⟩ } :=
    h.reschedule rfl fun t ht => by simp [State.scheduled, ha] at ht
  unfold State.enterArmed
  dsimp only
  refine CellsOk.scheduleSlot (h1.scheduleSlot rfl (.inl rfl)) ?_ (.inr ?_)
  · rw [scheduleSlot_rest]; rfl
  · rw [scheduleSlot_rest]

theorem CellsOk.armShow {s : State} (h : CellsOk s) (slots : List Nat) : CellsOk (s.armShow slots).1 := by
  unfold State.armShow
  split
  · exact h
  · rename_i hn
    split
    · exact h
    · exact h.enterArmed (by simpa using fun c => hn (.inl c)) slots

end Sys2Proof.Safety
end

-- ==== the cell pool: the frame boundary ====
section
/-! PROOFS. The cell pool under the work of a frame boundary: units taken, the subtitle engine, cues, presentation (R41, R75, R109,
R127), and under the booth inputs. -/

namespace Sys2Proof.Safety

open Sys2Proof.Machine

/-! ### Units taken (R75, R76) -/

theorem unitCells_append (a b : List SoundUnit) : unitCells (a ++ b) = unitCells a + unitCells b := by simp [unitCells]

theorem unitCells_cons (u : SoundUnit) (l : List SoundUnit) : unitCells (u :: l) = u.cells + unitCells l := by simp [unitCells]

/-- Units leave a queue and their cells return. -/
theorem CellsOk.dropUnits {s : State} (h : CellsOk s) {t n : Nat} (ht : t < 32) {q : List SoundUnit}
    (cells : unitCells (s.track t).queue = unitCells q + n) (nil : (s.track t).queue = [] → q = []) :
    CellsOk ((s.updTrack t fun k => { k with queue := q }).returnCells t n) := by
  refine looseCells_zero.mp (LooseCells.returnCells (h := ?_) ht)
  refine (looseCells_zero.mpr h).setQueue ht (fun k hk => plus_other _ _ hk) ?_ rfl rfl fun hs => ?_
  · rw [plus_same]; dsimp only; omega
  · have v : Vacant (s.track t) := h.empty t hs
    unfold Vacant at v ⊢
    rw [nil (by rw [v]; rfl), v]; rfl

theorem CellsOk.takeUnit {s : State} (h : CellsOk s) {t : Nat} (ht : t < 32) (f : Nat) : CellsOk (s.takeUnit t f).1 := by
  have e := congrArg unitCells (List.takeWhile_append_dropWhile (p := fun u : SoundUnit => decide (u.frame < f))
    (l := (s.track t).queue))
  rw [unitCells_append] at e
  unfold State.takeUnit
  dsimp only
  split
  · rename_i u rest hq
    have nil : (s.track t).queue ≠ [] := fun c => by rw [c] at hq; cases hq
    rw [hq, unitCells_cons] at e
    split
    · exact h.dropUnits ht (by rw [← e]; ring) fun c => absurd c nil
    · exact (h.dropUnits ht (q := u :: rest) (by rw [← e, unitCells_cons]; ring) fun c => absurd c nil).of_view (poolView_raise _ _)
  · rename_i hq
    rw [hq] at e
    exact (h.dropUnits ht (by rw [← e]; ring) fun _ => rfl).of_view (poolView_raise _ _)

theorem trackOf_lt {s : State} {kind : TrackKind} {slot t : Nat} (h : s.trackOf kind slot = some t) : t < 32 := by
  have := mem_essenceTracks.mp (List.mem_of_find?_eq_some h)
  omega

theorem currentTrack_lt {s : State} {kind : TrackKind} {t : Nat} (h : s.currentTrack kind = some t) : t < 32 := by
  unfold State.currentTrack at h
  split at h
  · exact trackOf_lt h
  · cases h

theorem CellsOk.takeTrack {s : State} (h : CellsOk s) {t : Option Nat} (ht : ∀ k, t = some k → k < 32) (f : Nat) :
    CellsOk (s.takeTrack t f).1 := by
  unfold State.takeTrack
  cases t with
  | none => exact h
  | some k => exact h.takeUnit (ht k rfl) f

@[simp] theorem poolView_silentBlock (s : State) : poolView s.silentBlock = poolView s := rfl

@[simp] theorem poolView_soundBlock (s : State) (m : Mix) (l : List (List Int)) : poolView (s.soundBlock m l) = poolView s := by
  unfold State.soundBlock; dsimp only; split <;> simp

theorem CellsOk.frameBlock {s : State} (h : CellsOk s) (m : Mix) (f : Nat) : CellsOk (s.frameBlock m f) := by
  have h1 := h.takeTrack (t := s.currentTrack .soundMain) (fun k hk => currentTrack_lt hk) f
  have h2 := h1.takeTrack (t := s.currentTrack .soundAux) (fun k hk => currentTrack_lt hk) f
  unfold State.frameBlock
  dsimp only
  split
  · exact h2.of_view (poolView_silentBlock _)
  · exact h2.of_view (poolView_soundBlock _ _ _)

/-! ### The subtitle engine (R109) -/

/-- The region of an item takes it, and a holder's cells return (R110). -/
theorem LooseCells.admitItem {s : State} {i : Item} {l : List Item} (h : LooseCells s (itemsLoose (i :: l)))
    (hi : i.track < 32 ∧ i.region ≤ 3 ∧ s.scheduled i.track = true) (f : Nat) : LooseCells (State.admitItem f s i) (itemsLoose l) := by
  have hr : i.region < s.sub.regions.length := by rw [h.regions]; omega
  have e : ∀ k, itemsLoose (i :: l) k = itemsLoose l k + itemCells * (i.track == k).toNat := fun k => by
    by_cases c : i.track = k <;> simp [itemsLoose, c]; ring
  have set : LooseCells (s.setRegion i.region (some ⟨i, i.opacity f⟩)) (match s.region i.region with
      | some x => plus (itemsLoose l) x.item.track itemCells
      | none => itemsLoose l) := by
    refine h.setItems rfl (by simpa [State.setRegion] using h.regions) (fun k => ?_) fun j hj => ?_
    · have := trackItems_setRegion hr (some ⟨i, i.opacity f⟩) k
      have m := congrArg (itemCells * ·) this
      simp only [Nat.mul_add, Option.any_some] at m
      rw [e]
      cases c : s.region i.region with
      | none => simp [c] at m; dsimp only; omega
      | some x =>
        rw [c, Option.any_some] at m
        dsimp only
        by_cases d : x.item.track = k
        · subst d; simp at m; rw [plus_same]; omega
        · rw [plus_other _ _ (Ne.symm d)]; rw [beq_eq_false_iff_ne.mpr d] at m; simp at m; omega
    · rcases hj with m | m
      · exact h.items j (.inl m)
      · rcases mem_set_items m with c | c
        · cases c; exact hi
        · exact h.items j (.inr c)
  unfold State.admitItem
  cases c : s.region i.region with
  | none => simpa only [c] using set
  | some x =>
    rw [c] at set
    exact (set.returnCells (h.items _ (.inr (region_mem c))).1).of_view rfl

theorem admitItem_scheduled (f : Nat) (s : State) (i : Item) (t : Nat) : (State.admitItem f s i).scheduled t = s.scheduled t := by
  unfold State.admitItem; split <;> rfl

theorem LooseCells.admitAll (f : Nat) (l : List Item) {s : State} (h : LooseCells s (itemsLoose l))
    (hl : ∀ i ∈ l, i.track < 32 ∧ i.region ≤ 3 ∧ s.scheduled i.track = true) : CellsOk (l.foldl (State.admitItem f) s) := by
  induction l generalizing s with
  | nil => exact looseCells_zero.mp h
  | cons i l ih =>
    refine ih (h.admitItem (hl i List.mem_cons_self) f) fun j hj => ?_
    rw [admitItem_scheduled]
    exact hl j (List.mem_cons_of_mem _ hj)

/-- A fold of steps that the pool does not see. -/
theorem poolView_foldl {α : Type} {g : State → α → State} (hg : ∀ s a, poolView (g s a) = poolView s) (l : List α) (s : State) :
    poolView (l.foldl g s) = poolView s := by
  induction l generalizing s with
  | nil => rfl
  | cons a l ih => exact (ih (g s a)).trans (hg s a)

theorem poolView_sendAdmission (b : List (Option Shown)) (s : State) (r : Nat) :
    poolView (State.sendAdmission b s r) = poolView s := by
  unfold State.sendAdmission; dsimp only; split <;> split <;> rfl

theorem CellsOk.admitItems {s : State} (h : CellsOk s) (f : Nat) : CellsOk (s.admitItems f) := by
  unfold State.admitItems
  dsimp only
  refine CellsOk.of_view ?_ (poolView_foldl (poolView_sendAdmission s.sub.regions) _ _)
  refine LooseCells.admitAll f _ ?_ fun i hi => h.items i (.inl (List.mem_filter.mp hi).1)
  refine (looseCells_zero.mpr h).setItems rfl h.regions (fun k => ?_) fun i hi =>
    h.items i (hi.imp_left fun m => (List.mem_filter.mp m).1)
  have := countP_filter_add s.sub.schedule (s.itemDue f) k
  simp only [trackItems, itemsLoose]
  rw [← this]; ring

theorem CellsOk.refreshRegion {s : State} (h : CellsOk s) (f r : Nat) : CellsOk (State.refreshRegion f s r) := by
  unfold State.refreshRegion
  split
  · rename_i x hx
    split
    · exact h
    · refine CellsOk.of_view (s := s.setRegion r (some ⟨x.item, x.item.opacity f⟩)) (looseCells_zero.mp ?_) rfl
      refine (looseCells_zero.mpr h).setItems rfl (by simpa [State.setRegion] using h.regions) (fun k => ?_) fun i hi => ?_
      · have := trackItems_setRegion (region_lt hx) (some ⟨x.item, x.item.opacity f⟩) k
        rw [hx, Option.any_some, Option.any_some] at this
        rw [Nat.add_right_cancel this]
      · have hm := region_mem hx
        refine h.items i (hi.imp_right fun m => (mem_set_items m).elim (fun c => ?_) id)
        cases c; exact hm
  · exact h

theorem CellsOk.subtitleWork {s : State} (h : CellsOk s) (f : Nat) : CellsOk (s.subtitleWork f) := by
  have refresh : ∀ u, CellsOk u → CellsOk (regionNumbers.foldl (State.refreshRegion f) u) := fun u hu =>
    (((hu.refreshRegion f 0).refreshRegion f 1).refreshRegion f 2).refreshRegion f 3
  unfold State.subtitleWork
  split
  · exact h
  · exact refresh _ (((h.emptyRegions _).admitItems f).dropItems _)

theorem CellsOk.nameActive {s : State} (h : CellsOk s) (t : Option Nat) : CellsOk (s.nameActive t) := by
  unfold State.nameActive
  split
  · exact h
  · have h1 : CellsOk { s with sub := { s.sub with active := t } } := h.of_view rfl
    exact h1.emptyRegions _

theorem nameActive_seq (s : State) (t : Option Nat) : (s.nameActive t).seq = s.seq := by
  unfold State.nameActive
  split
  · rfl
  · rw [(State.emptyRegions_spec { s with sub := { s.sub with active := t } } fun _ => true).1.rest]

/-! ### Cues (R127 to R134) -/

/-- A property of states that every effect of a cue keeps. -/
structure CueClosed (P : State → Prop) : Prop where
  updCue      : ∀ s f, P s → P (s.updCue f)
  raise       : ∀ s f, P s → P (s.raise f)
  setCueLevel : ∀ s i l, P s → P (s.setCueLevel i l)
  generators  : ∀ s l, P s → P (s.setGenerators l)
  updFader    : ∀ s f, P s → P (s.updFader f)
  activateMap : ∀ s m, P s → P (s.activateMap m)
  nameActive  : ∀ s t, P s → P (s.nameActive t)

/-- One entry keeps what the run of entries that it calls keeps. -/
theorem CueClosed.takeCue {P : State → Prop} (hP : CueClosed P) {expand : Nat → Nat → State → State}
    (he : ∀ a b s, P s → P (expand a b s)) (c : Cue) {s : State} (h : P s) : P (s.takeCue expand c) := by
  cases c with
  | empty => exact h
  | lineLevel line level => exact hP.setCueLevel s line level h
  | linePulse g line mode count pulse space =>
    unfold State.takeCue State.linePulse
    dsimp only
    split
    · exact h
    · exact hP.generators s _ h
  | pulseStop g => exact hP.generators s _ h
  | fader target rate =>
    unfold State.takeCue State.faderCue
    dsimp only
    split <;> exact hP.updFader s _ h
  | route map => exact hP.activateMap s map h
  | subtitles track => exact hP.nameActive s track h
  | callMacro first length => exact he first length s h
  | mark tag => exact hP.raise _ _ (hP.updCue s _ h)
  | holdShow => exact hP.updCue s (fun k => { k with pendingHold := true }) h

theorem CueClosed.runEntries {P : State → Prop} (hP : CueClosed P) {expand : ReturnPoint → Nat → Nat → State → State}
    (he : ∀ r a b s, P s → P (expand r a b s)) (left i : Nat) {s : State} (h : P s) : P (State.runEntries expand left i s) := by
  induction left generalizing i s with
  | zero => exact h
  | succ left ih => exact ih (i + 1) (hP.takeCue (he _) _ h)

theorem CueClosed.expandMacro {P : State → Prop} (hP : CueClosed P) (n : Nat) (r : ReturnPoint) (a b : Nat) {s : State} (h : P s) :
    P (State.expandMacro n r a b s) := by
  induction n generalizing r a b s with
  | zero => exact hP.raise s _ h
  | succ n ih =>
    exact hP.updCue _ (fun c => { c with stack := c.stack.tail }) (hP.runEntries (fun r a b s h => ih r a b h) b a
      (hP.updCue s (fun c => { c with stack := r :: c.stack }) h))

theorem CueClosed.sheetWork {P : State → Prop} (hP : CueClosed P) (f n : Nat) {s : State} (h : P s) : P (State.sheetWork f n s) := by
  induction n generalizing s with
  | zero => exact h
  | succ n ih =>
    unfold State.sheetWork
    split
    · split
      · exact ih (hP.takeCue (fun a b s h => hP.expandMacro _ _ a b h) _ (hP.updCue s _ h))
      · exact h
    · exact h

/-- Cues keep the pool, and touch nothing of the sequencer. -/
theorem cueClosed_cellsOk (q : Sequencer) : CueClosed fun s => CellsOk s ∧ s.seq = q where
  updCue _ _ h := ⟨h.1.of_view rfl, h.2⟩
  raise s f h := ⟨h.1.of_view (poolView_raise s f), by rw [State.raise_seq]; exact h.2⟩
  setCueLevel _ _ _ h := ⟨h.1.of_view rfl, h.2⟩
  generators _ _ h := ⟨h.1.of_view rfl, h.2⟩
  updFader _ _ h := ⟨h.1.of_view rfl, h.2⟩
  activateMap _ _ h := ⟨h.1.of_view rfl, h.2⟩
  nameActive s t h := ⟨h.1.nameActive t, by rw [nameActive_seq]; exact h.2⟩

theorem CellsOk.cueWork {s : State} (h : CellsOk s) (f : Nat) : CellsOk (s.cueWork f) ∧ (s.cueWork f).seq = s.seq :=
  (cueClosed_cellsOk s.seq).sheetWork f 512 ⟨h, rfl⟩

theorem CellsOk.endExpansion {s : State} (h : CellsOk s) : CellsOk s.endExpansion := by
  have h1 : CellsOk (s.updCue fun c => { c with stack := [], pendingHold := false }) := h.of_view rfl
  unfold State.endExpansion
  dsimp only
  split
  · unfold State.holdShow
    split
    · exact h1.enterHolding
    · exact h1
  · exact h1

theorem CellsOk.inputMacro {s : State} (h : CellsOk s) (a b : Nat) : CellsOk (s.inputMacro a b) := by
  have h1 : CellsOk s.startExpansion := h.of_view rfl
  exact ((cueClosed_cellsOk s.seq).runEntries (s := s.startExpansion) (expand := State.expandMacro Config.macroDepth)
    (fun r a b _ h => (cueClosed_cellsOk s.seq).expandMacro _ r a b h) b a ⟨h1, rfl⟩).1.endExpansion

/-! ### Presentation and boundaries -/

theorem CellsOk.startComposition {s : State} (h : CellsOk s) : CellsOk s.startComposition := by
  have view : ∀ (u : State) (t : Option Nat), poolView (u.startFader t) = poolView u := fun u t => by cases t <;> rfl
  unfold State.startComposition
  dsimp only
  refine CellsOk.of_view (CellsOk.nameActive (h.of_view ?_) s.currentComposition.subtitle) (poolView_joinLog _ _)
  rw [view, poolView_activateMap, poolView_raise, poolView_setPeriod]

@[simp] theorem poolView_judgeCount (s : State) : poolView s.judgeCount = poolView s := by
  unfold State.judgeCount
  split
  · split
    · rfl
    · dsimp only; split <;> rw [poolView_raise] <;> rfl
  · rfl

theorem poolView_accountVerdict (s : State) (f : Nat) (shown : Bool) : poolView (s.accountVerdict f shown) = poolView s := by
  unfold State.accountVerdict
  dsimp only
  split
  · rw [poolView_judgeCount]; rfl
  · rfl

theorem CellsOk.present {s : State} (h : CellsOk s) (f : Nat) : CellsOk (s.present f) := by
  have h1 : CellsOk ((s.sendVerdict f (s.verdict f)).accountVerdict f (s.verdict f)) :=
    h.of_view ((poolView_accountVerdict _ _ _).trans rfl)
  have h2 : ∀ u, CellsOk u → CellsOk (u.countRepeat (s.verdict f)) := fun u hu => by
    unfold State.countRepeat
    generalize (if s.verdict f = true then 0 else u.repeats + 1) = n
    dsimp only
    split
    · exact CellsOk.enterStalled (s := { u with repeats := n }) (hu.of_view rfl)
    · exact hu.of_view rfl
  unfold State.present State.advanceWindows
  dsimp only
  split
  · rename_i t ht
    exact (h2 _ h1).updWindow (currentTrack_lt ht) _
  · exact h2 _ h1

theorem CellsOk.playFrame {s : State} (h : CellsOk s) (m : Mix) : CellsOk (s.playFrame m) := by
  have h1 : CellsOk (if s.seq.frame = 0 then s.startComposition else s) := by
    split
    · exact h.startComposition
    · exact h
  unfold State.playFrame
  exact ((((h1.updSeq_same (f := fun q => { q with frame := s.seq.frame + 1 }) rfl rfl rfl).present _).frameBlock m _).subtitleWork
    _).cueWork _ |>.1

theorem CellsOk.afterAdvance {s : State} (h : CellsOk s) (m : Mix) : CellsOk (s.afterAdvance m) := by
  unfold State.afterAdvance
  split
  · rename_i hp; exact (h.enterEnded hp).of_view rfl
  · split
    · exact (h.updSeq_active (f := fun q => { q with state := .playing, prerollTimer := none, stallTimer := none }) rfl rfl
        rfl).playFrame m
    · exact h.enterPreroll.of_view rfl

theorem CellsOk.endBoundary {s : State} (h : CellsOk s) (ha : s.seq.state.active = true) (m : Mix) : CellsOk (s.endBoundary m) := by
  obtain ⟨h1, e⟩ := h.cueWork s.seq.frame
  unfold State.endBoundary
  refine CellsOk.afterAdvance (CellsOk.advancePosition (h1.of_view ?_) ?_) m
  · rw [poolView_raise, poolView_closeRecord]
  · rw [State.raise_seq, State.closeRecord_seq, e]; exact ha

theorem CellsOk.playBoundary {s : State} (h : CellsOk s) (ha : s.seq.state.active = true) (m : Mix) : CellsOk (s.playBoundary m) := by
  unfold State.playBoundary
  split
  · exact h.playFrame m
  · exact h.endBoundary ha m

theorem CellsOk.prerollBoundary {s : State} (h : CellsOk s) (ha : s.seq.state.active = true) (m : Mix) :
    CellsOk (s.prerollBoundary m) := by
  have enter := (h.updSeq_active (f := fun q => { q with state := .playing, cleared := true, prerollTimer := none }) rfl rfl
    rfl).playBoundary rfl m
  unfold State.prerollBoundary
  dsimp only
  split
  · split
    · exact enter
    · split
      · exact enter
      · rename_i r _
        have e := poolView_writeBarred s r
        refine CellsOk.afterAdvance (CellsOk.advancePosition (h.of_view e) ?_) m
        simp only [poolView, Prod.mk.injEq] at e
        rw [e.2.2.2.1]; exact ha
  · exact h.of_view rfl

theorem CellsOk.boundaryWork {s : State} (h : CellsOk s) (m : Mix) : CellsOk (s.boundaryWork m) := by
  unfold State.boundaryWork
  split
  · rename_i hs; exact h.prerollBoundary (by rw [hs]; rfl) m
  · rename_i hs; exact h.playBoundary (by rw [hs]; rfl) m
  · unfold State.stalledBoundary
    split
    · exact CellsOk.playBoundary (h.updSeq_active (f := fun q => { q with state := .playing, stallTimer := none }) rfl rfl
        rfl).resumeEvent rfl m
    · exact h.of_view rfl
  all_goals exact h.of_view rfl

theorem poolView_countFlow (q : ShowState) (s : State) : poolView (s.countFlow q) = poolView s := by
  unfold State.countFlow
  split
  · split <;> rfl
  · rfl

theorem CellsOk.frameBoundary {s : State} (h : CellsOk s) : CellsOk s.frameBoundary := by
  unfold State.frameBoundary
  refine CellsOk.of_view (CellsOk.endExpansion (CellsOk.boundaryWork (s := s.stepFader.startExpansion) (h.of_view rfl) s.mix)) ?_
  rw [poolView_countFlow, poolView_reloadCountdown]

/-- An event keeps the pool if its work does. -/
theorem CellsOk.event {work : State → State} {s : State} (h : CellsOk (work s)) : CellsOk (event work s) :=
  h.of_view (by rw [Machine.event, poolView_arbitrate, poolView_reportChange])

/-! ### The latch and the inputs -/

theorem CellsOk.setLatch {s : State} (h : CellsOk s) : CellsOk s.setLatch := by
  have h1 : CellsOk s.emergencyShow := by
    unfold State.emergencyShow
    split
    · exact h.of_view rfl
    · rename_i hs
      exact h.reschedule rfl fun t ht => by rw [scheduled_iff, hs] at ht; exact absurd ht.2.1 (by decide)
    all_goals exact h.enterStopped _
  unfold State.setLatch
  split
  · exact h
  · refine h1.of_view ?_
    dsimp only
    rw [poolView_raise]
    rfl

theorem CellsOk.releaseLatch {s u : State} (h : CellsOk s) (hu : s.releaseLatch = some u) : CellsOk u := by
  unfold State.releaseLatch at hu
  split at hu
  · cases hu; exact h.of_view rfl
  · cases hu

theorem CellsOk.inputAction {s : State} (h : CellsOk s) (a : InputAction) : CellsOk (s.inputAction a) := by
  have refused : CellsOk (s.raise .inputRefused) := h.of_view (poolView_raise _ _)
  have command : ∀ c, CellsOk ((s.showCommand c).getD (s.raise .inputRefused)) := fun c => by
    cases e : s.showCommand c with
    | none => exact refused
    | some u => exact h.showCommand e
  cases a with
  | nothing => exact h
  | start => exact command .start
  | hold => exact command .hold
  | resume => exact command .resume
  | stop => exact command .stop
  | skip => exact command .skip
  | runMacro first length => exact h.inputMacro first length
  | emergency => exact h

theorem CellsOk.acceptChange {s : State} (h : CellsOk s) (i : Nat) : CellsOk (s.acceptChange i) := by
  have h1 : CellsOk (s.updInput i fun k => { k with debounced := k.raw, waiting := none }) := h.of_view rfl
  unfold State.acceptChange
  dsimp only
  split
  · split
    · split
      · exact h1.setLatch
      · exact h1
    · split
      · exact h1.inputAction _
      · exact h1
  · exact h1

theorem CellsOk.acceptEdge {s : State} (h : CellsOk s) (i : Nat) : CellsOk (s.acceptEdge i) := (h.acceptChange i).event

theorem CellsOk.changeInput {s : State} (h : CellsOk s) (i : Nat) (l : InLevel) : CellsOk (s.changeInput i l) := by
  have h1 : CellsOk (s.updInput i fun k => { k with raw := l }) := h.of_view rfl
  unfold State.changeInput
  dsimp only
  split
  · exact h
  · split
    · exact h1.of_view rfl
    · split
      · exact h1.acceptEdge i
      · exact h1.of_view rfl

theorem CellsOk.acceptEdges (l : List Nat) {s : State} (h : CellsOk s) : CellsOk (l.foldl State.acceptEdge s) := by
  induction l generalizing s with
  | nil => exact h
  | cons i l ih => exact ih (h.acceptEdge i)

theorem CellsOk.millisecondTick {s : State} (h : CellsOk s) (order : List (Fin 8)) : CellsOk (s.millisecondTick order) :=
  CellsOk.acceptEdges _ (h.of_view rfl)

theorem CellsOk.secondTick {s : State} (h : CellsOk s) : CellsOk s.secondTick := by
  have h1 : CellsOk { s with clk := s.clk.second } := h.of_view rfl
  unfold State.secondTick State.countTimers
  dsimp only
  split
  · split
    · exact (h1.updSeq_same rfl rfl rfl).enterStopped _
    · exact h1.updSeq_same rfl rfl rfl
  · split
    · exact (h1.updSeq_same rfl rfl rfl).enterStopped _
    · exact h1.updSeq_same rfl rfl rfl
  all_goals exact h1

end Sys2Proof.Safety
end

-- ==== one track of the unpacker ====
section
/-! PROOFS. The unpacker works on one track and the pool: each of its operations, said as what it makes of the run state of its track
and of the free cells (`putTrack`). -/

namespace Sys2Proof.Safety

open Sys2Proof.Machine

/-! ### putTrack -/

@[simp] theorem putTrack_tables (s : State) (t : Nat) (k : Track) (n : Nat) : (putTrack s t k n).tables = s.tables := rfl
@[simp] theorem putTrack_seq (s : State) (t : Nat) (k : Track) (n : Nat) : (putTrack s t k n).seq = s.seq := rfl
@[simp] theorem putTrack_sub (s : State) (t : Nat) (k : Track) (n : Nat) : (putTrack s t k n).sub = s.sub := rfl
@[simp] theorem putTrack_mgmt (s : State) (t : Nat) (k : Track) (n : Nat) : (putTrack s t k n).mgmt = s.mgmt := rfl
@[simp] theorem putTrack_link (s : State) (t : Nat) (k : Track) (n : Nat) : (putTrack s t k n).link = s.link := rfl
@[simp] theorem putTrack_freeCells (s : State) (t : Nat) (k : Track) (n : Nat) : (putTrack s t k n).freeCells = n := rfl
@[simp] theorem putTrack_length (s : State) (t : Nat) (k : Track) (n : Nat) :
    (putTrack s t k n).tracks.length = s.tracks.length := by simp [putTrack]
@[simp] theorem putTrack_trackEntry (s : State) (t : Nat) (k : Track) (n i : Nat) :
    (putTrack s t k n).trackEntry i = s.trackEntry i := rfl
@[simp] theorem putTrack_composition (s : State) (t : Nat) (k : Track) (n i : Nat) :
    (putTrack s t k n).composition i = s.composition i := rfl
@[simp] theorem putTrack_scheduled (s : State) (t : Nat) (k : Track) (n i : Nat) :
    (putTrack s t k n).scheduled i = s.scheduled i := rfl
@[simp] theorem putTrack_contentOk (s : State) (t : Nat) (k : Track) (n : Nat) (p : Parcel) :
    (putTrack s t k n).contentOk p = s.contentOk p := rfl
@[simp] theorem putTrack_itemFrame (s : State) (t : Nat) (k : Track) (n i : Nat) :
    (putTrack s t k n).itemFrame i = s.itemFrame i := rfl

@[simp] theorem putTrack_putTrack (s : State) (t : Nat) (k k' : Track) (n n' : Nat) :
    putTrack (putTrack s t k n) t k' n' = putTrack s t k' n' := by simp [putTrack]

theorem putTrack_track {s : State} {t : Nat} (k : Track) (n : Nat) (h : t < s.tracks.length) : (putTrack s t k n).track t = k := by
  simp [State.track, putTrack, List.getD_eq_getElem?_getD, h]

theorem putTrack_track_other (s : State) {t i : Nat} (k : Track) (n : Nat) (h : i ≠ t) :
    (putTrack s t k n).track i = s.track i := by
  simp [State.track, putTrack, List.getD_eq_getElem?_getD, Ne.symm h]

/-- Every state is its own track put in place. -/
theorem eq_putTrack {s : State} {t : Nat} (h : t < s.tracks.length) : s = putTrack s t (s.track t) s.freeCells := by
  have e : s.tracks.set t (s.track t) = s.tracks := by
    simp [State.track, List.getD_eq_getElem?_getD, h]
  simp only [putTrack, e]

theorem putTrack_updTrack {s : State} {t : Nat} (k : Track) (n : Nat) (f : Track → Track) (h : t < s.tracks.length) :
    (putTrack s t k n).updTrack t f = putTrack s t (f k) n := by
  have e : (s.tracks.set t k).modify t f = s.tracks.set t (f k) := by
    apply List.ext_getElem?
    intro i
    by_cases c : t = i
    · subst c; simp [h]
    · simp [c]
  simp only [putTrack, State.updTrack, e]

/-! ### The operations on one track -/

section
variable {s : State} {t : Nat} (k : Track) (n : Nat) (h : t < s.tracks.length)
include h

theorem putTrack_assembly : (putTrack s t k n).assembly t = k.assembly := by rw [State.assembly, putTrack_track k n h]

theorem putTrack_count (f : Counters → Counters) :
    (putTrack s t k n).count t f = putTrack s t { k with counters := f k.counters } n := putTrack_updTrack k n _ h

theorem putTrack_setAssembly (a : Option Assembly) :
    (putTrack s t k n).setAssembly t a = putTrack s t { k with assembly := a } n := putTrack_updTrack k n _ h

theorem putTrack_updWindow (f : Window → Window) :
    (putTrack s t k n).updWindow t f = putTrack s t { k with window := k.window.map f } n := putTrack_updTrack k n _ h

theorem putTrack_returnCells (m : Nat) :
    (putTrack s t k n).returnCells t m = putTrack s t { k with cellsHeld := k.cellsHeld - m } (n + m) :=
  congrArg (fun u : State => { u with freeCells := n + m }) (putTrack_updTrack k n _ h)

theorem putTrack_grantCells (m : Nat) :
    (putTrack s t k n).grantCells t m = putTrack s t { k with cellsHeld := k.cellsHeld + m } (n - m) :=
  congrArg (fun u : State => { u with freeCells := n - m }) (putTrack_updTrack k n _ h)

theorem putTrack_grantSucceeds (m : Nat) :
    (putTrack s t k n).grantSucceeds t m = decide (m ≤ n ∧ k.cellsHeld + m ≤ (s.trackEntry t).quota) := by
  rw [State.grantSucceeds, putTrack_track k n h]; rfl

theorem putTrack_leaveIfLast (last : Bool) :
    (putTrack s t k n).leaveIfLast t last = putTrack s t { k with assembly := if last then none else k.assembly } n := by
  unfold State.leaveIfLast
  cases last
  · rfl
  · exact putTrack_setAssembly k n h none

end

/-- A flag is raised, whatever a track holds. -/
theorem putTrack_raise (s : State) (t : Nat) (k : Track) (n : Nat) (f : Flag) :
    (putTrack s t k n).raise f = putTrack (s.raise f) t k n := by
  unfold State.raise
  rw [putTrack_mgmt]
  split
  · rfl
  · dsimp only; split <;> rfl

/-! ### Damage (R12) -/

/-- The window covers 64 frames from its base on (R55). -/
theorem covers_iff (w : Window) (f : Nat) : w.covers f = true ↔ w.base ≤ f ∧ f < w.base + 64 :=
  decide_eq_true_iff

/-- Has a track an intact unit in assembly? -/
def hasIntact (k : Track) : Bool := k.assembly.any fun a => !a.damaged

/-- The run state of a track whose unit in assembly, if it is intact, is damaged. -/
def harmed (k : Track) : Track :=
  match k.assembly with
  | some a => if a.damaged then k else damagedTrack k a
  | none => k

/-- The cells that damage returns. -/
def harmCells (k : Track) : Nat :=
  match k.assembly with
  | some a => if a.damaged then 0 else a.cells
  | none => 0

/-- The run state of a track after damage that the damaged-unit counter counts. -/
def harmedCounted (k : Track) : Track :=
  { harmed k with counters := { k.counters with
      damagedUnits := if hasIntact k then more k.counters.damagedUnits else k.counters.damagedUnits } }

theorem harmed_counters (k : Track) : (harmed k).counters = k.counters := by
  unfold harmed; split
  · split <;> rfl
  · rfl

section
variable {s : State} {t : Nat} (k : Track) (n : Nat) (h : t < s.tracks.length)
include h

theorem putTrack_damage : (putTrack s t k n).damage t = putTrack s t (harmed k) (n + harmCells k) := by
  unfold State.damage harmed harmCells
  rw [putTrack_assembly k n h]
  cases k.assembly with
  | none => rfl
  | some a =>
    dsimp only
    split
    · rfl
    · rw [putTrack_returnCells _ _ h, putTrack_setAssembly _ _ h, putTrack_updWindow _ _ h]
      simp only [damagedTrack, covers_iff]

theorem putTrack_intact : (putTrack s t k n).intact t = hasIntact k := by
  unfold State.intact hasIntact
  rw [putTrack_assembly k n h]
  cases k.assembly <;> rfl

theorem putTrack_damageCounted :
    (putTrack s t k n).damageCounted t = putTrack s t (harmedCounted k) (n + harmCells k) := by
  unfold State.damageCounted
  rw [putTrack_intact k n h]
  cases c : hasIntact k with
  | true =>
    rw [if_pos rfl, putTrack_damage k n h, putTrack_count _ _ h, harmedCounted, c, harmed_counters]
    rfl
  | false =>
    have e : harmedCounted k = k ∧ harmCells k = 0 := by
      unfold harmedCounted harmed harmCells
      rw [c]
      unfold hasIntact at c
      cases d : k.assembly with
      | none => exact ⟨rfl, rfl⟩
      | some a => rw [d] at c; simp at c; simp [c]
    rw [e.1, e.2]; rfl

theorem putTrack_endAssembly :
    (putTrack s t k n).endAssembly t = putTrack s t { harmedCounted k with assembly := none } (n + harmCells k) := by
  rw [State.endAssembly, putTrack_damageCounted k n h, putTrack_setAssembly _ _ h]

theorem putTrack_overrun (last : Bool) : (putTrack s t k n).overrun t last =
    putTrack (s.raise .overrun) t
      { harmed k with
        assembly := if last then none else (harmed k).assembly
        counters := { k.counters with overruns := more k.counters.overruns } } (n + harmCells k) := by
  rw [State.overrun, putTrack_damage k n h, putTrack_count _ _ h, putTrack_raise,
    putTrack_leaveIfLast _ _ (by simpa using h), harmed_counters]
  rfl

end

/-- Damage leaves no intact unit. -/
theorem harmed_assembly {k : Track} {a : Assembly} (h : (harmed k).assembly = some a) : a.damaged = true := by
  unfold harmed at h
  split at h
  · rename_i b hb
    split at h
    · rename_i hd; rw [hb] at h; cases h; exact hd
    · cases h; rfl
  · rename_i hn; rw [hn] at h; cases h

end Sys2Proof.Safety
end

-- ==== the cell pool: the unpacker and the requests ====
section
/-! PROOFS. The cell pool under the fragments of a parcel (R10 to R24) and under the requests; every step keeps it. -/

namespace Sys2Proof.Safety

open Sys2Proof.Machine

/-! ### The unpacker's operations on a scheduled track -/

/-- Another run state is put on a scheduled track, with as many cells in all. -/
theorem CellsOk.put {s : State} {t : Nat} {k k' : Track} {n n' : Nat} (h : CellsOk (putTrack s t k n)) (ht : t < 32)
    (hs : s.scheduled t = true) (free : n' + k'.cellsHeld = n + k.cellsHeld)
    (held : k'.cellsHeld + asmCells k.assembly + unitCells k.queue = k.cellsHeld + asmCells k'.assembly + unitCells k'.queue)
    (quota : k'.cellsHeld ≤ (s.trackEntry t).quota) (unit : ∀ a, k'.assembly = some a → UnitOk (s.trackEntry t).kind a) :
    CellsOk (putTrack s t k' n') := by
  have hl : t < s.tracks.length := by have := h.tracks; rw [putTrack_length] at this; omega
  have e := putTrack_track k n hl
  have r := (looseCells_zero.mpr h).track (f := fun _ => k') (n := n') (e' := fun _ => 0) ht (fun _ _ => rfl) (by rw [e]; exact free)
    (by rw [e]; omega) quota unit fun c => by rw [putTrack_scheduled, hs] at c; cases c
  rw [putTrack_updTrack k n _ hl] at r
  exact looseCells_zero.mp r

section
variable {s : State} {t : Nat} (h : CellsOk s) (ht : t < 32) (hs : s.scheduled t = true)
include h ht

theorem CellsOk.lt_length : t < s.tracks.length := by rw [h.tracks]; exact ht

/-- What a track holds at least: its unit in assembly. -/
theorem CellsOk.assembly_le {a : Assembly} (ha : s.assembly t = some a) : a.cells ≤ (s.track t).cellsHeld := by
  have := h.held t ht
  rw [cellsOf_eq, ← State.assembly, ha, asmCells_some] at this
  omega

include hs

theorem CellsOk.damage : CellsOk (s.damage t) := by
  have hl := h.lt_length ht
  have e := eq_putTrack hl
  rw [e, putTrack_damage _ _ hl]
  cases c : s.assembly t with
  | none => rw [State.assembly] at c; simpa only [harmed, harmCells, c, Nat.add_zero, ← e] using h
  | some a =>
    have le := h.assembly_le ht c
    rw [State.assembly] at c
    have hq := h.quota t
    cases d : a.damaged with
    | true => simpa only [harmed, harmCells, c, d, if_true, Nat.add_zero, ← e] using h
    | false =>
      simp only [harmed, harmCells, c, d]
      rw [e] at h
      refine h.put ht hs ?_ ?_ ?_ fun b hb => ?_
      · simp [damagedTrack]; omega
      · simp [damagedTrack, c]; omega
      · simp [damagedTrack]; omega
      · cases hb; exact ⟨fun _ => rfl, fun d => by cases d⟩

/-- The unit in assembly is replaced by one of as many cells, or by none when it has none. -/
theorem CellsOk.setAssembly {a : Option Assembly} (hc : asmCells a = asmCells (s.assembly t))
    (ok : ∀ b, a = some b → UnitOk (s.trackEntry t).kind b) : CellsOk (s.setAssembly t a) :=
  looseCells_zero.mp ((looseCells_zero.mpr h).setAssembly ht hs (fun _ _ => rfl) (by rw [hc]) ok)

theorem CellsOk.dropAssembly (hc : asmCells (s.assembly t) = 0) : CellsOk (s.setAssembly t none) :=
  h.setAssembly ht hs hc.symm fun b hb => by cases hb

theorem CellsOk.leaveIfLast (last : Bool) (hc : asmCells (s.assembly t) = 0) : CellsOk (s.leaveIfLast t last) := by
  unfold State.leaveIfLast
  split
  · exact h.dropAssembly ht hs hc
  · exact h

end

theorem damage_scheduled (s : State) (t k : Nat) : (s.damage t).scheduled k = s.scheduled k := by
  unfold State.damage; split
  · split <;> rfl
  · rfl

theorem damageCounted_scheduled (s : State) (t k : Nat) : (s.damageCounted t).scheduled k = s.scheduled k := by
  unfold State.damageCounted; split
  · exact damage_scheduled s t k
  · rfl

theorem raise_scheduled (s : State) (f : Flag) (k : Nat) : (s.raise f).scheduled k = s.scheduled k :=
  State.scheduled_congr (State.raise_tables s f) (State.raise_seq s f) k

theorem raise_assembly (s : State) (f : Flag) (t : Nat) : (s.raise f).assembly t = s.assembly t := by
  rw [State.assembly, State.raise_track, State.assembly]

/-- A count leaves the units in assembly as they are. -/
theorem count_assembly (s : State) (t k : Nat) (f : Counters → Counters) : (s.count t f).assembly k = s.assembly k := by
  rw [State.assembly, State.assembly, State.track_count]
  split
  · rename_i h; rw [h.1]
  · rfl

/-- After damage no unit with cells is in assembly. -/
theorem damage_assembly {s : State} {t : Nat} {a : Assembly} (hl : t < s.tracks.length) (ha : (s.damage t).assembly t = some a) :
    a.damaged = true := by
  rw [eq_putTrack hl, putTrack_damage _ _ hl, putTrack_assembly _ _ hl] at ha
  exact harmed_assembly ha

theorem damageCounted_assembly {s : State} {t : Nat} {a : Assembly} (hl : t < s.tracks.length)
    (ha : (s.damageCounted t).assembly t = some a) : a.damaged = true := by
  rw [eq_putTrack hl, putTrack_damageCounted _ _ hl, putTrack_assembly _ _ hl] at ha
  exact harmed_assembly ha

/-- A damaged unit holds no cells. -/
theorem CellsOk.asmCells_of_damaged {s : State} {t : Nat} (h : CellsOk s) (hd : ∀ a, s.assembly t = some a → a.damaged = true) :
    asmCells (s.assembly t) = 0 := by
  cases c : s.assembly t with
  | none => rfl
  | some a => exact h.damaged t a c (.inl (hd a c))

section
variable {s : State} {t : Nat} (h : CellsOk s) (ht : t < 32) (hs : s.scheduled t = true)
include h ht hs

theorem CellsOk.damageCounted : CellsOk (s.damageCounted t) := by
  unfold State.damageCounted
  split
  · exact (h.damage ht hs).count ht _
  · exact h

theorem CellsOk.endAssembly : CellsOk (s.endAssembly t) := by
  have h1 := h.damageCounted ht hs
  exact h1.dropAssembly ht (by rw [damageCounted_scheduled]; exact hs)
    (h1.asmCells_of_damaged fun a => damageCounted_assembly (h.lt_length ht))

theorem CellsOk.overrun (last : Bool) : CellsOk (s.overrun t last) := by
  have h1 : CellsOk (((s.damage t).count t fun c => { c with overruns := satInc c.overruns }).raise .overrun) :=
    ((h.damage ht hs).count ht _).of_view (poolView_raise _ _)
  refine h1.leaveIfLast ht (by rw [raise_scheduled]; exact (damage_scheduled s t t).trans hs) last
    (h1.asmCells_of_damaged fun a ha => ?_)
  rw [raise_assembly, count_assembly] at ha
  exact damage_assembly (h.lt_length ht) ha

/-- A differing continuation, whose harm to an intact unit keeps the pool. -/
theorem CellsOk.differing (last : Bool) {harm : State → Nat → State} (hh : CellsOk (harm s t))
    (hd : ∀ a, (harm s t).assembly t = some a → a.damaged = true) (hsch : (harm s t).scheduled t = s.scheduled t) :
    CellsOk (s.differing t last harm) := by
  unfold State.differing
  split
  · have h1 : CellsOk ((harm s t).countDropped t) := hh.count ht _
    exact h1.leaveIfLast ht (hsch.trans hs) last (h1.asmCells_of_damaged fun a ha => hd a ((count_assembly _ _ _ _).symm.trans ha))
  · exact h.count ht _

theorem CellsOk.differing_counted (last : Bool) : CellsOk (s.differing t last State.damageCounted) :=
  h.differing ht hs last (h.damageCounted ht hs) (fun _ => damageCounted_assembly (h.lt_length ht)) (damageCounted_scheduled s t t)

theorem CellsOk.differing_uncounted (last : Bool) : CellsOk (s.differing t last State.damage) :=
  h.differing ht hs last (h.damage ht hs) (fun _ => damage_assembly (h.lt_length ht)) (damage_scheduled s t t)

/-! ### Sound units -/

/-- A unit is discarded on completion: its cells return (R21, R22). -/
theorem CellsOk.discard {a : Assembly} (ha : s.assembly t = some a) :
    CellsOk ((s.setAssembly t none).discardUnit t a.cells) := by
  refine looseCells_zero.mp (LooseCells.returnCells (h := ?_) ht)
  exact (looseCells_zero.mpr h).setAssembly ht hs (fun k hk => plus_other _ _ hk) (by rw [ha]; simp) fun b hb => by cases hb

theorem CellsOk.completeSound {a : Assembly} (ha : s.assembly t = some a) : CellsOk (s.completeSound t a) := by
  have hd := h.discard ht hs ha
  have h1 : LooseCells (s.setAssembly t none) (plus (fun _ => 0) t a.cells) :=
    (looseCells_zero.mpr h).setAssembly ht hs (fun k hk => plus_other _ _ hk) (by rw [ha]; simp) fun b hb => by cases hb
  unfold State.completeSound
  dsimp only
  split
  · exact hd.count ht _
  · split
    · exact hd.count ht _
    · refine CellsOk.count (looseCells_zero.mp (h1.setQueue ht (fun k hk => (plus_other (fun _ => 0) _ hk).symm) ?_ rfl rfl fun c => ?_)) ht _
      · rw [plus_same, unitCells_append, unitCells_cons]; simp [unitCells]
      · exact absurd (hs.symm.trans c) (by simp)

theorem CellsOk.takeSound (hk : (s.trackEntry t).kind.isSound = true) {a : Assembly} (ha : s.assembly t = some a)
    (hd : a.damaged = false) (p : Parcel) : CellsOk (s.takeSound t a p) := by
  have ok : ∀ b : Assembly, b.damaged = false → UnitOk (s.trackEntry t).kind b := fun b hb =>
    ⟨fun c => by rw [hb] at c; rcases c with c | c <;> [cases c; (rw [c] at hk; cases hk)], fun _ c => by rw [c] at hk; cases hk⟩
  unfold State.takeSound
  dsimp only
  split
  · rename_i hg
    have hlen := h.lt_length ht
    have h1 := (looseCells_zero.mpr h).grantCells ht hs hg
    have h2 : CellsOk _ := looseCells_zero.mp (h1.setAssembly (a := some { a with
      bytes := a.bytes ++ p.payload, cells := a.cells + soundCellsNeeded a.bytes.length a.cells p.payload.length }) ht hs
      (fun k hk => (plus_other (fun _ => 0) _ hk).symm) (by
        have e : (s.grantCells t (soundCellsNeeded a.bytes.length a.cells p.payload.length)).assembly t = s.assembly t := by
          rw [State.assembly, State.track_grantCells, if_pos ⟨rfl, hlen⟩, State.assembly]
        rw [e, ha]; simp) fun b hb => ok b (by cases hb; exact hd))
    split
    · refine h2.completeSound ht hs ?_
      rw [State.assembly, State.track_setAssembly, if_pos ⟨rfl, by simpa using hlen⟩]
    · exact h2
  · exact h.overrun ht hs _

end

/-! ### Subtitle units -/

/-- An intact subtitle unit of 2 cells is in order. -/
theorem unitOk_subtitle {a : Assembly} (hd : a.damaged = false) (hc : a.cells = itemCells) : UnitOk .subtitle a :=
  ⟨fun c => c.elim (fun c => by rw [hd] at c; cases c) fun c => (nomatch c), fun _ _ => hc⟩

theorem insertItem_perm (i : Item) (l : List Item) : (insertItem i l).Perm (i :: l) := by
  induction l with
  | nil => exact .refl _
  | cons j l ih =>
    unfold insertItem
    split
    · exact (ih.cons j).trans (.swap i j l)
    · exact .refl _

/-- An item is offered whose cells are loose: it is discarded, admitted, or refused (R104, R105). -/
theorem LooseCells.offerItem {s : State} {i : Item} (h : LooseCells s (plus (fun _ => 0) i.track itemCells))
    (hi : i.track < 32 ∧ i.region ≤ 3 ∧ s.scheduled i.track = true) : CellsOk (s.offerItem i) := by
  unfold State.offerItem
  split
  · exact looseCells_zero.mp (LooseCells.returnCells (h.of_view rfl) hi.1)
  · split
    · refine looseCells_zero.mp (h.setItems rfl h.regions (fun k => ?_) fun j hj => ?_)
      · have e : (insertItem i s.sub.schedule).countP (fun j => j.track == k) =
            s.sub.schedule.countP (fun j => j.track == k) + (i.track == k).toNat := by
          rw [(insertItem_perm i s.sub.schedule).countP_eq, List.countP_cons]
          cases i.track == k <;> rfl
        simp only [trackItems, e]
        by_cases c : i.track = k
        · subst c; rw [plus_same]; simp; ring
        · rw [plus_other _ _ (Ne.symm c), beq_eq_false_iff_ne.mpr c]; simp
      · rcases hj with m | m
        · rcases List.mem_cons.mp ((insertItem_perm i s.sub.schedule).mem_iff.mp m) with rfl | m
          · exact hi
          · exact h.items j (.inl m)
        · exact h.items j (.inr m)
    · refine CellsOk.of_view (looseCells_zero.mp (LooseCells.returnCells (h.of_view ?_) hi.1)) (poolView_raise _ _)
      rfl

section
variable {s : State} {t : Nat} (h : CellsOk s) (ht : t < 32) (hs : s.scheduled t = true)
include h ht hs

/-- A unit of 2 cells completes: its cells pass to its item, or return (R22). -/
theorem CellsOk.completeSubtitle {a : Assembly} (ha : s.assembly t = some a) (hc : a.cells = itemCells) :
    CellsOk (s.completeSubtitle t a) := by
  have hd := h.discard ht hs ha
  have h1 : LooseCells (s.setAssembly t none) (plus (fun _ => 0) t itemCells) :=
    (looseCells_zero.mpr h).setAssembly ht hs (fun k hk => plus_other _ _ hk) (by rw [ha]; simp [hc]) fun b hb => by cases hb
  unfold State.completeSubtitle
  dsimp only
  split
  · exact hd.count ht _
  · rename_i hw
    split
    · exact hd.count ht _
    · have hr : field a.bytes 8 1 ≤ 3 := by
        have : itemWellFormed a.bytes = true := by simpa using hw
        simp only [itemWellFormed, decide_eq_true_eq] at this
        exact this.2.2.2.2.2
      have not : s.scheduled t ≠ false := by rw [hs]; simp
      have h2 := h1.setQueue (f := fun k => { k with lastFrame := some a.frame }) ht (fun _ _ => rfl) rfl rfl rfl
        fun c => absurd c not
      have h3 := h2.setQueue (f := fun k => { k with counters := { k.counters with delivered := satInc k.counters.delivered } })
        ht (fun _ _ => rfl) rfl rfl rfl fun c => absurd c not
      exact LooseCells.offerItem (i := readItem t a.bytes) h3 ⟨ht, hr, hs⟩

theorem CellsOk.takeSubtitle (hk : (s.trackEntry t).kind = .subtitle) {a : Assembly} (ha : s.assembly t = some a)
    (hd : a.damaged = false) (p : Parcel) : CellsOk (s.takeSubtitle t a p) := by
  have hc : a.cells = itemCells := h.whole t a ha hd hk
  have hl := h.lt_length ht
  unfold State.takeSubtitle
  dsimp only
  split
  · have h1 : CellsOk (s.countMalformed t) := h.count ht _
    have h2 := h1.damage ht hs
    exact h2.leaveIfLast ht (by rw [damage_scheduled]; exact hs) _
      (h2.asmCells_of_damaged fun b => damage_assembly (h1.lt_length ht))
  · have h1 : CellsOk (s.setAssembly t (some { a with bytes := a.bytes ++ p.payload })) :=
      h.setAssembly ht hs (by rw [ha]; rfl) fun b hb => by
        cases hb
        exact hk ▸ unitOk_subtitle hd hc
    split
    · exact h1.completeSubtitle ht hs (by rw [State.assembly, State.track_setAssembly, if_pos ⟨rfl, hl⟩]) hc
    · exact h1

/-- The first fragment of a subtitle unit, on a track with no unit in assembly (R18). -/
theorem CellsOk.startSubtitle (hk : (s.trackEntry t).kind = .subtitle) (hn : s.assembly t = none) (p : Parcel) :
    CellsOk (s.startSubtitle t p) := by
  have hl := h.lt_length ht
  have e := eq_putTrack hl
  rw [State.assembly] at hn
  unfold State.startSubtitle
  dsimp only
  rw [e, putTrack_setAssembly _ _ hl]
  rw [e] at h
  split
  · rename_i hg
    rw [putTrack_grantSucceeds _ _ hl] at hg
    obtain ⟨hf, hq⟩ := of_decide_eq_true hg
    rw [putTrack_grantCells _ _ hl, putTrack_setAssembly _ _ hl]
    refine CellsOk.takeSubtitle (h.put ht hs ?_ ?_ hq fun b hb => ?_) ht hs hk (putTrack_assembly _ _ hl) rfl p
    · dsimp only; omega
    · simp [hn]
    · cases hb
      exact hk ▸ unitOk_subtitle rfl rfl
  · rw [putTrack_overrun _ _ hl, ← putTrack_raise]
    have hq := h.quota t
    rw [putTrack_track _ _ hl] at hq
    refine CellsOk.of_view (h.put ht hs ?_ ?_ ?_ fun b hb => ?_) (poolView_raise _ _)
    · rfl
    · cases p.last <;> simp [harmed, newAssembly, damagedTrack, hn]
    · exact hq
    · cases hl : p.last <;> rw [hl] at hb <;> cases hb
      exact ⟨fun _ => rfl, fun c => by cases c⟩

end

theorem endAssembly_scheduled (s : State) (t k : Nat) : (s.endAssembly t).scheduled k = s.scheduled k :=
  damageCounted_scheduled s t k

theorem damage_trackEntry (s : State) (t k : Nat) : (s.damage t).trackEntry k = s.trackEntry k := by
  unfold State.damage; split
  · split <;> rfl
  · rfl

theorem endAssembly_trackEntry (s : State) (t k : Nat) : (s.endAssembly t).trackEntry k = s.trackEntry k := by
  unfold State.endAssembly State.damageCounted; split
  · exact damage_trackEntry s t k
  · rfl

theorem endAssembly_assembly {s : State} {t : Nat} (hl : t < s.tracks.length) : (s.endAssembly t).assembly t = none := by
  rw [eq_putTrack hl, putTrack_endAssembly _ _ hl, putTrack_assembly _ _ hl]

/-! ### Picture units -/

section
variable {s : State} {t : Nat} (h : CellsOk s) (ht : t < 32) (hs : s.scheduled t = true)
include h

/-- A picture track's unit holds no cells (R24). -/
theorem CellsOk.asmCells_of_picture (hk : (s.trackEntry t).kind = .picture) : asmCells (s.assembly t) = 0 := by
  cases c : s.assembly t with
  | none => rfl
  | some a => exact h.damaged t a c (.inr hk)

include ht

theorem CellsOk.pictureLost (late : Bool) : CellsOk (s.pictureLost t late) := (h.count ht _).of_view (poolView_raise _ _)

include hs

theorem CellsOk.completePicture (hk : (s.trackEntry t).kind = .picture) (p : Parcel) : CellsOk (s.completePicture t p) := by
  unfold State.completePicture
  split
  · have h1 : CellsOk ((s.updWindow t fun w => w.set p.eye p.frame .complete).countDelivered t) := (h.updWindow ht _).count ht _
    exact h1.dropAssembly ht hs (h1.asmCells_of_picture hk)
  · exact h

theorem CellsOk.firstPicture (hk : (s.trackEntry t).kind = .picture) (p : Parcel) : CellsOk (s.firstPicture t p) := by
  have h1 := h.endAssembly ht hs
  have hs1 : (s.endAssembly t).scheduled t = true := by rw [endAssembly_scheduled]; exact hs
  have et : (s.endAssembly t).trackEntry t = s.trackEntry t := endAssembly_trackEntry s t t
  unfold State.firstPicture
  dsimp only
  split
  · split
    · split
      · exact h1.count ht _
      · have h2 := (h1.updWindow ht fun w => w.set p.eye p.frame .inProgress).setAssembly (a := some (newAssembly p)) ht hs1
          (by rw [(h1.updWindow ht fun w => w.set p.eye p.frame .inProgress).asmCells_of_picture (et ▸ hk)]; rfl) fun b hb => by
            cases hb; exact ⟨fun _ => rfl, fun _ c => by
              rw [show ((s.endAssembly t).updWindow t fun w => w.set p.eye p.frame .inProgress).trackEntry t = s.trackEntry t from et,
                hk] at c
              cases c⟩
        exact CellsOk.completePicture (h2.of_view (poolView_send _ _)) ht hs1 (et ▸ hk) p
    · exact h1.pictureLost ht _
  · exact h1

theorem CellsOk.continuePicture (hk : (s.trackEntry t).kind = .picture) (p : Parcel) : CellsOk (s.continuePicture t p) := by
  unfold State.continuePicture
  split
  · split
    · split
      · split
        · exact h.differing_counted ht hs _
        · exact CellsOk.completePicture (h.of_view (poolView_send _ _)) ht hs hk p
      · exact h.differing_counted ht hs _
    · exact (h.pictureLost ht _).differing_uncounted ht (by rw [State.pictureLost, raise_scheduled]; exact hs) _
  · exact h

/-! ### Parcels -/

theorem CellsOk.continueUnit (p : Parcel) {take : State → Nat → Assembly → Parcel → State}
    (hk : ∀ a, s.assembly t = some a → a.damaged = false → CellsOk (take s t a p)) : CellsOk (s.continueUnit t p take) := by
  unfold State.continueUnit
  split
  · rename_i a ha
    split
    · exact h.differing_counted ht hs _
    · rename_i c
      exact hk a ha (by simpa using fun d => c (.inl d))
  · exact h.differing_counted ht hs _

/-- A first sound fragment, on a track with no unit in assembly. -/
theorem CellsOk.startSound (hk : (s.trackEntry t).kind.isSound = true) (hn : s.assembly t = none) (p : Parcel) :
    CellsOk ((s.setAssembly t (some (newAssembly p))).takeSound t (newAssembly p) p) := by
  have h1 : CellsOk (s.setAssembly t (some (newAssembly p))) := h.setAssembly ht hs (by rw [hn]; rfl) fun b hb => by
    cases hb
    exact ⟨fun _ => rfl, fun _ c => by rw [c] at hk; cases hk⟩
  exact h1.takeSound ht hs hk (by rw [State.assembly, State.track_setAssembly, if_pos ⟨rfl, h.lt_length ht⟩]) rfl p

end

theorem CellsOk.fragment {s : State} (h : CellsOk s) {p : Parcel} (ht : p.track < 32) (hs : s.scheduled p.track = true) :
    CellsOk (s.fragment p) := by
  have h1 := h.endAssembly ht hs
  have hs1 : (s.endAssembly p.track).scheduled p.track = true := by rw [endAssembly_scheduled]; exact hs
  have hn := endAssembly_assembly (h.lt_length ht)
  have et := endAssembly_trackEntry s p.track p.track
  have sound : (s.trackEntry p.track).kind.isSound = true → CellsOk (if p.first = true then
      ((s.endAssembly p.track).setAssembly p.track (some (newAssembly p))).takeSound p.track (newAssembly p) p
      else s.continueUnit p.track p State.takeSound) := fun hk => by
    split
    · exact h1.startSound ht hs1 (et ▸ hk) hn p
    · exact h.continueUnit ht hs p fun a ha hd => h.takeSound ht hs hk ha hd p
  unfold State.fragment
  dsimp only
  split
  · rename_i hk
    split
    · exact h.firstPicture ht hs hk p
    · exact h.continuePicture ht hs hk p
  · rename_i hk
    split
    · exact h1.startSubtitle ht hs1 (et ▸ hk) hn p
    · exact h.continueUnit ht hs p fun a ha hd => h.takeSubtitle ht hs hk ha hd p
  · rename_i hk; exact sound (by rw [hk]; rfl)
  · rename_i hk; exact sound (by rw [hk]; rfl)

theorem CellsOk.acceptParcel {s : State} (h : CellsOk s) {p : Parcel} (ht : p.track < 32) (hs : s.scheduled p.track = true) :
    CellsOk (s.acceptParcel p) := by
  have h1 : CellsOk (s.updTrack p.track fun k => { k with expected := some ((p.sequence + 1) % 65536) }) :=
    h.updTrack ht rfl rfl rfl fun c => by rw [hs] at c; cases c
  have h2 := h1.count ht fun c => { c with accepted := satInc c.accepted }
  unfold State.acceptParcel
  dsimp only
  split
  · exact h2.fragment ht hs
  · exact CellsOk.damageCounted (h2.count ht _) ht hs

theorem CellsOk.essence {s : State} (h : CellsOk s) {p : Parcel} (ht : p.track < 32) : CellsOk (s.essence p) := by
  unfold State.essence
  dsimp only
  split
  · rename_i hs
    split
    · exact h.acceptParcel ht hs
    · exact h.count ht _
    · have h1 : CellsOk (s.count p.track fun c => { c with gaps := satInc c.gaps }) := h.count ht _
      exact (h1.damageCounted ht hs).acceptParcel ht (by rw [damageCounted_scheduled]; exact hs)
  · exact h.count ht _

end Sys2Proof.Safety
end

-- ==== the cell pool: every step ====
section
/-! PROOFS. The cell pool under table writes and the other requests; every step keeps it (R16, R122). -/

namespace Sys2Proof.Safety

open Sys2Proof.Machine

/-! ### Table writes (R5, R173) -/

/-- Entries that are all accepted: as many as were written, each accepted at its index (R173). -/
theorem judgeEntries_ok {s : State} {table i : Nat} {bs : List Bytes} {es : List Entry}
    (h : s.judgeEntries table i bs = .ok es) : es.length = bs.length ∧
      ∀ j b e, bs[j]? = some b → es[j]? = some e → s.judgeEntry table (i + j) b = .ok e := by
  induction bs generalizing i es with
  | nil => cases h; simp
  | cons b bs ih =>
    unfold State.judgeEntries at h
    cases hb : s.judgeEntry table i b with
    | error r => rw [hb] at h; cases h
    | ok e =>
      rw [hb] at h
      dsimp only at h
      cases hr : s.judgeEntries table (i + 1) bs with
      | error x => rw [hr] at h; cases h
      | ok rest =>
        rw [hr] at h
        cases h
        obtain ⟨hl, hj⟩ := ih hr
        refine ⟨by simp [hl], fun j b' e' => ?_⟩
        cases j with
        | zero => intro h1 h2; cases h1; cases h2; exact hb
        | succ j =>
          intro h1 h2
          rw [show i + (j + 1) = i + 1 + j by ring]
          exact hj j b' e' (by simpa using h1) (by simpa using h2)

theorem getD_set_cases {α : Type} (l : List α) (i k : Nat) (x d : α) :
    (l.set i x).getD k d = l.getD k d ∨ (k = i ∧ (l.set i x).getD k d = x) := by
  by_cases c : k = i
  · subst c
    by_cases hl : k < l.length
    · right; simp [List.getD_eq_getElem?_getD, hl]
    · left; simp [List.getD_eq_getElem?_getD, hl]
  · left; simp [List.getD_eq_getElem?_getD, Ne.symm c]

/-- An entry of table 1 after a store is the old one, or the one stored at its index. -/
theorem storeAll_track (es : List Entry) (t : Tables) (i k : Nat) (d : TrackEntry) :
    (t.storeAll i es).track.getD k d = t.track.getD k d ∨
      ∃ j e, es[j]? = some (.track e) ∧ k = i + j ∧ (t.storeAll i es).track.getD k d = e := by
  induction es generalizing t i with
  | nil => exact .inl rfl
  | cons x es ih =>
    unfold Tables.storeAll
    rcases ih (t.store i x) (i + 1) with h | ⟨j, e, he, hk, hv⟩
    · have h1 : (t.store i x).track.getD k d = t.track.getD k d ∨
          ∃ e, x = .track e ∧ k = i ∧ (t.store i x).track.getD k d = e := by
        cases x with
        | track e => exact (getD_set_cases t.track i k e d).imp id fun c => ⟨e, rfl, c⟩
        | _ => exact .inl rfl
      rcases h1 with h1 | ⟨e, rfl, hk, hv⟩
      · exact .inl (h.trans h1)
      · exact .inr ⟨0, e, rfl, hk, h.trans hv⟩
    · exact .inr ⟨j + 1, e, by simpa using he, by omega, hv⟩

/-- Table 1 changes, at tracks that are not scheduled before or after. -/
theorem CellsOk.retable {s u : State} (h : CellsOk s) (hu : u = { s with tables := u.tables })
    (ht : ∀ t, u.trackEntry t = s.trackEntry t ∨ (s.scheduled t = false ∧ u.scheduled t = false)) : CellsOk u := by
  have eT : u.tracks = s.tracks := by rw [hu]
  have et : ∀ t, u.track t = s.track t := State.track_congr eT
  have eq : u.seq = s.seq := by rw [hu]
  have eS : u.sub = s.sub := by rw [hu]
  have es : ∀ t, u.scheduled t = s.scheduled t := fun t => by
    rcases ht t with c | ⟨c, d⟩
    · simp only [State.scheduled, c, eq]
    · rw [c, d]
  have eI : ∀ t, trackItems u t = trackItems s t := fun t => by simp only [trackItems, eS]
  have units : ∀ t a, u.assembly t = some a → UnitOk (u.trackEntry t).kind a := fun t a ha => by
    rw [State.assembly, et] at ha
    rcases ht t with c | ⟨c, -⟩
    · rw [c]; exact (looseCells_zero.mpr h).units t a ha
    · have v : Vacant (s.track t) := h.empty t c
      rw [v] at ha; cases ha
  refine looseCells_zero.mp ⟨eT ▸ h.tracks, eS ▸ h.regions, fun t hl => ?_, fun t => ?_, ?_, units, fun i hi => ?_, fun t hf => ?_⟩
  · have := h.held t hl
    rw [cellsOf_eq] at *
    rw [et, eI]; exact this
  · rw [et]
    rcases ht t with c | ⟨c, -⟩
    · rw [c]; exact h.quota t
    · have v : Vacant (s.track t) := h.empty t c
      rw [v]; exact Nat.zero_le _
  · rw [eT, show u.freeCells = s.freeCells by rw [hu]]; exact h.total
  · rw [es]; exact h.items i (eS ▸ hi)
  · rw [et]; exact h.empty t (by rw [← es]; exact hf)

/-- A scheduled track's entry names a slot of the playlist. -/
theorem namesPlaylist_of_scheduled {s : State} {t : Nat} (h : s.scheduled t = true) : s.namesPlaylist (s.trackEntry t) = true := by
  obtain ⟨hv, -, hc⟩ := (scheduled_iff s t).mp h
  have mem : ∀ p, s.seq.slotAt p = some (s.trackEntry t).slot → (s.trackEntry t).slot ∈ s.seq.playlist := fun p hp => by
    unfold Sequencer.slotAt at hp
    split at hp
    · cases hp
    · exact List.mem_of_getElem? hp
  have hm : (s.trackEntry t).slot ∈ s.seq.playlist := by
    rcases hc with c | c
    · exact mem _ c
    · unfold Sequencer.nextSlot at c
      split at c
      · cases c
      · exact mem _ c
  simp [State.namesPlaylist, hv, hm]

/-- Entries that are not in use are stored (R5). -/
theorem CellsOk.storeAll {s : State} (h : CellsOk s) {i : Nat} {es : List Entry}
    (he : ∀ j e, es[j]? = some e → s.inUse (i + j) e = false) : CellsOk { s with tables := s.tables.storeAll i es } := by
  refine h.retable rfl fun t => ?_
  by_cases c : t = 0
  · subst c; exact .inl rfl
  have e1 : ∀ tb : Tables, State.trackEntry { s with tables := tb } t = tb.track.getD t TrackEntry.invalid := fun tb => if_neg c
  rcases storeAll_track es s.tables i t TrackEntry.invalid with k | ⟨j, e, hj, rfl, hv⟩
  · exact .inl ((e1 _).trans (k.trans (e1 s.tables).symm))
  · have hu := he j _ hj
    simp only [State.inUse, Bool.and_eq_false_iff, Bool.or_eq_false_iff] at hu
    have no : ∀ u : State, u.seq = s.seq → s.namesPlaylist (u.trackEntry (i + j)) = false ∨ s.seq.state.active = false →
        u.scheduled (i + j) = false := fun u hq hn => by
      cases d : u.scheduled (i + j) with
      | false => rfl
      | true =>
        have n := namesPlaylist_of_scheduled d
        simp only [State.namesPlaylist, hq] at n hn
        rcases hn with hn | hn
        · rw [n] at hn; cases hn
        · have := ((scheduled_iff u (i + j)).mp d).2.1
          rw [hq, hn] at this; cases this
    right
    refine ⟨no s rfl (hu.symm.imp And.left id), no _ rfl ?_⟩
    rw [e1, hv]
    exact hu.symm.imp And.right id

theorem CellsOk.storeEffects (b : State) (es : List Entry) {s : State} (i : Nat) (h : CellsOk s) :
    CellsOk (State.storeEffects b s i es) := by
  induction es generalizing s i with
  | nil => exact h
  | cons e es ih =>
    refine ih (i + 1) ?_
    cases e with
    | line e => exact h.of_view rfl
    | input e =>
      unfold State.storeEffect
      dsimp only
      split
      · exact h.setLatch
      · exact h
    | settings e => exact h.of_view rfl
    | _ => exact h

/-- An accepted entry is not in use. -/
theorem inUse_of_judgeEntry {s : State} {table i : Nat} {b : Bytes} {e : Entry} (h : s.judgeEntry table i b = .ok e) :
    s.inUse i e = false := by
  unfold State.judgeEntry at h
  split at h
  · cases h
  · split at h
    · cases h
    · split at h
      · cases h
      · rename_i hu; cases h; simpa using hu

theorem CellsOk.writeEntries {s : State} (h : CellsOk s) (table index count : Nat) (entries : Bytes) :
    CellsOk (s.writeEntries table index count entries).1 := by
  unfold State.writeEntries
  split
  · exact h
  split
  · exact h
  split
  · exact h
  split
  · exact h
  split
  · exact h
  · rename_i es hj
    obtain ⟨hl, ho⟩ := judgeEntries_ok hj
    refine CellsOk.storeEffects s es index (h.storeAll fun j e he => ?_)
    have hlt : j < (splitEntries (entrySize table) count entries).length := by
      rw [← hl]; exact (List.getElem?_eq_some_iff.mp he).1
    exact inUse_of_judgeEntry (ho j _ e (List.getElem?_eq_getElem hlt) he)

/-! ### The other requests -/

theorem CellsOk.readEntries {s : State} (h : CellsOk s) (table index count : Nat) : CellsOk (s.readEntries table index count).1 := by
  unfold State.readEntries
  split
  · exact h
  · split
    · exact h
    · split
      · exact h
      · dsimp only
        split
        · exact h.of_view rfl
        · exact h

/-- A pool that is empty, with no items (R6, R103). -/
theorem cellsOk_of_empty {s : State} (ht : s.tracks = List.replicate 32 Track.empty) (hf : s.freeCells = Config.poolCells)
    (hs : s.sub.schedule = []) (hr : s.sub.regions = List.replicate 4 none) : CellsOk s := by
  have et : ∀ t, s.track t = Track.empty := fun t => by
    rw [State.track, ht, List.getD_eq_getElem?_getD, List.getElem?_replicate]
    split <;> rfl
  have ei : ∀ t, trackItems s t = 0 := fun t => by simp [trackItems, hs, hr]
  refine looseCells_zero.mp ⟨by rw [ht]; simp, by rw [hr]; rfl, fun t _ => ?_, fun t => ?_, ?_, fun t a ha => ?_, fun i hi => ?_, fun t _ => ?_⟩
  · rw [cellsOf_eq, et, ei]; rfl
  · rw [et]; exact Nat.zero_le _
  · rw [ht, hf]; simp [Track.empty]
  · rw [State.assembly, et] at ha; cases ha
  · rw [hs, hr] at hi; simp at hi
  · rw [et]; rfl

theorem CellsOk.perform {s : State} (h : CellsOk s) (r : Request) : CellsOk (s.perform r).1 := by
  cases r with
  | writeTable tag table index count entries => exact h.writeEntries ..
  | readTable tag table index count => exact h.readEntries ..
  | arm tag slots => exact h.armShow _
  | showCommand tag c =>
    unfold State.perform
    dsimp only
    split
    · rename_i u hu; exact h.showCommand hu
    · exact h
  | releaseEmergency tag =>
    unfold State.perform
    dsimp only
    split
    · rename_i u hu; exact h.releaseLatch hu
    · exact h
  | warmReset tag => exact cellsOk_of_empty rfl rfl rfl rfl
  | _ => exact h.of_view rfl

theorem CellsOk.execRequest {s : State} (h : CellsOk s) (r : Request) : CellsOk (s.execRequest r) := by
  have h1 : CellsOk ((s.setReserved true).perform r).1 := CellsOk.perform (s := s.setReserved true) (h.of_view rfl) r
  unfold State.execRequest
  dsimp only
  split
  · exact h1.of_view (by rw [poolView_arbitrate, poolView_queueReply])
  · exact h1.of_view (by rw [poolView_arbitrate, poolView_queueReply, poolView_reportChange])

theorem CellsOk.serve (n : Nat) {s : State} (h : CellsOk s) : CellsOk (State.serve n s) := by
  induction n generalizing s with
  | zero => exact h
  | succ n ih =>
    unfold State.serve
    split
    · split
      · rename_i r rest _ _
        exact ih (CellsOk.execRequest (s := { s with mgmt := { s.mgmt with requests := rest } }) (h.of_view rfl) r)
      · exact h
    · exact h

theorem CellsOk.submit {s : State} (h : CellsOk s) (r : Request) : CellsOk (s.submit r) := by
  unfold State.submit
  split
  · exact CellsOk.serve _ (h.of_view rfl)
  · exact h.of_view (by rw [poolView_arbitrate, poolView_raise])

/-! ### Parcels and commands -/

theorem CellsOk.receive {s : State} (h : CellsOk s) (b : Bytes) : CellsOk (s.receive b) := by
  unfold State.receive
  split
  · exact h.of_view rfl
  · exact h.of_view rfl
  · unfold State.route
    split
    · exact h.of_view rfl
    · split
      · exact CellsOk.submit (h.count (by decide) _) _
      · exact h.of_view rfl
    · split
      · rename_i ht
        exact (h.essence (by omega)).of_view (poolView_arbitrate _)
      · exact h.of_view rfl
    · exact h.of_view rfl

theorem CellsOk.endMark {s : State} (h : CellsOk s) (b : Bytes) : CellsOk (s.endMark b) := by
  unfold State.endMark
  split
  · exact h
  · split
    · exact h.of_view rfl
    · exact CellsOk.receive (s := s.setFraming .hunting) (h.of_view rfl) b

theorem CellsOk.endTransmission {s : State} (h : CellsOk s) : CellsOk s.endTransmission := by
  unfold State.endTransmission
  split
  · exact CellsOk.serve _ (h.of_view (by rw [poolView_arbitrate]; rfl))
  · exact h

/-- A command keeps the pool if its work does. -/
theorem CellsOk.run {work : State → State} {s t : State} (ht : run work s = .next t) (h : CellsOk s) (hw : CellsOk (work s)) :
    CellsOk t := by
  unfold Machine.run at ht
  cases ht
  split
  · exact h
  · exact hw

theorem CellsOk.powerOn (raw : List InLevel) (link : List LinkRecord) (pending : List Instr) :
    CellsOk (State.powerOn raw link pending) := cellsOk_of_empty rfl rfl rfl rfl

/-- A request row hands its request to the input queue. -/
theorem exec_request {c : Instr} {r : Request} (h : requestOf c = some r) (s : State) : exec c s = request r s := by
  cases c <;> cases h <;> rfl

theorem CellsOk.exec {s t : State} (h : CellsOk s) (c : Instr) (ht : exec c s = .next t) : CellsOk t := by
  cases hr : requestOf c with
  | some r =>
    rw [exec_request hr] at ht
    exact CellsOk.run ht h (h.submit r)
  | none =>
    have run : ∀ work, Machine.exec c s = Machine.run work s → CellsOk (work s) → CellsOk t := fun work e hw =>
      CellsOk.run (e ▸ ht) h hw
    have guarded : ∀ (q : Prop) [Decidable q] (u : State), CellsOk u → CellsOk (if q then u else s) := fun q _ u hu => by
      split
      · exact hu
      · exact h
    cases c with
    | powerOnReset => cases ht; exact .powerOn ..
    | resetAsserted => cases ht; exact cellsOk_of_empty rfl rfl rfl rfl
    | parcelComplete bytes => exact run (fun s => s.endMark bytes) rfl (h.endMark bytes)
    | frameBoundary => exact run _ rfl h.frameBoundary.event
    | millisecondTick order => exact run (fun s => s.millisecondTick order) rfl (h.millisecondTick order)
    | secondTick => exact run _ rfl h.secondTick.event
    | prerollTimeout => exact run _ rfl (CellsOk.event (guarded _ _ (h.enterStopped _)))
    | stallTimeout => exact run _ rfl (CellsOk.event (guarded _ _ (h.enterStopped _)))
    | stallTrigger => exact run _ rfl (CellsOk.event (guarded _ _ h.enterStalled))
    | flowInterval => exact run _ rfl (CellsOk.event (guarded _ _ (h.of_view rfl)))
    | phaseEnd g => exact run _ rfl (CellsOk.event (h.of_view rfl))
    | inputLevelChange i level =>
      cases ht
      split
      · exact h.of_view rfl
      · exact h.changeInput _ _
    | acceptedEdge i => exact run _ rfl (guarded _ _ (h.acceptEdge i.val))
    | transmissionEnd => exact run _ rfl h.endTransmission
    | startMark => exact run _ rfl (by unfold State.beginParcel; split <;> exact h.of_view rfl)
    | oversizeParcel => exact run _ rfl (by unfold State.oversize; split <;> [exact h; exact h.of_view rfl])
    | samplePeriod => exact run _ rfl (by unfold State.samplePeriod; split <;> [exact h; exact h.of_view rfl])
    | _ => cases hr

/-- Settles O59: the pool's rules, one for each operation, compose to every command. -/
theorem stepsKeepCells : Obligations.StepsKeepCells := by
  intro s t h ht
  unfold step at ht
  split at ht
  · rename_i c rest _
    exact CellsOk.exec (s := { s with pending := rest }) (h.of_view rfl) c ht
  · cases ht; exact h

end Sys2Proof.Safety
end

-- ==== resets, framing and table entries ====
section
/-! PROOFS. Power-on reset (R4 to R179) and the invariants it meets, the framing of the reel link (R1), and how one entry of a table
write is judged and decoded (R173). -/

namespace Sys2Proof.Safety

open Sys2Proof.Machine

/-! ### Power-on reset -/

/-- Settles O3: POWER_ON_RESET answers `State.powerOn` on the levels and records it finds. -/
theorem powerOnResetValues : Obligations.PowerOnResetValues := by
  intro s
  refine ⟨State.powerOn s.rawLevels s.link s.pending, rfl, ⟨rfl, rfl, rfl, rfl, rfl, rfl, rfl, rfl, rfl⟩, ⟨rfl, rfl, rfl⟩,
    ⟨rfl, rfl, rfl⟩, ⟨rfl, rfl, List.length_replicate, fun l hl => ?_⟩, ⟨rfl, rfl, rfl⟩,
    ⟨rfl, List.length_replicate, fun g hg => ?_, ?_, ?_⟩, rfl, rfl, rfl⟩
  · obtain rfl := (List.mem_replicate.mp hl).2
    exact ⟨rfl, fun d => rfl, rfl, rfl⟩
  · obtain rfl := (List.mem_replicate.mp hg).2
    rfl
  · change (s.booth.inputs.map Input.raw).map Input.powerOn = _
    rw [List.map_map]; rfl
  · exact decide_eq_true_iff

theorem soundOk_reset : SoundOk State.reset := by
  have lane : ∀ l ∈ State.reset.snd.lanes, l = Lane.powerOn := fun l hl => (List.mem_replicate.mp hl).2
  have zero : In24 0 := by unfold In24; omega
  refine ⟨Nat.zero_le _, Nat.zero_le _, Nat.zero_le _, by decide, List.length_replicate, fun l hl => ?_, fun l hl => ?_,
    fun c hc t ht => ?_, fun e he t k hk => ?_, by decide⟩
  · rw [lane l hl]
    refine ⟨zero, fun x hx => ?_, fun x hx => by cases hx⟩
    rw [(List.mem_replicate.mp hx).2]; exact zero
  · rw [lane l hl]; exact ⟨Nat.zero_le _, Nat.zero_le _⟩
  · rw [(List.mem_replicate.mp hc).2] at ht; cases ht
  · rw [(List.mem_replicate.mp he).2] at hk; cases hk

/-- Settles O55: what each block holds at reset meets its invariant. -/
theorem resetMeetsInvariants : Obligations.ResetMeetsInvariants := by
  have nil {α : Type} {P : α → Prop} : ∀ x ∈ ([] : List α), P x := fun x hx => (List.not_mem_nil hx).elim
  have latch {P : Prop} : State.reset.booth.latch = true → P := fun h => (Bool.false_ne_true h).elim
  refine ⟨⟨Nat.zero_le _, Nat.zero_le _, nil, fun h => absurd rfl h, fun _ => ⟨rfl, rfl⟩, rfl⟩, ⟨latch, latch, latch, rfl⟩, ?_,
    ⟨Nat.zero_le _, .nil⟩, ⟨Nat.zero_le _, rfl, nil, fun r hr => (Option.some_ne_none r hr.symm).elim, fun _ => rfl, nil⟩,
    .powerOn .., soundOk_reset, ?_, nil, fun e he => ?_⟩
  · exact List.pairwise_replicate.mpr (.inr (.inl rfl))
  · have n {α : Type} {k : Nat} {x : α} : (List.replicate k x).length = k := List.length_replicate
    exact ⟨n, n, n, n, n, n, n, rfl, n, n, n, rfl⟩
  · rw [(List.mem_replicate.mp he).2]; exact ⟨Nat.zero_le _, fun _ => rfl⟩

/-! ### Framing (R1) -/

/-- A complete parcel meets the end mark's work while the part runs. -/
theorem exec_parcelComplete {s : State} (h : s.inReset = false) (b : Bytes) :
    exec (.parcelComplete b) s = .next (s.endMark b) := run_running (work := fun s => s.endMark b) h

/-- A parcel is dropped as malformed and the port hunts (R1). -/
theorem huntingMalformed_eq (s : State) : (s.setFraming .hunting).dropMalformed =
    { s with port := { s.port with framing := .hunting, malformed := min (s.port.malformed + 1) 65535 } } := rfl

/-- Settles O30: each framing event in each framing state. -/
theorem receiveFramingEvents : Obligations.ReceiveFramingEvents := by
  intro bytes s hr
  have start : exec .startMark s = .next s.beginParcel := run_running hr
  have large : exec .oversizeParcel s = .next s.oversize := run_running hr
  rw [start, large, exec_parcelComplete hr]
  refine ⟨fun hf => ?_, fun hf => ?_⟩
  · simp only [State.beginParcel, State.oversize, State.endMark, hf]
    exact ⟨rfl, trivial, trivial⟩
  · simp only [State.beginParcel, State.oversize, State.endMark, hf, huntingMalformed_eq]
    refine ⟨?_, trivial, fun hl => by rw [if_pos (show Config.maxParcel < bytes.length from hl)]⟩
    rw [← hf]; rfl

/-! ### One entry of a write (R173) -/

/-- Whether an entry is in use, as the tables' rules say it (R5, R29, R31, R81, R124, R139, R156). -/
theorem inUse_iff (s : State) (i : Nat) (e : Entry) : s.inUse i e = true ↔ match e with
    | .track e => s.seq.state.active = true ∧
        (((s.trackEntry i).valid = true ∧ (s.trackEntry i).slot ∈ s.seq.playlist) ∨ (e.valid = true ∧ e.slot ∈ s.seq.playlist))
    | .composition _ => s.seq.state.active = true ∧ i ∈ s.seq.playlist
    | .licence _ => s.seq.state.running = true ∧ s.seq.cleared = true ∧ s.currentComposition.licence = some i
    | .routing _ => s.snd.activeMap * 24 ≤ i ∧ i ≤ s.snd.activeMap * 24 + 23
    | .lane _ => False
    | .cue _ => s.seq.state.active = true
    | .line e => s.booth.latch = true ∧ e.safety ≠ (s.tables.line.getD i LineSetting.off).safety
    | .input _ => False
    | .settings _ => s.seq.state.running = true := by
  cases e with
  | routing e =>
    have h : i / 24 = s.snd.activeMap ↔ s.snd.activeMap * 24 ≤ i ∧ i ≤ s.snd.activeMap * 24 + 23 := by omega
    simpa [State.inUse] using h
  | _ => simp [State.inUse, State.namesPlaylist, and_assoc]

/-- Settles O25: the three checks in their order. -/
theorem entryJudgementOrder : Obligations.EntryJudgementOrder := by
  intro s table i b
  refine ⟨fun h => ?_, fun ht hi hb => ?_, fun hi hn => ?_⟩
  · simp [State.judgeEntry, indexRefused, h]
  · simp [State.judgeEntry, indexRefused, ht, hi, hb]
  · have hx : indexRefused table i b = false := by
      have h1 : ¬ (tableEntries table).getD 0 ≤ i := by omega
      cases hb : bitAt b 0 7 <;> simp_all [indexRefused]
    refine ⟨fun r hr => by simp [State.judgeEntry, hx, hr], fun e he => ?_⟩
    have hu := inUse_iff s i e
    refine ⟨fun u => ?_, fun u => ?_⟩
    · simp [State.judgeEntry, hx, he, hu.mpr u]
    · have nu : s.inUse i e = false := by
        cases c : s.inUse i e with
        | false => rfl
        | true => exact absurd (hu.mp c) u
      simp [State.judgeEntry, hx, he, nu]

/-! ### Contents in range (R5, R29, R31, R81, R124, R139, R146, R156) -/

/-- A field of `len` bytes holds a number below 256 ^ len. -/
theorem field_lt (b : Bytes) (off len : Nat) : field b off len < 256 ^ len :=
  (beNat_lt _).trans_le (Nat.pow_le_pow_right (by decide) (List.length_take_le ..))

theorem field1_le (b : Bytes) (off : Nat) : field b off 1 ≤ 255 := Nat.le_of_lt_succ (field_lt b off 1)
theorem field2_le (b : Bytes) (off : Nat) : field b off 2 ≤ 65535 := Nat.le_of_lt_succ (field_lt b off 2)
theorem field3_le (b : Bytes) (off : Nat) : field b off 3 ≤ 16777215 := Nat.le_of_lt_succ (field_lt b off 3)

/-- A track entry that passes R5's checks. -/
theorem TrackEntry.inRange_of_judge {e : TrackEntry} (h : e.judge = none) : e.slot ≤ 7 ∧ e.quota ≤ 8192 ∧
    (e.language ≠ none → e.kind = .subtitle) ∧
    match e.kind with
    | .soundMain => ∃ n, e.channels = some n ∧ 1 ≤ n ∧ n ≤ 16
    | .soundAux => ∃ n, e.channels = some n ∧ 1 ≤ n ∧ n ≤ 8
    | .picture => e.channels = none
    | .subtitle => e.channels = none := by
  unfold TrackEntry.judge at h
  split at h
  · cases h
  rename_i h1
  split at h
  · cases h
  rename_i h2
  split at h
  · cases h
  rename_i h3
  split at h
  · cases h
  rename_i h4
  refine ⟨by omega, by omega, fun hl => ?_, ?_⟩
  · by_contra c
    exact h2 ⟨Option.isSome_iff_ne_none.mpr hl, c⟩
  · cases hk : e.kind <;> cases hc : e.channels <;> simp_all [TrackKind.isSound, channelsInRange]

/-- A composition that passes R31's checks. -/
theorem Composition.inRange_iff (e : Composition) : e.inRange = true ↔ e.rateCode ≤ 7 ∧ 1 ≤ e.duration ∧ e.countFrame < e.duration ∧
    (∀ i, e.licence = some i → i ≤ 15) ∧
    (∀ x, e.sheet = some x → x.1 ≤ 511 ∧ 1 ≤ x.2 ∧ x.2 ≤ 512 ∧ x.1 + x.2 ≤ 512) ∧ e.map ≤ 7 ∧
    (∀ t, e.subtitle = some t → 1 ≤ t ∧ t ≤ 31) ∧ ∀ t, e.fader = some t → t ≤ 32768 := by
  simp [Composition.inRange, Option.all_eq_true]

/-- A licence that passes R156's checks. -/
theorem Licence.inRange_of {e : Licence} (h : e.inRange = true) : (∀ n, e.allowed = some n → n ≤ 65534) ∧
    ∀ a z, e.windowStart = some a → e.windowEnd = some z → a < z := by
  simp only [Licence.inRange, Bool.and_eq_true, Option.all_eq_true] at h
  obtain ⟨h1, h2⟩ := h
  refine ⟨fun n hn => by simpa using h1 n hn, fun a z ha hz => ?_⟩
  rw [ha, hz] at h2
  simpa using h2

theorem rawContributions_length (b : Bytes) (n : Nat) : (rawContributions b n).length = n := by
  induction n with
  | zero => rfl
  | succ n ih => simp [rawContributions, ih]

theorem rawContributions_gain (b : Bytes) (n : Nat) : ∀ c ∈ rawContributions b n, c.gain ≤ 65535 := by
  induction n with
  | zero => intro c hc; cases hc
  | succ n ih =>
    intro c hc
    rcases List.mem_append.mp hc with m | m
    · exact ih c m
    · rw [List.mem_singleton.mp m]; exact field2_le ..

/-- The ranges of a cue's parameters (R123). -/
def CueInRange : Cue → Prop
  | .empty => True
  | .lineLevel line _ => line ≤ 15
  | .linePulse g line _ count pulse space =>
    g ≤ 3 ∧ line ≤ 15 ∧ count ≤ 255 ∧ 1 ≤ pulse ∧ pulse ≤ 65535 ∧ 1 ≤ space ∧ space ≤ 65535
  | .pulseStop g => g ≤ 3
  | .fader target rate => target ≤ 32768 ∧ 1 ≤ rate ∧ rate ≤ 65535
  | .route map => map ≤ 7
  | .subtitles track => ∀ t, track = some t → 1 ≤ t ∧ t ≤ 31
  | .callMacro first length => first ≤ 511 ∧ 1 ≤ length ∧ length ≤ 16 ∧ first + length ≤ 512
  | .mark tag => tag ≤ 65535
  | .holdShow => True

/-- A guarded parameter: the guard holds where a value comes out. -/
theorem of_guard {α : Type} {p : Prop} [Decidable p] {x c : α} (h : (if p then some x else none) = some c) : p ∧ x = c := by
  split at h
  · exact ⟨‹p›, Option.some.inj h⟩
  · cases h

theorem rawCue_inRange {b : Bytes} {c : Cue} (h : rawCue b = some c) : CueInRange c := by
  have f1 := field1_le b
  have f2 := field2_le b
  unfold rawCue at h
  dsimp only at h
  by_cases k0 : field b 0 1 = 0
  · rw [if_pos k0] at h; cases h; trivial
  rw [if_neg k0] at h
  by_cases k1 : field b 0 1 = 1
  · rw [if_pos k1] at h; obtain ⟨g, rfl⟩ := of_guard h; exact g.1
  rw [if_neg k1] at h
  by_cases k2 : field b 0 1 = 2
  · rw [if_pos k2] at h
    obtain ⟨⟨g1, g2, -, g4, g5⟩, rfl⟩ := of_guard h
    exact ⟨g1, g2, f1 _, g4, f2 _, g5, f2 _⟩
  rw [if_neg k2] at h
  by_cases k3 : field b 0 1 = 3
  · rw [if_pos k3] at h; obtain ⟨g, rfl⟩ := of_guard h; exact g
  rw [if_neg k3] at h
  by_cases k4 : field b 0 1 = 4
  · rw [if_pos k4] at h; obtain ⟨⟨g1, g2⟩, rfl⟩ := of_guard h; exact ⟨g1, g2, f2 _⟩
  rw [if_neg k4] at h
  by_cases k5 : field b 0 1 = 5
  · rw [if_pos k5] at h; obtain ⟨g, rfl⟩ := of_guard h; exact g
  rw [if_neg k5] at h
  by_cases k6 : field b 0 1 = 6
  · rw [if_pos k6] at h
    split at h
    · cases h; intro t ht; cases ht
    · obtain ⟨⟨-, g⟩, rfl⟩ := of_guard h
      intro t ht
      cases ht; exact g
  rw [if_neg k6] at h
  by_cases k7 : field b 0 1 = 7
  · rw [if_pos k7] at h; obtain ⟨g, rfl⟩ := of_guard h; exact g
  rw [if_neg k7] at h
  split at h <;> cases h
  · exact f2 _
  · trivial

/-- The run of entries of an input action (R146). -/
theorem rawAction_macro {b : Bytes} {first length : Nat} (h : rawAction b = some (.runMacro first length)) :
    first ≤ 511 ∧ 1 ≤ length ∧ length ≤ 16 ∧ first + length ≤ 512 := by
  by_cases k : field b 2 1 = 6
  · simp only [rawAction, k, Nat.reduceEqDiff, if_false, if_true] at h
    obtain ⟨g, e⟩ := of_guard h
    cases e; exact g
  · simp only [rawAction, if_neg k] at h
    repeat' split at h
    all_goals cases h

/-- Settles O26: each table's checks, read back from the entry that passed them. -/
theorem decodedEntriesInRange : Obligations.DecodedEntriesInRange := by
  intro table b x h
  unfold decodeEntry at h
  split at h
  case h_1 =>
    split at h
    · split at h <;> cases h
      rename_i hj
      exact .inr ⟨rfl, TrackEntry.inRange_of_judge hj⟩
    · cases h; exact .inl rfl
  case h_2 =>
    split at h
    · split at h <;> cases h
      rename_i hr
      obtain ⟨h1, h2, h3, h4, h5, h6, h7, h8⟩ := (Composition.inRange_iff _).mp hr
      refine .inr ⟨rfl, h1, h2, field3_le .., h3, field2_le .., h4, fun first n hs => ?_, h6, h7, h8⟩
      obtain ⟨s1, s2, -, s4⟩ := h5 _ hs
      exact ⟨s1, s2, s4⟩
    · cases h; exact .inl rfl
  case h_3 =>
    split at h
    · split at h <;> cases h
      rename_i hr
      exact .inr ⟨rfl, field2_le .., Licence.inRange_of hr⟩
    · cases h; exact .inl rfl
  case h_4 =>
    split at h
    · cases h
    rename_i hn
    split at h <;> cases h
    rename_i hc
    refine ⟨by dsimp only; rw [rawContributions_length]; omega, fun c hm => ⟨?_, rawContributions_gain _ _ c hm⟩⟩
    simpa using List.all_eq_true.mp hc c hm
  case h_5 =>
    split at h <;> cases h
    assumption
  case h_6 =>
    split at h
    · cases h
    split at h <;> cases h
    rename_i c hc
    have hr := rawCue_inRange hc
    have ht : (CueEntry.stored (field b 1 3) c).trigger ≤ 16777215 := by
      unfold CueEntry.stored
      dsimp only
      split
      · exact Nat.zero_le _
      · exact field3_le ..
    refine ⟨ht, ?_⟩
    rw [CueEntry.stored_cue]
    cases c
    case empty => rfl
    all_goals exact hr
  case h_7 => split at h <;> cases h; trivial
  case h_8 =>
    split at h
    · cases h
    split at h <;> cases h
    rename_i a ha
    refine ⟨field1_le .., fun first length e => rawAction_macro (b := b) ?_⟩
    rw [ha]; exact congrArg some e
  case h_9 =>
    split at h <;> cases h
    rename_i hr
    simpa [ShowSettings.inRange] using hr
  case h_10 => cases h

end Sys2Proof.Safety
end

-- ==== parcels: checks, routing, the sequence check ====
section
/-! PROOFS. A complete parcel: the integrity checks (R2), its routing (R3), unscheduled tracks (R10), and the sequence check on the
run state of its track (R11). -/

namespace Sys2Proof.Safety

open Sys2Proof.Machine

/-! ### Integrity and routing (R2, R3) -/

/-- In RECEIVING a parcel of an allowed size leaves the port in HUNTING and meets the checks. -/
theorem exec_received {s : State} {b : Bytes} (hr : s.inReset = false) (hf : s.port.framing = .receiving)
    (hl : b.length ≤ Config.maxParcel) : exec (.parcelComplete b) s = .next ((hunting s).receive b) := by
  rw [exec_parcelComplete hr, State.endMark, hf]
  dsimp only
  rw [if_neg (Nat.not_lt.mpr hl)]
  rfl

theorem checkParcel_short {b : Bytes} (h : b.length < 10) : checkParcel b = .malformed := if_pos h

theorem checkParcel_long {b : Bytes} (h : 10 ≤ b.length) (hp : 1024 < field b 8 2) : checkParcel b = .malformed := by
  rw [checkParcel, if_neg (show ¬ b.length < Config.headerBytes from Nat.not_lt.mpr h),
    if_pos (show Config.maxPayload < field b 8 2 from hp)]

theorem checkParcel_cut {b : Bytes} (h : 10 ≤ b.length) (hp : field b 8 2 ≤ 1024) (hc : b.length < 12 + field b 8 2) :
    checkParcel b = .malformed := by
  have hc' : b.length < Config.headerBytes + field b 8 2 + 2 := by simp only [Config.headerBytes]; omega
  rw [checkParcel, if_neg (show ¬ b.length < Config.headerBytes from Nat.not_lt.mpr h),
    if_neg (show ¬ Config.maxPayload < field b 8 2 from Nat.not_lt.mpr hp), if_pos hc']

/-- A whole parcel meets the check word. -/
theorem checkParcel_whole {b : Bytes} (h : 10 ≤ b.length) (hp : field b 8 2 ≤ 1024) (hc : 12 + field b 8 2 ≤ b.length) :
    checkParcel b = if field b (10 + field b 8 2) 2 ≠ (crc16 (b.take (10 + field b 8 2))).toNat then .crcError
      else .good (readParcel b (field b 8 2)) := by
  have hc' : ¬ b.length < Config.headerBytes + field b 8 2 + 2 := by simp only [Config.headerBytes]; omega
  rw [checkParcel, if_neg (show ¬ b.length < Config.headerBytes from Nat.not_lt.mpr h),
    if_neg (show ¬ Config.maxPayload < field b 8 2 from Nat.not_lt.mpr hp), if_neg hc']
  rfl

/-- Settles O31: the checks in their order, then the kinds of parcel. -/
theorem parcelChecksAndRouting : Obligations.ParcelChecksAndRouting := by
  intro b s hr hf hl malformed
  have drop : (hunting s).dropMalformed = malformed := rfl
  rw [exec_received hr hf hl]
  refine ⟨fun h => ?_, fun h hp => ?_, fun h hp hc => ?_, fun h hp hc => ?_⟩
  · rw [State.receive, checkParcel_short h]; rfl
  · rw [State.receive, checkParcel_long h hp]; rfl
  · rw [State.receive, checkParcel_cut h hp hc]; rfl
  · rw [State.receive, checkParcel_whole h hp hc]
    refine ⟨fun hw => by rw [if_pos hw]; rfl, fun hw => ?_⟩
    rw [if_neg (not_not.mpr hw)]
    dsimp only
    have route : ∀ kind, ParcelKind.ofCode ((b.getD 0 0).toNat / 32) = kind → (hunting s).route (readParcel b (field b 8 2)) =
        (hunting s).route { readParcel b (field b 8 2) with kind := kind } := fun kind e => by rw [← e]; rfl
    refine ⟨fun hk => ?_, fun hk ht => ?_, fun hk ht => ?_, fun hk ht => ?_, fun h1 h2 h3 => ?_⟩
    · rw [route .fill (by rw [hk]; rfl)]; rfl
    · rw [route .mgmt (by rw [hk]; rfl), State.route]
      dsimp only
      rw [if_neg (show ¬ (readParcel b (field b 8 2)).track = 0 from ht), drop]
    · rw [route .mgmt (by rw [hk]; rfl), State.route]
      dsimp only
      rw [if_pos (show (readParcel b (field b 8 2)).track = 0 from ht)]
      rfl
    · rw [route .essence (by rw [hk]; rfl), State.route]
      dsimp only
      rw [if_neg (fun c => absurd ht (by have : 1 ≤ (b.getD 0 0).toNat % 32 := c.1; omega)), drop]
    · rw [route .unknown (by rw [ParcelKind.ofCode, if_neg h1, if_neg h2, if_neg h3])]; rfl

/-! ### ESSENCE parcels (R10, R11) -/

/-- An ESSENCE parcel of a track of 1 to 31 reaches its track. -/
theorem Received.exec {s : State} {b : Bytes} {p : Parcel} (h : Received s b p) (hk : p.kind = .essence)
    (ht : 1 ≤ p.track ∧ p.track ≤ 31) : exec (.parcelComplete b) s = .next ((hunting s).essence p).arbitrate := by
  rw [exec_received h.running h.receiving h.size, State.receive, h.good]
  dsimp only
  rw [State.route, hk]
  dsimp only
  rw [if_pos ht]

/-- The arbiter finds nothing to do over a busy lane or an empty upstream queue. -/
theorem QueuesOk.arbitrate {s u : State} (h : QueuesOk s) (hm : u.mgmt = s.mgmt) : u.arbitrate = u :=
  State.arbitrate_of_idle (by rw [hm]; exact h.idle)

/-- A track is not scheduled: its entry is invalid, no show is armed or running, or its slot stands at neither position (R7). -/
theorem scheduled_eq_false {s : State} {t : Nat} (h : (s.trackEntry t).valid = false ∨ s.seq.state.active = false ∨
    (s.seq.currentSlot ≠ some (s.trackEntry t).slot ∧ s.seq.nextSlot ≠ some (s.trackEntry t).slot)) : s.scheduled t = false := by
  rw [← Bool.not_eq_true, scheduled_iff]
  rintro ⟨h1, h2, h3⟩
  rcases h with h | h | ⟨h, g⟩
  · rw [h1] at h; cases h
  · rw [h2] at h; cases h
  · exact h3.elim h g

/-- Settles O32: what `essence` answers before the sequence check, and each way of being unscheduled. -/
theorem unscheduledParcelDropped : Obligations.UnscheduledParcelDropped := by
  refine ⟨fun bytes p s hr hq hk h1 h31 => ?_, fun s t h => scheduled_eq_false ?_⟩
  · rw [hr.exec hk ⟨h1, h31⟩, State.essence]
    refine ⟨fun hs => ?_, fun hs => ?_⟩
    · rw [if_neg (show ¬ (hunting s).scheduled p.track = true by rw [show (hunting s).scheduled p.track = false from hs]; simp),
        hq.arbitrate (by rfl)]
      rfl
    · rw [if_pos (show (hunting s).scheduled p.track = true from hs)]
      change Host.Outcome.next (State.arbitrate (match checkSequence (s.track p.track).expected p.sequence with
        | .accepted => _ | .duplicate => _ | .gap => _)) = _
      cases checkSequence (s.track p.track).expected p.sequence <;> rfl
  · rcases h with h | h | h | h | ⟨h, g⟩
    · exact .inl h
    · exact .inr (.inl (by rw [h]; rfl))
    · exact .inr (.inl (by rw [h]; rfl))
    · exact .inr (.inl (by rw [h]; rfl))
    · refine .inr (.inr ⟨h, ?_⟩)
      unfold Sequencer.nextSlot
      split
      · exact fun c => by cases c
      · exact g

end Sys2Proof.Safety
end

-- ==== parcels: the sequence check and damage ====
section
/-! PROOFS. What the sequence check (R11), the content check (R13) and the handling of a fragment (R14, R15) make of the run state
of their track, and what they leave alone. -/

namespace Sys2Proof.Safety

open Sys2Proof.Machine

/-! ### What a parcel leaves alone -/

/-- All of the state but the tracks, the pool, the subtitle block, the projector link and the management block. -/
def outerView (s : State) :=
  (s.tables, s.port, s.seq, s.clk, s.repeats, s.snd, s.cue, s.booth, s.acct, s.inReset, s.pending)

/-- The management block but its flags, slots and lane. -/
def mgmtView (s : State) := (s.mgmt.enables, s.mgmt.requests, s.mgmt.flowCount)

theorem eq_of_outerView {s u : State} (h : outerView u = outerView s) :
    u = { s with tracks := u.tracks, freeCells := u.freeCells, sub := u.sub, link := u.link, mgmt := u.mgmt } := by
  obtain ⟨⟩ := s
  obtain ⟨⟩ := u
  simp only [outerView, Prod.mk.injEq] at h
  obtain ⟨rfl, rfl, rfl, rfl, rfl, rfl, rfl, rfl, rfl, rfl, rfl⟩ := h
  rfl

/-- What the handling of a parcel of track `t` keeps: the run states of the other tracks, what lies beyond the pool, the subtitle
block, the link and the flags a parcel can raise, and on its own track what the sequence check left; under `calm` the damaged-unit
counter as well. -/
structure ParcelKeeps (t : Nat) (calm : Prop) (s u : State) : Prop where
  others   : ∀ i, i ≠ t → u.track i = s.track i
  outer    : outerView u = outerView s
  mgmt     : mgmtView u = mgmtView s
  flags    : ∀ f, f ∉ [Flag.overrun, .pictureLoss, .subDrop] → flagSet u.mgmt.flags f = flagSet s.mgmt.flags f
  expected : (u.track t).expected = (s.track t).expected
  accepted : (u.track t).counters.accepted = (s.track t).counters.accepted
  gaps     : (u.track t).counters.gaps = (s.track t).counters.gaps
  damaged  : calm → (u.track t).counters.damagedUnits = (s.track t).counters.damagedUnits

section
variable {t : Nat} {calm : Prop} {s u v : State}

theorem ParcelKeeps.refl (s : State) : ParcelKeeps t calm s s :=
  ⟨fun _ _ => rfl, rfl, rfl, fun _ _ => rfl, rfl, rfl, rfl, fun _ => rfl⟩

theorem ParcelKeeps.trans (h : ParcelKeeps t calm s u) (g : ParcelKeeps t calm u v) : ParcelKeeps t calm s v where
  others i hi := (g.others i hi).trans (h.others i hi)
  outer := g.outer.trans h.outer
  mgmt := g.mgmt.trans h.mgmt
  flags f hf := (g.flags f hf).trans (h.flags f hf)
  expected := g.expected.trans h.expected
  accepted := g.accepted.trans h.accepted
  gaps := g.gaps.trans h.gaps
  damaged c := (g.damaged c).trans (h.damaged c)

/-- The run state of the track is changed in what a parcel may change. -/
theorem ParcelKeeps.updTrack (s : State) {f : Track → Track} (he : ∀ k, (f k).expected = k.expected)
    (ha : ∀ k, (f k).counters.accepted = k.counters.accepted) (hg : ∀ k, (f k).counters.gaps = k.counters.gaps)
    (hd : calm → ∀ k, (f k).counters.damagedUnits = k.counters.damagedUnits) : ParcelKeeps t calm s (s.updTrack t f) where
  others i hi := by rw [State.track_updTrack, if_neg fun c => hi c.1]
  outer := rfl
  mgmt := rfl
  flags _ _ := rfl
  expected := by rw [State.track_updTrack]; split <;> [exact he _; rfl]
  accepted := by rw [State.track_updTrack]; split <;> [exact ha _; rfl]
  gaps := by rw [State.track_updTrack]; split <;> [exact hg _; rfl]
  damaged c := by rw [State.track_updTrack]; split <;> [exact hd c _; rfl]

/-- The pool, the subtitle block or the link is changed. -/
theorem ParcelKeeps.of_tracks (ht : u.tracks = s.tracks) (ho : outerView u = outerView s) (hm : u.mgmt = s.mgmt) :
    ParcelKeeps t calm s u := by
  have e := State.track_congr ht
  exact ⟨fun i _ => e i, ho, by rw [mgmtView, hm]; rfl, fun f _ => by rw [hm], by rw [e], by rw [e], by rw [e], fun _ => by rw [e]⟩

/-- The last operation first: its state is known from the goal. -/
theorem ParcelKeeps.after (g : ParcelKeeps t calm u v) (h : ParcelKeeps t calm s u) : ParcelKeeps t calm s v := h.trans g

theorem ParcelKeeps.raise (s : State) {f : Flag} (hf : f ∈ [Flag.overrun, .pictureLoss, .subDrop]) :
    ParcelKeeps t calm s (s.raise f) where
  others i _ := State.raise_track s f i
  outer := by simp [outerView]
  mgmt := by simp [mgmtView]
  flags g hg := by rw [State.raise_flags, flagSet_withFlag, decide_eq_false (fun c : g = f => hg (c ▸ hf)), Bool.or_false]
  expected := by simp
  accepted := by simp
  gaps := by simp
  damaged _ := by simp

theorem ParcelKeeps.arbitrate (s : State) : ParcelKeeps t calm s s.arbitrate :=
  ⟨by simp, by simp [outerView], by simp [mgmtView], by simp, by simp, by simp, by simp, by simp⟩

theorem ParcelKeeps.returnCells (s : State) (n : Nat) : ParcelKeeps t calm s (s.returnCells t n) :=
  .trans (.updTrack s (f := fun k => { k with cellsHeld := k.cellsHeld - n }) (fun _ => rfl) (fun _ => rfl) (fun _ => rfl)
    fun _ _ => rfl) (.of_tracks rfl rfl rfl)

theorem ParcelKeeps.grantCells (s : State) (n : Nat) : ParcelKeeps t calm s (s.grantCells t n) :=
  .trans (.updTrack s (f := fun k => { k with cellsHeld := k.cellsHeld + n }) (fun _ => rfl) (fun _ => rfl) (fun _ => rfl)
    fun _ _ => rfl) (.of_tracks rfl rfl rfl)

theorem ParcelKeeps.setAssembly (s : State) (a : Option Assembly) : ParcelKeeps t calm s (s.setAssembly t a) :=
  .updTrack s (fun _ => rfl) (fun _ => rfl) (fun _ => rfl) fun _ _ => rfl

theorem ParcelKeeps.updWindow (s : State) (f : Window → Window) : ParcelKeeps t calm s (s.updWindow t f) :=
  .updTrack s (fun _ => rfl) (fun _ => rfl) (fun _ => rfl) fun _ _ => rfl

theorem ParcelKeeps.count (s : State) {f : Counters → Counters} (ha : ∀ c, (f c).accepted = c.accepted)
    (hg : ∀ c, (f c).gaps = c.gaps) (hd : calm → ∀ c, (f c).damagedUnits = c.damagedUnits) :
    ParcelKeeps t calm s (s.count t f) :=
  .updTrack s (fun _ => rfl) (fun k => ha k.counters) (fun k => hg k.counters) fun c k => hd c k.counters

theorem ParcelKeeps.countMalformed (s : State) : ParcelKeeps t calm s (s.countMalformed t) :=
  .count s (fun _ => rfl) (fun _ => rfl) fun _ _ => rfl

theorem ParcelKeeps.countOutOfOrder (s : State) : ParcelKeeps t calm s (s.countOutOfOrder t) :=
  .count s (fun _ => rfl) (fun _ => rfl) fun _ _ => rfl

theorem ParcelKeeps.countDropped (s : State) : ParcelKeeps t calm s (s.countDropped t) :=
  .count s (fun _ => rfl) (fun _ => rfl) fun _ _ => rfl

theorem ParcelKeeps.countDelivered (s : State) : ParcelKeeps t calm s (s.countDelivered t) :=
  .count s (fun _ => rfl) (fun _ => rfl) fun _ _ => rfl

theorem ParcelKeeps.leaveIfLast (s : State) (last : Bool) : ParcelKeeps t calm s (s.leaveIfLast t last) := by
  unfold State.leaveIfLast
  split <;> [exact .setAssembly s none; exact .refl s]

theorem ParcelKeeps.damage (s : State) : ParcelKeeps t calm s (s.damage t) := by
  unfold State.damage
  split
  · split
    · exact .refl s
    · exact .after (.updWindow _ _) (.after (.setAssembly _ _) (.returnCells s _))
  · exact .refl s

/-- Counted damage raises the damaged-unit counter only where an intact unit is in assembly. -/
theorem ParcelKeeps.damageCounted (hc : calm → s.intact t = false) : ParcelKeeps t calm s (s.damageCounted t) := by
  unfold State.damageCounted
  split
  · rename_i hi
    exact (ParcelKeeps.damage s).trans (.count _ (fun _ => rfl) (fun _ => rfl) fun c => absurd (hc c) (by rw [hi]; simp))
  · exact .refl s

theorem ParcelKeeps.endAssembly (hc : calm → s.intact t = false) : ParcelKeeps t calm s (s.endAssembly t) :=
  (ParcelKeeps.damageCounted hc).trans (.setAssembly _ _)

theorem ParcelKeeps.overrun (s : State) (last : Bool) : ParcelKeeps t calm s (s.overrun t last) :=
  .after (.leaveIfLast _ last) (.after (.raise _ (by simp))
    (.after (.count _ (fun _ => rfl) (fun _ => rfl) fun _ _ => rfl) (.damage s)))

theorem ParcelKeeps.differing {harm : State → Nat → State} (last : Bool) (h : ParcelKeeps t calm s (harm s t)) :
    ParcelKeeps t calm s (s.differing t last harm) := by
  unfold State.differing
  split
  · exact h.trans ((ParcelKeeps.countDropped _).trans (.leaveIfLast _ last))
  · exact .countDropped s

/-- A unit discarded on completion. -/
theorem ParcelKeeps.discard (s : State) (n : Nat) : ParcelKeeps t calm s ((s.setAssembly t none).discardUnit t n) :=
  (ParcelKeeps.setAssembly s none).trans (.returnCells _ n)

theorem ParcelKeeps.completeSound (s : State) (a : Assembly) : ParcelKeeps t calm s (s.completeSound t a) := by
  unfold State.completeSound
  dsimp only
  split
  · exact (ParcelKeeps.discard s _).trans (.countMalformed _)
  · split
    · exact (ParcelKeeps.discard s _).trans (.countOutOfOrder _)
    · exact .after (.countDelivered _) (.after (.updTrack _ (fun _ => rfl) (fun _ => rfl) (fun _ => rfl) fun _ _ => rfl)
        (.setAssembly s none))

theorem ParcelKeeps.takeSound (s : State) (a : Assembly) (p : Parcel) : ParcelKeeps t calm s (s.takeSound t a p) := by
  unfold State.takeSound
  dsimp only
  split
  · split
    · exact .after (.completeSound _ _) (.after (.setAssembly _ _) (.grantCells s _))
    · exact .after (.setAssembly _ _) (.grantCells s _)
  · exact .overrun s _

theorem ParcelKeeps.offerItem (s : State) (i : Item) : ParcelKeeps i.track calm s (s.offerItem i) := by
  unfold State.offerItem
  split
  · exact .after (.returnCells _ _) (.of_tracks rfl rfl rfl)
  · split
    · exact .of_tracks rfl rfl rfl
    · exact .after (.raise _ (by simp)) (.after (.returnCells _ _) (.of_tracks rfl rfl rfl))

theorem ParcelKeeps.completeSubtitle (s : State) (a : Assembly) : ParcelKeeps t calm s (s.completeSubtitle t a) := by
  unfold State.completeSubtitle
  dsimp only
  split
  · exact (ParcelKeeps.discard s _).trans (.countMalformed _)
  · split
    · exact (ParcelKeeps.discard s _).trans (.countOutOfOrder _)
    · exact .after (.offerItem _ (readItem t a.bytes)) (.after (.countDelivered _)
        (.after (.updTrack _ (fun _ => rfl) (fun _ => rfl) (fun _ => rfl) fun _ _ => rfl) (.setAssembly s none)))

theorem ParcelKeeps.takeSubtitle (s : State) (a : Assembly) (p : Parcel) : ParcelKeeps t calm s (s.takeSubtitle t a p) := by
  unfold State.takeSubtitle
  dsimp only
  split
  · exact .after (.leaveIfLast _ _) (.after (.damage _) (.countMalformed s))
  · split
    · exact .after (.completeSubtitle _ _) (.setAssembly s _)
    · exact .setAssembly s _

theorem ParcelKeeps.startSubtitle (s : State) (p : Parcel) : ParcelKeeps t calm s (s.startSubtitle t p) := by
  unfold State.startSubtitle
  dsimp only
  split
  · exact .after (.takeSubtitle _ _ p) (.after (.setAssembly _ _) (.after (.grantCells _ _) (.setAssembly s _)))
  · exact .after (.overrun _ _) (.setAssembly s _)

theorem ParcelKeeps.completePicture (s : State) (p : Parcel) : ParcelKeeps t calm s (s.completePicture t p) := by
  unfold State.completePicture
  split
  · exact .after (.setAssembly _ _) (.after (.countDelivered _) (.updWindow s _))
  · exact .refl s

theorem ParcelKeeps.pictureLost (s : State) (late : Bool) : ParcelKeeps t calm s (s.pictureLost t late) :=
  .after (.raise _ (by simp)) (.count s (fun c => by split <;> rfl) (fun c => by split <;> rfl) fun _ c => by split <;> rfl)

theorem ParcelKeeps.firstPicture (hc : calm → s.intact t = false) (p : Parcel) : ParcelKeeps t calm s (s.firstPicture t p) := by
  have h := ParcelKeeps.endAssembly hc
  unfold State.firstPicture
  dsimp only
  split
  · split
    · split
      · exact h.trans (.countOutOfOrder _)
      · refine .after (.completePicture _ p) (.after (u := State.setAssembly _ _ _) (.of_tracks rfl rfl rfl) ?_)
        exact .after (.setAssembly _ _) (.after (.updWindow _ _) h)
    · exact h.trans (.pictureLost _ _)
  · exact h

theorem ParcelKeeps.continuePicture (hc : calm → s.intact t = false) (p : Parcel) :
    ParcelKeeps t calm s (s.continuePicture t p) := by
  have hd := ParcelKeeps.differing p.last (ParcelKeeps.damageCounted hc)
  unfold State.continuePicture
  split
  · split
    · split
      · split
        · exact hd
        · exact .after (.completePicture _ p) (.of_tracks rfl rfl rfl)
      · exact hd
    · exact .after (.differing _ (.damage _)) (.pictureLost s _)
  · exact .refl s

theorem ParcelKeeps.continueUnit (hc : calm → s.intact t = false) (p : Parcel) {take : State → Nat → Assembly → Parcel → State}
    (h : ∀ a, ParcelKeeps t calm s (take s t a p)) : ParcelKeeps t calm s (s.continueUnit t p take) := by
  have hd := ParcelKeeps.differing p.last (ParcelKeeps.damageCounted hc)
  unfold State.continueUnit
  split
  · split <;> [exact hd; exact h _]
  · exact hd

theorem ParcelKeeps.fragment {p : Parcel} (hc : calm → s.intact p.track = false) : ParcelKeeps p.track calm s (s.fragment p) := by
  have sound : ParcelKeeps p.track calm s (if p.first = true then
      ((s.endAssembly p.track).setAssembly p.track (some (newAssembly p))).takeSound p.track (newAssembly p) p
      else s.continueUnit p.track p State.takeSound) := by
    split
    · exact .after (.takeSound _ _ p) (.after (.setAssembly _ _) (.endAssembly hc))
    · exact .continueUnit hc p fun a => .takeSound s a p
  unfold State.fragment
  dsimp only
  split
  · split <;> [exact .firstPicture hc p; exact .continuePicture hc p]
  · split
    · exact .after (.startSubtitle _ p) (.endAssembly hc)
    · exact .continueUnit hc p fun a => .takeSubtitle s a p
  · exact sound
  · exact sound

/-- What the content check (R13) and the fragment handling make of a parcel that the sequence check has accepted. -/
def judged (s : State) (p : Parcel) : State :=
  if s.contentOk p then s.fragment p else (s.countMalformed p.track).damageCounted p.track

theorem ParcelKeeps.judged {p : Parcel} (hc : calm → s.intact p.track = false) : ParcelKeeps p.track calm s (judged s p) := by
  unfold Safety.judged
  split
  · exact .fragment hc
  · refine (ParcelKeeps.countMalformed s).trans (.damageCounted fun c => ?_)
    rw [State.intact, State.countMalformed, count_assembly, ← State.intact]
    exact hc c

end

/-! ### The counters of one track -/

section
variable {s : State} {t : Nat} (k : Track) (n : Nat) (h : t < s.tracks.length)
include h

theorem putTrack_countDropped : (putTrack s t k n).countDropped t =
    putTrack s t { k with counters := { k.counters with dropped := more k.counters.dropped } } n := putTrack_count k n h _

theorem putTrack_countMalformed : (putTrack s t k n).countMalformed t =
    putTrack s t { k with counters := { k.counters with malformed := more k.counters.malformed } } n := putTrack_count k n h _

theorem putTrack_countOutOfOrder : (putTrack s t k n).countOutOfOrder t =
    putTrack s t { k with counters := { k.counters with outOfOrder := more k.counters.outOfOrder } } n := putTrack_count k n h _

theorem putTrack_countDelivered : (putTrack s t k n).countDelivered t =
    putTrack s t { k with counters := { k.counters with delivered := more k.counters.delivered } } n := putTrack_count k n h _

end

/-! ### The sequence check on one track (R11) -/

/-- The run state in which a gap leaves its track: counted, an intact unit in assembly damaged. -/
def gapped (k : Track) (gap : Bool) : Track :=
  if gap then harmedCounted { k with counters := { k.counters with gaps := more k.counters.gaps } } else k

/-- The cells that the damage of a gap returns. -/
def gapCells (k : Track) (gap : Bool) : Nat := if gap then harmCells k else 0

theorem harmCells_counters (k : Track) (c : Counters) : harmCells { k with counters := c } = harmCells k := rfl

theorem putTrack_acceptParcel {s : State} {p : Parcel} (k : Track) (n : Nat) (h : p.track < s.tracks.length) :
    (putTrack s p.track k n).acceptParcel p = judged (putTrack s p.track (sequenced k p) n) p := by
  rw [State.acceptParcel, putTrack_updTrack _ _ _ h, putTrack_count _ _ h]
  rfl

/-- The sequence check is passed. -/
theorem Sequenced.essence {s : State} {bytes : Bytes} {p : Parcel} {gap : Bool} (h : Sequenced s bytes p gap) :
    (hunting s).essence p = judged (putTrack (hunting s) p.track (sequenced (gapped (s.track p.track) gap) p)
      (s.freeCells + gapCells (s.track p.track) gap)) p := by
  have hl : p.track < (hunting s).tracks.length := by
    have := h.tracks; have := h.track.2
    change p.track < s.tracks.length; omega
  have e : hunting s = putTrack (hunting s) p.track (s.track p.track) s.freeCells := eq_putTrack hl
  have hs : (hunting s).scheduled p.track = true := h.scheduled
  have hx : ((hunting s).track p.track).expected = (s.track p.track).expected := rfl
  unfold State.essence
  dsimp only
  rw [if_pos hs, hx]
  have hq := h.sequence
  cases gap with
  | false =>
    have hc : checkSequence (s.track p.track).expected p.sequence = .accepted := by
      rcases hq with hq | hq <;> rw [hq] <;> simp [checkSequence]
    rw [hc, ← putTrack_acceptParcel _ _ hl]
    exact congrArg (State.acceptParcel · p) e
  | true =>
    obtain ⟨x, hx, h1, h2⟩ := hq
    have hc : checkSequence (s.track p.track).expected p.sequence = .gap := by
      rw [hx, checkSequence]; simp [h1, h2]
    rw [hc]
    conv_lhs => rw [e]
    dsimp only
    rw [putTrack_count _ _ hl, putTrack_damageCounted _ _ hl, putTrack_acceptParcel _ _ hl, harmCells_counters]
    rfl

/-- A parcel that the sequence check accepts: its content check and its fragment, then the arbiter. -/
theorem Sequenced.exec {s : State} {bytes : Bytes} {p : Parcel} {gap : Bool} (h : Sequenced s bytes p gap) :
    Machine.exec (.parcelComplete bytes) s = .next (judged (putTrack (hunting s) p.track
      (sequenced (gapped (s.track p.track) gap) p) (s.freeCells + gapCells (s.track p.track) gap)) p).arbitrate := by
  rw [h.received.exec h.kind h.track, h.essence]

/-- An accepted parcel is one without a gap. -/
theorem Accepted.toSequenced {s : State} {bytes : Bytes} {p : Parcel} (h : Accepted s bytes p) : Sequenced s bytes p false :=
  ⟨h.received, h.kind, h.track, h.tracks, h.scheduled, h.sequence⟩

theorem Sequenced.lt_length {s : State} {bytes : Bytes} {p : Parcel} {gap : Bool} (h : Sequenced s bytes p gap) :
    p.track < (hunting s).tracks.length := by
  have := h.tracks; have := h.track.2
  change p.track < s.tracks.length; omega

/-- After the damage of a gap no intact unit is in assembly. -/
theorem hasIntact_harmedCounted (k : Track) : hasIntact (harmedCounted k) = false := by
  unfold hasIntact
  cases c : (harmedCounted k).assembly with
  | none => rfl
  | some a => simp [harmed_assembly (k := k) c]

/-- Without an intact unit in assembly, damage does nothing. -/
theorem harmed_of_damaged {k : Track} (h : ∀ a, k.assembly = some a → a.damaged = true) :
    harmedCounted k = k ∧ harmed k = k ∧ harmCells k = 0 := by
  unfold harmedCounted harmed harmCells hasIntact
  cases c : k.assembly with
  | none => exact ⟨rfl, rfl, rfl⟩
  | some a => simp [h a c]

/-- Damage of an intact unit. -/
theorem harmed_of_intact {k : Track} {a : Assembly} (ha : k.assembly = some a) (hd : a.damaged = false) :
    harmedCounted k = { damagedTrack k a with
      counters := { k.counters with damagedUnits := more k.counters.damagedUnits } } ∧
    harmed k = damagedTrack k a ∧ harmCells k = a.cells := by
  unfold harmedCounted harmed harmCells hasIntact
  simp [ha, hd]

/-- No intact unit is in assembly, or one is. -/
theorem calm_or_intact (k : Track) :
    (∀ a, k.assembly = some a → a.damaged = true) ∨ ∃ a, k.assembly = some a ∧ a.damaged = false := by
  cases c : k.assembly with
  | none => exact .inl fun a h => by cases h
  | some a =>
    cases d : a.damaged with
    | true => exact .inl fun b h => by cases h; exact d
    | false => exact .inr ⟨a, rfl, d⟩

/-! ### Differing continuations (R15) -/

/-- The run state of a track after a continuation that differs from what is in assembly. -/
def differed (k : Track) (last : Bool) : Track :=
  { harmedCounted k with
    assembly := if last then none else (harmedCounted k).assembly
    counters := { (harmedCounted k).counters with dropped := more k.counters.dropped } }

theorem putTrack_differing {s : State} {t : Nat} (k : Track) (n : Nat) (h : t < s.tracks.length) (last : Bool) :
    (putTrack s t k n).differing t last State.damageCounted = putTrack s t (differed k last) (n + harmCells k) := by
  unfold State.differing differed
  rw [putTrack_assembly k n h]
  cases c : k.assembly with
  | none =>
    obtain ⟨e, _, e'⟩ := harmed_of_damaged (k := k) fun a ha => by rw [c] at ha; cases ha
    dsimp only
    rw [putTrack_countDropped _ _ h, e, e', c, ite_self]
    rfl
  | some a =>
    dsimp only
    rw [putTrack_damageCounted k n h, putTrack_countDropped _ _ h, putTrack_leaveIfLast _ _ h]
    rfl

/-- A continuation that differs from what is in assembly, inside the window on a picture track. -/
theorem putTrack_fragment_differing {s : State} {p : Parcel} (k : Track) (n : Nat) (h : p.track < s.tracks.length)
    (hf : p.first = false)
    (hw : (s.trackEntry p.track).kind = .picture → ∃ w, k.window = some w ∧ w.base ≤ p.frame ∧ p.frame < w.base + 64)
    (hd : ∀ a, k.assembly = some a → a.damaged = true ∨ a.frame ≠ p.frame ∨
      ((s.trackEntry p.track).kind = .picture ∧ a.eye ≠ p.eye)) :
    (putTrack s p.track k n).fragment p = putTrack s p.track (differed k p.last) (n + harmCells k) := by
  have unit : (s.trackEntry p.track).kind ≠ .picture → ∀ take,
      (putTrack s p.track k n).continueUnit p.track p take = putTrack s p.track (differed k p.last) (n + harmCells k) :=
    fun hk take => by
      rw [← putTrack_differing k n h, State.continueUnit, putTrack_assembly k n h]
      cases c : k.assembly with
      | none => rfl
      | some a =>
        dsimp only
        rw [if_pos]
        rcases hd a c with h | h | h
        · exact .inl h
        · exact .inr h
        · exact absurd h.1 hk
  unfold State.fragment
  dsimp only
  rw [putTrack_trackEntry, hf]
  cases hk : (s.trackEntry p.track).kind with
  | picture =>
    obtain ⟨w, ew, hw1, hw2⟩ := hw hk
    dsimp only
    rw [if_neg (by simp), State.continuePicture, putTrack_track k n h, ew]
    dsimp only
    rw [if_pos ((covers_iff w _).mpr ⟨hw1, hw2⟩), ← putTrack_differing k n h, putTrack_assembly k n h]
    cases c : k.assembly with
    | none => rfl
    | some a =>
      dsimp only
      rw [if_pos]
      rcases hd a c with h | h | h
      · exact .inl h
      · exact .inr (.inl h)
      · exact .inr (.inr h.2)
  | subtitle => exact unit (by rw [hk]; exact fun c => nomatch c) _
  | soundMain => exact unit (by rw [hk]; exact fun c => nomatch c) _
  | soundAux => exact unit (by rw [hk]; exact fun c => nomatch c) _

/-! ### First fragments (R14) -/

theorem firstPicture_congr {s u : State} {t : Nat} (p : Parcel) (h : s.endAssembly t = u.endAssembly t) :
    s.firstPicture t p = u.firstPicture t p := by
  unfold State.firstPicture
  rw [h]

/-- A first fragment does what it does once the assembly has ended. -/
theorem fragment_first_congr {s u : State} {p : Parcel} (hf : p.first = true) (ht : s.tables = u.tables)
    (h : s.endAssembly p.track = u.endAssembly p.track) : s.fragment p = u.fragment p := by
  have e : s.trackEntry p.track = u.trackEntry p.track := by rw [State.trackEntry, ht]; rfl
  unfold State.fragment
  dsimp only
  rw [e, hf, h, firstPicture_congr p h]
  rfl

end Sys2Proof.Safety
end

-- ==== parcels: the effects of the sequence check ====
section
/-! PROOFS. The sequence check, damage, and first fragments (R11 to R15). -/

namespace Sys2Proof.Safety

open Sys2Proof.Machine

/-! ### What every accepted parcel keeps -/

/-- An accepted parcel keeps what no parcel touches; the damaged-unit counter too, unless an intact unit is in assembly. -/
theorem Sequenced.keeps {s : State} {bytes : Bytes} {p : Parcel} {gap : Bool} (h : Sequenced s bytes p gap) :
    ∃ t, Machine.exec (.parcelComplete bytes) s = .next t ∧ ParcelKeeps p.track (hasIntact (gapped (s.track p.track) gap) = false)
      (putTrack (hunting s) p.track (sequenced (gapped (s.track p.track) gap) p)
        (s.freeCells + gapCells (s.track p.track) gap)) t := by
  refine ⟨_, h.exec, .after (.arbitrate _) (.judged fun c => ?_)⟩
  rw [putTrack_intact _ _ h.lt_length]
  exact c

/-- What a parcel of track `i` leaves as it was before the parcel: all but its track, the pool, the subtitle block, the link and the
three flags. -/
def Framed (s : State) (i : Nat) (t : State) : Prop :=
  (∀ j, j ≠ i → t.track j = s.track j) ∧
  t = { hunting s with tracks := t.tracks, freeCells := t.freeCells, sub := t.sub, link := t.link, mgmt := t.mgmt } ∧
  t.mgmt.enables = s.mgmt.enables ∧ t.mgmt.requests = s.mgmt.requests ∧ t.mgmt.flowCount = s.mgmt.flowCount ∧
  ∀ f, f ∉ [Flag.overrun, .pictureLoss, .subDrop] → flagSet t.mgmt.flags f = flagSet s.mgmt.flags f

theorem ParcelKeeps.of_putTrack {s t : State} {i n : Nat} {k : Track} {calm : Prop}
    (h : ParcelKeeps i calm (putTrack (hunting s) i k n) t) : Framed s i t := by
  have hm := h.mgmt
  simp only [mgmtView, putTrack_mgmt, Prod.mk.injEq] at hm
  exact ⟨fun j hj => (h.others j hj).trans (putTrack_track_other _ _ _ hj), eq_of_outerView (s := hunting s) h.outer,
    hm.1, hm.2.1, hm.2.2, h.flags⟩

/-- A duplicate is counted, and that is all (R11). -/
theorem duplicate_exec {s : State} {bytes : Bytes} {p : Parcel} {e : Nat} (hr : Received s bytes p) (hq : QueuesOk s)
    (hk : p.kind = .essence) (ht : 1 ≤ p.track ∧ p.track ≤ 31) (hs : s.scheduled p.track = true)
    (he : (s.track p.track).expected = some e) (h1 : p.sequence ≠ e) (h2 : (p.sequence + 1) % 65536 = e) :
    exec (.parcelComplete bytes) s = .next ((hunting s).count p.track fun c => { c with duplicates := satInc c.duplicates }) := by
  have hc : checkSequence ((hunting s).track p.track).expected p.sequence = .duplicate := by
    rw [show ((hunting s).track p.track).expected = some e from he, checkSequence]
    simp [h1, h2]
  rw [hr.exec hk ht, State.essence, if_pos (show (hunting s).scheduled p.track = true from hs), hc]
  exact congrArg _ (hq.arbitrate rfl)

theorem gapped_counters (k : Track) (p : Parcel) : (sequenced (gapped k true) p).counters =
    { k.counters with
      accepted := more k.counters.accepted
      gaps := more k.counters.gaps
      damagedUnits := if hasIntact k then more k.counters.damagedUnits else k.counters.damagedUnits } := rfl

theorem State.intact_eq (s : State) (t : Nat) : s.intact t = hasIntact (s.track t) := by
  unfold State.intact hasIntact State.assembly
  cases (s.track t).assembly <;> rfl

/-- What an accepted parcel does to its track, and what it keeps. -/
theorem Sequenced.effects {s : State} {bytes : Bytes} {p : Parcel} {gap : Bool} (h : Sequenced s bytes p gap) :
    ∃ t, Machine.exec (.parcelComplete bytes) s = .next t ∧ Framed s p.track t ∧
      ((t.track p.track).expected = some ((p.sequence + 1) % 65536) ∧
       (t.track p.track).counters.accepted = more (s.track p.track).counters.accepted ∧
       (t.track p.track).counters.gaps = if gap then more (s.track p.track).counters.gaps else (s.track p.track).counters.gaps) ∧
      (gap = true → (t.track p.track).counters.damagedUnits = if s.intact p.track then more (s.track p.track).counters.damagedUnits
        else (s.track p.track).counters.damagedUnits) := by
  obtain ⟨t, ht, hp⟩ := h.keeps
  have ex := hp.expected
  have ac := hp.accepted
  have ga := hp.gaps
  have da := hp.damaged
  rw [putTrack_track _ _ h.lt_length] at ex ac ga da
  refine ⟨t, ht, hp.of_putTrack, ⟨ex, ?_, ?_⟩, fun hg => ?_⟩
  · rw [ac]; cases gap <;> rfl
  · rw [ga]; cases gap <;> rfl
  · subst hg
    rw [da (hasIntact_harmedCounted _), gapped_counters, ← State.intact_eq]

/-! ### Damage (R12, R13, R15) -/

/-- Counted damage finds no intact unit behind a gap. -/
theorem gapped_damaged (k : Track) {a : Assembly} (h : (gapped k true).assembly = some a) : a.damaged = true :=
  harmed_assembly (k := { k with counters := { k.counters with gaps := more k.counters.gaps } }) h

/-- A gap behind which no intact unit is in assembly is only counted. -/
theorem gapped_of_damaged {k : Track} (gap : Bool) (h : ∀ a, k.assembly = some a → a.damaged = true) :
    gapped k gap = { k with counters := { k.counters with gaps := if gap then more k.counters.gaps else k.counters.gaps } } ∧
    gapCells k gap = 0 := by
  cases gap with
  | false => exact ⟨rfl, rfl⟩
  | true =>
    obtain ⟨hc, _, hn⟩ := harmed_of_damaged (k := { k with counters := { k.counters with gaps := more k.counters.gaps } }) h
    exact ⟨hc, hn⟩

/-- A gap damages an intact unit. -/
theorem gapped_of_intact {k : Track} {a : Assembly} (ha : k.assembly = some a) (hd : a.damaged = false) :
    gapped k true = { damagedTrack k a with
      counters := { k.counters with
        gaps := more k.counters.gaps
        damagedUnits := more k.counters.damagedUnits } } ∧ gapCells k true = a.cells := by
  obtain ⟨h, _, hc⟩ := harmed_of_intact (k := { k with counters := { k.counters with gaps := more k.counters.gaps } }) ha hd
  exact ⟨h, hc⟩

theorem Window.set_base (w : Window) (e : Eye) (f : Nat) (a : Arrival) : (w.set e f a).base = w.base := by
  cases e <;> rfl

/-- Damage by a gap moves no window. -/
theorem gapped_window {k : Track} {w : Window} (h : k.window = some w) (gap : Bool) :
    ∃ w', (gapped k gap).window = some w' ∧ w'.base = w.base := by
  cases gap with
  | false => exact ⟨w, h, rfl⟩
  | true =>
    have e : (gapped k true).window = (harmed k).window := by
      unfold gapped harmedCounted harmed
      rw [if_pos rfl]
      cases k.assembly with
      | none => rfl
      | some a => dsimp only; split <;> rfl
    rw [e]
    unfold harmed
    cases k.assembly with
    | none => exact ⟨w, h, rfl⟩
    | some a =>
      dsimp only
      split
      · exact ⟨w, h, rfl⟩
      · rw [damagedTrack, h]
        exact ⟨_, rfl, by dsimp only; split <;> [exact Window.set_base _ _ _ _; rfl]⟩

/-- A gap and what follows damage together: nothing without an intact unit. -/
theorem struck_of_damaged {k : Track} (p : Parcel) (gap : Bool) (h : ∀ a, k.assembly = some a → a.damaged = true) :
    harmedCounted (sequenced (gapped k gap) p) = sequencedGap k p gap ∧ gapCells k gap + harmCells (gapped k gap) = 0 := by
  obtain ⟨e1, e2⟩ := gapped_of_damaged gap h
  rw [e1, e2]
  obtain ⟨e3, _, e4⟩ := harmed_of_damaged (k := sequencedGap k p gap) h
  exact ⟨e3, by rw [Nat.zero_add]; exact e4⟩

/-- A gap and what follows damage together: an intact unit, once. -/
theorem struck_of_intact {k : Track} (p : Parcel) (gap : Bool) {a : Assembly} (ha : k.assembly = some a) (hd : a.damaged = false) :
    harmedCounted (sequenced (gapped k gap) p) = { damagedTrack (sequencedGap k p gap) a with
      counters := { (sequencedGap k p gap).counters with damagedUnits := more k.counters.damagedUnits } } ∧
    gapCells k gap + harmCells (gapped k gap) = a.cells := by
  cases gap with
  | false =>
    obtain ⟨e1, _, e2⟩ := harmed_of_intact (k := sequenced k p) ha hd
    exact ⟨e1, (Nat.zero_add _).trans e2⟩
  | true =>
    obtain ⟨e1, e2⟩ := gapped_of_intact ha hd
    have broken : ∀ b, (damagedTrack k a).assembly = some b → b.damaged = true := fun b hb => by cases hb; rfl
    rw [e1, e2]
    obtain ⟨e3, _, e4⟩ := harmed_of_damaged (k := sequenced { damagedTrack k a with
      counters := { k.counters with
        gaps := more k.counters.gaps
        damagedUnits := more k.counters.damagedUnits } } p) broken
    exact ⟨e3, congrArg (a.cells + ·) e4⟩

/-- A malformed parcel is counted beside the damage. -/
theorem harmedCounted_malformed (k : Track) (n : Nat) :
    harmedCounted { k with counters := { k.counters with malformed := n } } =
      { harmedCounted k with counters := { (harmedCounted k).counters with malformed := n } } := by
  rcases calm_or_intact k with h | ⟨a, ha, hd⟩
  · rw [(harmed_of_damaged h).1, (harmed_of_damaged _).1]
    exact h
  · rw [(harmed_of_intact ha hd).1, (harmed_of_intact (a := a) _ hd).1]
    · rfl
    · exact ha

theorem putTrack_judged_bad {s : State} {p : Parcel} (k : Track) (n : Nat) (h : p.track < s.tracks.length)
    (hc : s.contentOk p = false) : judged (putTrack s p.track k n) p = putTrack s p.track
      (harmedCounted { k with counters := { k.counters with malformed := more k.counters.malformed } }) (n + harmCells k) := by
  rw [judged, putTrack_contentOk, hc, if_neg (by simp), putTrack_countMalformed k n h, putTrack_damageCounted _ _ h]
  rfl

/-! ### First fragments (R14) -/

/-- The sequence of a parcel is judged alike on a track whose unit in assembly has ended. -/
theorem Sequenced.of_putTrack {s : State} {bytes : Bytes} {p : Parcel} {gap : Bool} (h : Sequenced s bytes p gap) {k : Track}
    {n : Nat} (hk : k.expected = (s.track p.track).expected) : Sequenced (putTrack s p.track k n) bytes p gap := by
  refine ⟨⟨h.received.running, h.received.receiving, h.received.size, h.received.good⟩, h.kind, h.track,
    (putTrack_length s p.track k n).trans h.tracks, h.scheduled, ?_⟩
  rw [putTrack_track k n (s := s) h.lt_length, hk]
  exact h.sequence

/-- A first fragment leaves the same behind on two run states that end their assembly alike. -/
theorem Sequenced.exec_first {s : State} {bytes : Bytes} {p : Parcel} {gap : Bool} (h : Sequenced s bytes p gap) {k : Track}
    {n : Nat} (hk : k.expected = (s.track p.track).expected) (hf : p.first = true) (hc : s.contentOk p = true)
    (he : { harmedCounted (sequenced (gapped (s.track p.track) gap) p) with assembly := none } =
      { harmedCounted (sequenced (gapped k gap) p) with assembly := none })
    (hn : s.freeCells + gapCells (s.track p.track) gap + harmCells (gapped (s.track p.track) gap) =
      n + gapCells k gap + harmCells (gapped k gap)) :
    Machine.exec (.parcelComplete bytes) s = Machine.exec (.parcelComplete bytes) (putTrack s p.track k n) := by
  rw [h.exec, (h.of_putTrack hk).exec, putTrack_track k n (s := s) h.lt_length]
  have e : hunting (putTrack s p.track k n) = putTrack (hunting s) p.track k n := rfl
  rw [e, putTrack_putTrack, putTrack_freeCells, judged, judged, putTrack_contentOk, putTrack_contentOk,
    if_pos (show (hunting s).contentOk p = true from hc), if_pos (show (hunting s).contentOk p = true from hc)]
  refine congrArg (fun u : State => Host.Outcome.next u.arbitrate) (fragment_first_congr hf rfl ?_)
  rw [putTrack_endAssembly _ _ h.lt_length, putTrack_endAssembly _ _ h.lt_length, he]
  exact congrArg _ hn

/-! ### The four clauses -/

/-- R11: a duplicate, an accepted parcel, and one behind a gap. -/
theorem sequence_effects {s : State} {bytes : Bytes} {p : Parcel} (hr : Received s bytes p) (hq : QueuesOk s)
    (hk : p.kind = .essence) (ht : 1 ≤ p.track ∧ p.track ≤ 31) (hlen : s.tracks.length = 32) (hs : s.scheduled p.track = true) :
    ∃ t, exec (.parcelComplete bytes) s = .next t ∧ Framed s p.track t ∧
      (∀ e, e < 65536 → (s.track p.track).expected = some e → p.sequence ≠ e → (p.sequence + 1) % 65536 = e →
        t = { hunting s with tracks := s.tracks.modify p.track fun k =>
          { k with counters := { k.counters with duplicates := min (k.counters.duplicates + 1) 65535 } } }) ∧
      ((s.track p.track).expected = none ∨ (s.track p.track).expected = some p.sequence →
        (t.track p.track).expected = some ((p.sequence + 1) % 65536) ∧
        (t.track p.track).counters.accepted = min ((s.track p.track).counters.accepted + 1) 65535 ∧
        (t.track p.track).counters.gaps = (s.track p.track).counters.gaps) ∧
      ∀ e, (s.track p.track).expected = some e → p.sequence ≠ e → (p.sequence + 1) % 65536 ≠ e →
        (t.track p.track).expected = some ((p.sequence + 1) % 65536) ∧
        (t.track p.track).counters.accepted = min ((s.track p.track).counters.accepted + 1) 65535 ∧
        (t.track p.track).counters.gaps = min ((s.track p.track).counters.gaps + 1) 65535 ∧
        (t.track p.track).counters.damagedUnits = (if s.intact p.track then min ((s.track p.track).counters.damagedUnits + 1) 65535
          else (s.track p.track).counters.damagedUnits) := by
  cases he : (s.track p.track).expected with
  | none =>
    obtain ⟨t, hx, frame, seq, _⟩ := Sequenced.effects (gap := false) ⟨hr, hk, ht, hlen, hs, .inl he⟩
    exact ⟨t, hx, frame, fun e _ c => (by cases c), fun _ => seq, fun e c => (by cases c)⟩
  | some e =>
    by_cases h1 : p.sequence = e
    · subst h1
      obtain ⟨t, hx, frame, seq, _⟩ := Sequenced.effects (gap := false) ⟨hr, hk, ht, hlen, hs, .inr he⟩
      exact ⟨t, hx, frame, fun e _ c hn => absurd (Option.some.inj c) hn, fun _ => seq,
        fun e c hn => absurd (Option.some.inj c) hn⟩
    · by_cases h2 : (p.sequence + 1) % 65536 = e
      · have keeps : ParcelKeeps p.track True (putTrack (hunting s) p.track (s.track p.track) s.freeCells)
            ((hunting s).count p.track fun c => { c with duplicates := satInc c.duplicates }) := by
          rw [show putTrack (hunting s) p.track (s.track p.track) s.freeCells = hunting s from
            (eq_putTrack (s := hunting s) (by change p.track < s.tracks.length; omega)).symm]
          exact .count _ (fun _ => rfl) (fun _ => rfl) fun _ _ => rfl
        refine ⟨_, duplicate_exec hr hq hk ht hs he h1 h2, keeps.of_putTrack, fun _ _ _ _ _ => rfl, fun c => ?_,
          fun e' c _ hn => absurd (Option.some.inj c ▸ h2) hn⟩
        rcases c with c | c
        · cases c
        · exact absurd (Option.some.inj c).symm h1
      · obtain ⟨t, hx, frame, ⟨ex, ac, ga⟩, da⟩ := Sequenced.effects (gap := true) ⟨hr, hk, ht, hlen, hs, e, he, h1, h2⟩
        refine ⟨t, hx, frame, fun e' _ c _ hn => absurd (Option.some.inj c ▸ hn) h2, fun c => ?_,
          fun e' _ _ _ => ⟨ex, ac, ga, da rfl⟩⟩
        rcases c with c | c
        · cases c
        · exact absurd (Option.some.inj c).symm h1

section
variable {s : State} {bytes : Bytes} {p : Parcel} {gap : Bool} (h : Sequenced s bytes p gap)
include h

/-- R13: a content check that fails. -/
theorem Sequenced.exec_bad (hq : QueuesOk s) (hc : s.contentOk p = false) :
    Machine.exec (.parcelComplete bytes) s = .next (putTrack (hunting s) p.track
      (harmedCounted { sequenced (gapped (s.track p.track) gap) p with
        counters := { (sequenced (gapped (s.track p.track) gap) p).counters with
          malformed := more (s.track p.track).counters.malformed } })
      (s.freeCells + gapCells (s.track p.track) gap + harmCells (gapped (s.track p.track) gap))) := by
  rw [h.exec, putTrack_judged_bad _ _ h.lt_length hc, hq.arbitrate (by rfl)]
  cases gap <;> rfl

/-- R15: a continuation that differs from what is in assembly, or finds a damaged unit. -/
theorem Sequenced.exec_differing (hq : QueuesOk s) (hc : s.contentOk p = true) (hf : p.first = false)
    (hw : (s.trackEntry p.track).kind = .picture →
      ∃ w, (s.track p.track).window = some w ∧ w.base ≤ p.frame ∧ p.frame < w.base + 64)
    (hd : ∀ a, (gapped (s.track p.track) gap).assembly = some a → a.damaged = true ∨ a.frame ≠ p.frame ∨
      ((s.trackEntry p.track).kind = .picture ∧ a.eye ≠ p.eye)) :
    Machine.exec (.parcelComplete bytes) s = .next (putTrack (hunting s) p.track
      (differed (sequenced (gapped (s.track p.track) gap) p) p.last)
      (s.freeCells + gapCells (s.track p.track) gap + harmCells (gapped (s.track p.track) gap))) := by
  rw [h.exec, judged, putTrack_contentOk, if_pos (show (hunting s).contentOk p = true from hc),
    putTrack_fragment_differing (k := sequenced (gapped (s.track p.track) gap) p) _ h.lt_length hf (fun c => ?_) hd,
    hq.arbitrate (by rfl)]
  · rfl
  · obtain ⟨w, ew, h1, h2⟩ := hw c
    obtain ⟨w', ew', e⟩ := gapped_window ew gap
    exact ⟨w', ew', e ▸ h1, e ▸ h2⟩

/-- R15 with no intact unit in assembly: the continuation is dropped. -/
theorem Sequenced.exec_unmatched (hq : QueuesOk s) (hc : s.contentOk p = true) (hf : p.first = false)
    (hw : (s.trackEntry p.track).kind = .picture →
      ∃ w, (s.track p.track).window = some w ∧ w.base ≤ p.frame ∧ p.frame < w.base + 64)
    (calm : ∀ a, (s.track p.track).assembly = some a → a.damaged = true) :
    Machine.exec (.parcelComplete bytes) s = .next (putTrack (hunting s) p.track
      { sequencedGap (s.track p.track) p gap with
        assembly := if p.last then none else (s.track p.track).assembly
        counters := { (sequencedGap (s.track p.track) p gap).counters with
          dropped := more (s.track p.track).counters.dropped } } s.freeCells) := by
  obtain ⟨e, n⟩ := struck_of_damaged p gap calm
  have same := (gapped_of_damaged gap calm).1
  rw [h.exec_differing hq hc hf hw (fun a c => .inl ?_), differed, Nat.add_assoc, e, n]
  · rw [same]; rfl
  · rw [same] at c; exact calm a c

end

/-- Settles O33: the cases of the check, then those of the unit in assembly. -/
theorem sequenceCheckEffects : Obligations.SequenceCheckEffects := by
  refine ⟨fun bytes p s hr hq hk h1 h31 hlen hs _ => ?_, fun bytes p gap k s h hq hk hc => ?_,
    fun bytes p gap k s h hq hk hc hf hw => ⟨fun hn => ?_, fun a ha => ⟨fun hd => ?_, fun hd hx => ?_⟩⟩,
    fun bytes p gap a k s h hk hc hf ha => ⟨fun hd => ?_, fun hd => ?_⟩⟩
  · obtain ⟨t, hx, ⟨h1, h2, h3, h4, h5, h6⟩, rest⟩ := sequence_effects hr hq hk ⟨h1, h31⟩ hlen hs
    exact ⟨t, hx, h1, h2, h3, h4, h5, h6, rest⟩
  · subst hk
    rw [h.exec_bad hq hc, harmedCounted_malformed, Nat.add_assoc]
    cases ha : s.assembly p.track with
    | none =>
      obtain ⟨e, n⟩ := struck_of_damaged (k := s.track p.track) p gap fun a c => by rw [← State.assembly, ha] at c; cases c
      rw [e, n]; rfl
    | some a =>
      cases hd : a.damaged with
      | true =>
        obtain ⟨e, n⟩ := struck_of_damaged (k := s.track p.track) p gap fun b c => by
          rw [← State.assembly, ha] at c; cases c; exact hd
        rw [e, n]; simp only [hd]; rfl
      | false =>
        obtain ⟨e, n⟩ := struck_of_intact (k := s.track p.track) p gap ha hd
        rw [e, n]; simp only [hd]; rfl
  · subst hk
    have calm : ∀ a, (s.track p.track).assembly = some a → a.damaged = true := fun a c => by
      rw [← State.assembly, hn] at c; cases c
    have gone : (if p.last then none else (s.track p.track).assembly) = (s.track p.track).assembly := by
      rw [show (s.track p.track).assembly = none from hn, ite_self]
    rw [h.exec_unmatched hq hc hf hw calm, gone]
    rfl
  · subst hk
    rw [h.exec_unmatched hq hc hf hw (fun b c => by rw [← State.assembly, ha] at c; cases c; exact hd),
      show (s.track p.track).assembly = some a from ha]
    rfl
  · subst hk
    obtain ⟨e, n⟩ := struck_of_intact (k := s.track p.track) p gap ha hd
    rw [h.exec_differing hq hc hf hw (fun b c => ?_), differed, Nat.add_assoc, e, n]
    · cases gap <;> rfl
    · cases gap with
      | true => exact .inl (gapped_damaged _ c)
      | false =>
        rw [show (gapped (s.track p.track) false).assembly = some a from ha] at c
        cases c
        exact .inr (hx.resolve_left (by simp))
  · subst hk
    have calm : ∀ b, (s.track p.track).assembly = some b → b.damaged = true := fun b c => by
      rw [← State.assembly, ha] at c; cases c; exact hd
    obtain ⟨e, n⟩ := struck_of_damaged (k := s.track p.track) p gap calm
    obtain ⟨e', n'⟩ := struck_of_damaged (k := { s.track p.track with assembly := none }) p gap fun b c => by cases c
    refine h.exec_first (by rfl) hf hc (by rw [e, e']; rfl) ?_
    rw [Nat.add_assoc, Nat.add_assoc, n, n']
  · subst hk
    obtain ⟨e, n⟩ := struck_of_intact (k := s.track p.track) p gap ha hd
    obtain ⟨e', n'⟩ := struck_of_damaged (k := { damagedTrack (s.track p.track) a with
      assembly := none
      counters := { (s.track p.track).counters with damagedUnits := more (s.track p.track).counters.damagedUnits } }) p gap
      fun b c => by cases c
    refine h.exec_first (by rfl) hf hc (by rw [e, e']; rfl) ?_
    rw [Nat.add_assoc, Nat.add_assoc, n, n', Nat.add_zero]

end Sys2Proof.Safety
end

-- ==== parcels: sound fragments ====
section
/-! PROOFS. The fragments of a sound unit: grant, completion, refusal (R17, R19, R21). -/

namespace Sys2Proof.Safety

open Sys2Proof.Machine

/-- An accepted parcel of good contents: its fragment, then the arbiter. -/
theorem Accepted.exec {s : State} {bytes : Bytes} {p : Parcel} (h : Accepted s bytes p) :
    Machine.exec (.parcelComplete bytes) s = .next
      ((putTrack (hunting s) p.track (sequenced (s.track p.track) p) s.freeCells).fragment p).arbitrate := by
  rw [h.toSequenced.exec, judged, putTrack_contentOk, if_pos (show (hunting s).contentOk p = true from h.content)]
  rfl

theorem Accepted.lt_length {s : State} {bytes : Bytes} {p : Parcel} (h : Accepted s bytes p) :
    p.track < (hunting s).tracks.length := h.toSequenced.lt_length

theorem fragment_sound {s : State} {p : Parcel} (h : (s.trackEntry p.track).kind.isSound = true) :
    s.fragment p = if p.first then
      ((s.endAssembly p.track).setAssembly p.track (some (newAssembly p))).takeSound p.track (newAssembly p) p
      else s.continueUnit p.track p State.takeSound := by
  unfold State.fragment
  dsimp only
  cases hk : (s.trackEntry p.track).kind with
  | picture => rw [hk] at h; cases h
  | subtitle => rw [hk] at h; cases h
  | soundMain => rfl
  | soundAux => rfl

section
variable {s : State} {t : Nat} (k : Track) (n : Nat) (h : t < s.tracks.length)
include h

/-- A first fragment on a track with no unit in assembly. -/
theorem putTrack_endAssembly_none (hn : k.assembly = none) : (putTrack s t k n).endAssembly t = putTrack s t k n := by
  obtain ⟨e, _, e'⟩ := harmed_of_damaged (k := k) fun a ha => by rw [hn] at ha; cases ha
  rw [putTrack_endAssembly k n h, e, e', ← hn]
  rfl

/-- A continuation that matches the intact unit in assembly. -/
theorem putTrack_continueUnit {p : Parcel} {a : Assembly} (ha : k.assembly = some a) (hd : a.damaged = false)
    (hf : a.frame = p.frame) (take : State → Nat → Assembly → Parcel → State) :
    (putTrack s t k n).continueUnit t p take = take (putTrack s t k n) t a p := by
  rw [State.continueUnit, putTrack_assembly k n h, ha]
  dsimp only
  rw [if_neg (by simp [hd, hf])]

theorem putTrack_discard (m : Nat) : ((putTrack s t k n).setAssembly t none).discardUnit t m =
    putTrack s t { k with assembly := none, cellsHeld := k.cellsHeld - m } (n + m) := by
  rw [State.discardUnit, putTrack_setAssembly k n h, putTrack_returnCells _ _ h]

/-! ### Completion (R21) -/

/-- The bytes of a whole sound unit of a track (R21). -/
def soundUnitSize (s : State) (t : Nat) : Nat :=
  samplesPerFrame (s.composition (s.trackEntry t).slot).rateCode * (s.trackEntry t).channels.getD 0 * 3

variable {a : Assembly}

/-- What completion makes of a sound unit: malformed, out of order, or queued and delivered (R21). -/
theorem putTrack_completeSound : (putTrack s t k n).completeSound t a =
    if a.bytes.length ≠ soundUnitSize s t then putTrack s t { k with
      assembly := none
      cellsHeld := k.cellsHeld - a.cells
      counters := { k.counters with malformed := more k.counters.malformed } } (n + a.cells)
    else if ∃ m ∈ k.lastFrame, a.frame ≤ m then putTrack s t { k with
      assembly := none
      cellsHeld := k.cellsHeld - a.cells
      counters := { k.counters with outOfOrder := more k.counters.outOfOrder } } (n + a.cells)
    else putTrack s t { k with
      assembly := none
      queue := k.queue ++ [⟨a.frame, a.bytes, a.cells⟩]
      lastFrame := some a.frame
      counters := { k.counters with delivered := more k.counters.delivered } } n := by
  rw [State.completeSound, putTrack_track k n h]
  dsimp only
  rw [putTrack_discard k n h, putTrack_countMalformed _ _ h, putTrack_countOutOfOrder _ _ h, putTrack_setAssembly k n h,
    putTrack_updTrack _ _ _ h, putTrack_countDelivered _ _ h]
  rfl

/-! ### The grant (R17, R19) -/

variable {k n} {p : Parcel} {need : Nat}

/-- The unit in assembly after a grant. -/
def grown (a : Assembly) (p : Parcel) (need : Nat) : Assembly := { a with bytes := a.bytes ++ p.payload, cells := a.cells + need }

/-- A granted fragment grows its unit; the last one completes it. -/
theorem takeSound_granted (hneed : need = soundCellsNeeded a.bytes.length a.cells p.payload.length)
    (hg : need ≤ n ∧ k.cellsHeld + need ≤ (s.trackEntry t).quota) : (putTrack s t k n).takeSound t a p =
      let u := putTrack s t { k with assembly := some (grown a p need), cellsHeld := k.cellsHeld + need } (n - need)
      if p.last then u.completeSound t (grown a p need) else u := by
  rw [State.takeSound, ← hneed]
  dsimp only
  rw [putTrack_grantSucceeds k n h, if_pos (decide_eq_true hg), putTrack_grantCells k n h, putTrack_setAssembly _ _ h]
  rfl

/-- A granted fragment changes its track and the pool alone. -/
theorem takeSound_moves (hneed : need = soundCellsNeeded a.bytes.length a.cells p.payload.length)
    (hg : need ≤ n ∧ k.cellsHeld + need ≤ (s.trackEntry t).quota) :
    ∃ k' n', (putTrack s t k n).takeSound t a p = putTrack s t k' n' := by
  rw [takeSound_granted h hneed hg]
  dsimp only
  split
  · rw [putTrack_completeSound _ _ h]
    split
    · exact ⟨_, _, rfl⟩
    · split <;> exact ⟨_, _, rfl⟩
  · exact ⟨_, _, rfl⟩

/-- A fragment that gets no grant damages its unit (R19). -/
theorem takeSound_refused (hneed : need = soundCellsNeeded a.bytes.length a.cells p.payload.length)
    (hg : ¬ (need ≤ n ∧ k.cellsHeld + need ≤ (s.trackEntry t).quota)) (ha : k.assembly = some a) (hd : a.damaged = false) :
    (putTrack s t k n).takeSound t a p = putTrack (s.raise .overrun) t { damagedTrack k a with
      assembly := if p.last then none else (damagedTrack k a).assembly
      counters := { k.counters with overruns := more k.counters.overruns } } (n + a.cells) := by
  obtain ⟨_, e1, e2⟩ := harmed_of_intact ha hd
  rw [State.takeSound, ← hneed]
  dsimp only
  rw [putTrack_grantSucceeds k n h, if_neg (by simpa using hg), putTrack_overrun k n h, e1, e2]

end

/-- A sound fragment finds its unit in assembly, or begins it. -/
theorem putTrack_fragment_sound {s : State} {p : Parcel} {k : Track} {n : Nat} {a : Assembly} (h : p.track < s.tracks.length)
    (hk : (s.trackEntry p.track).kind.isSound = true)
    (hu : (p.first = false ∧ k.assembly = some a ∧ a.damaged = false ∧ a.frame = p.frame) ∨
      (p.first = true ∧ k.assembly = none ∧ a = ⟨p.frame, p.eye, [], 0, false⟩)) :
    (putTrack s p.track k n).fragment p = (putTrack s p.track { k with assembly := some a } n).takeSound p.track a p ∧
      a.damaged = false := by
  rw [fragment_sound (s := putTrack s p.track k n) hk]
  rcases hu with ⟨hf, ha, hd, hfr⟩ | ⟨hf, ha, rfl⟩
  · rw [if_neg (by simp [hf]), putTrack_continueUnit k n h ha hd hfr, ← ha]
    exact ⟨rfl, hd⟩
  · rw [if_pos hf, putTrack_endAssembly_none k n h ha, putTrack_setAssembly k n h]
    exact ⟨rfl, rfl⟩

/-- Settles O34: the grant, then the checks of completion. -/
theorem soundParcelGrant : Obligations.SoundParcelGrant := by
  intro bytes p a need size k granted s hr hq hk hu hneed hsize hk' hgrant
  have hl := hr.lt_length
  have hu' : (p.first = false ∧ k.assembly = some a ∧ a.damaged = false ∧ a.frame = p.frame) ∨
      (p.first = true ∧ k.assembly = none ∧ a = ⟨p.frame, p.eye, [], 0, false⟩) := hk' ▸ hu
  obtain ⟨hx, hd⟩ := putTrack_fragment_sound (s := hunting s) (n := s.freeCells) hl hk hu'
  have grant : granted → _ := fun hg => takeSound_granted (s := hunting s) (k := { k with assembly := some a }) (n := s.freeCells)
    (a := a) (p := p) hl hneed (by rw [hk']; exact hgrant.mp hg)
  have free : granted → s.freeCells - need + (a.cells + need) = s.freeCells + a.cells := fun hg => by
    have := (hgrant.mp hg).1
    omega
  have held : k.cellsHeld + need - (a.cells + need) = k.cellsHeld - a.cells := Nat.add_sub_add_right _ _ _
  rw [hr.exec, ← hk', hx]
  refine ⟨_, rfl, fun hg => ?_, fun hg hlast => ?_, fun hg hlast hz ho => ?_, fun hg hlast hz => ?_, fun hg hlast hz ho => ?_,
    fun hg => ?_⟩
  · obtain ⟨k', n', e⟩ := takeSound_moves (s := hunting s) (k := { k with assembly := some a }) (n := s.freeCells)
      (a := a) (p := p) hl hneed (by rw [hk']; exact hgrant.mp hg)
    rw [e, hq.arbitrate (by rfl)]
    rfl
  · rw [grant hg]
    dsimp only
    rw [hlast, if_neg (by simp), State.arbitrate_freeCells, State.arbitrate_track, putTrack_track _ _ hl]
    exact ⟨rfl, rfl⟩
  · have size_ok : ¬ (grown a p need).bytes.length ≠ soundUnitSize (hunting s) p.track := not_not.mpr (hz.trans hsize)
    have fresh : ¬ ∃ m ∈ k.lastFrame, (grown a p need).frame ≤ m := fun ⟨m, hm, hle⟩ => absurd hle (Nat.not_le.mpr (ho m hm))
    rw [grant hg]
    dsimp only
    rw [hlast, if_pos rfl, putTrack_completeSound _ _ hl, if_neg size_ok]
    dsimp only
    rw [if_neg fresh, State.arbitrate_freeCells,
      State.arbitrate_track, putTrack_track _ _ hl]
    exact ⟨rfl, rfl⟩
  · have misfit : (grown a p need).bytes.length ≠ soundUnitSize (hunting s) p.track := fun c => hz (c.trans hsize.symm)
    rw [grant hg]
    dsimp only
    rw [hlast, if_pos rfl, putTrack_completeSound _ _ hl, if_pos misfit, State.arbitrate_freeCells, State.arbitrate_track,
      putTrack_track _ _ hl]
    exact ⟨free hg, by rw [← held]; rfl⟩
  · have size_ok : ¬ (grown a p need).bytes.length ≠ soundUnitSize (hunting s) p.track := not_not.mpr (hz.trans hsize)
    have stale : ∃ m ∈ k.lastFrame, (grown a p need).frame ≤ m := ho
    rw [grant hg]
    dsimp only
    rw [hlast, if_pos rfl, putTrack_completeSound _ _ hl, if_neg size_ok]
    dsimp only
    rw [if_pos stale, State.arbitrate_freeCells,
      State.arbitrate_track, putTrack_track _ _ hl]
    exact ⟨free hg, by rw [← held]; rfl⟩
  · rw [takeSound_refused hl hneed (by rw [hk']; exact fun c => hg (hgrant.mpr c)) rfl hd]
    refine ⟨State.arbitrate_freeCells _, ?_, ?_, ?_, ?_⟩
    · rw [State.arbitrate_flags', putTrack_mgmt, State.raise_flags, flagSet_withFlag]
      simp
    · rw [State.arbitrate_link, putTrack_link, State.raise_link]; rfl
    · rw [State.arbitrate_sub, putTrack_sub, State.raise_sub]; rfl
    · rw [State.arbitrate_track, putTrack_track _ _ (by simpa using hl)]
      rfl

end Sys2Proof.Safety
end

-- ==== parcels: subtitle fragments ====
section
/-! PROOFS. The fragments of a subtitle item: grant, size, completion and its place in the schedule (R18, R22, R104, R105). -/

namespace Sys2Proof.Safety

open Sys2Proof.Machine

/-! ### The schedule (R105) -/

/-- In an ordered schedule an item stands behind all that come in no later, and before all that come in later. -/
theorem insertItem_eq {l : List Item} (i : Item) (h : l.Pairwise fun x y => x.inFrame ≤ y.inFrame) :
    insertItem i l =
      l.filter (fun x => decide (x.inFrame ≤ i.inFrame)) ++ [i] ++ l.filter fun x => decide (i.inFrame < x.inFrame) := by
  induction l with
  | nil => rfl
  | cons j l ih =>
    obtain ⟨hj, hl⟩ := List.pairwise_cons.mp h
    rw [insertItem]
    by_cases c : j.inFrame ≤ i.inFrame
    · rw [if_pos c, ih hl, List.filter_cons_of_pos (by simpa using c), List.filter_cons_of_neg (by simpa using c)]
      rfl
    · have later : ∀ x ∈ l, i.inFrame < x.inFrame := fun x hx => lt_of_lt_of_le (not_le.mp c) (hj x hx)
      rw [if_neg c, List.filter_cons_of_neg (by simpa using c), List.filter_cons_of_pos (by simpa using c),
        List.filter_eq_nil_iff.mpr fun x hx => by simpa using later x hx,
        List.filter_eq_self.mpr fun x hx => by simpa using later x hx]
      rfl

theorem fragment_subtitle {s : State} {p : Parcel} (h : (s.trackEntry p.track).kind = .subtitle) :
    s.fragment p = if p.first then (s.endAssembly p.track).startSubtitle p.track p
      else s.continueUnit p.track p State.takeSubtitle := by
  unfold State.fragment
  dsimp only
  rw [h]

/-- The bytes of a well-formed item are no more than a subtitle unit takes. -/
theorem itemWellFormed_length {b : Bytes} (h : itemWellFormed b = true) : b.length ≤ 512 := by
  unfold itemWellFormed at h
  have := of_decide_eq_true h
  omega

section
variable {s : State} {t : Nat} (k : Track) (n : Nat) (h : t < s.tracks.length)
include h

/-- An item is offered: stale, scheduled, or refused (R104, R105). -/
theorem putTrack_offerItem {i : Item} (hi : i.track = t) : (putTrack s t k n).offerItem i =
    if i.outFrame ≤ s.itemFrame t then
      putTrack { s with sub := { s.sub with stale := more s.sub.stale } } t { k with cellsHeld := k.cellsHeld - 2 } (n + 2)
    else if s.sub.schedule.length < 96 then
      putTrack { s with sub := { s.sub with
        schedule := insertItem i s.sub.schedule
        late := if i.inFrame < s.itemFrame t then more s.sub.late else s.sub.late } } t k n
    else putTrack (State.raise { s with sub := { s.sub with refused := more s.sub.refused } } .subDrop) t
      { k with cellsHeld := k.cellsHeld - 2 } (n + 2) := by
  rw [State.offerItem, putTrack_itemFrame, putTrack_sub, hi, show Config.scheduleItems = 96 from rfl]
  split
  · exact putTrack_returnCells (s := { s with sub := { s.sub with stale := more s.sub.stale } }) k n h 2
  · split
    · rfl
    · exact (congrArg (State.raise · .subDrop) (putTrack_returnCells
        (s := { s with sub := { s.sub with refused := more s.sub.refused } }) k n h 2)).trans (putTrack_raise _ _ _ _ _)

variable {k n} {a : Assembly}

/-- What completion makes of a subtitle unit: malformed, out of order, or offered as an item (R22). -/
theorem putTrack_completeSubtitle : (putTrack s t k n).completeSubtitle t a =
    if itemWellFormed a.bytes = false then putTrack s t { k with
      assembly := none
      cellsHeld := k.cellsHeld - a.cells
      counters := { k.counters with malformed := more k.counters.malformed } } (n + a.cells)
    else if ∃ m ∈ k.lastFrame, a.frame ≤ m then putTrack s t { k with
      assembly := none
      cellsHeld := k.cellsHeld - a.cells
      counters := { k.counters with outOfOrder := more k.counters.outOfOrder } } (n + a.cells)
    else (putTrack s t { k with
      assembly := none
      lastFrame := some a.frame
      counters := { k.counters with delivered := more k.counters.delivered } } n).offerItem (readItem t a.bytes) := by
  rw [State.completeSubtitle, putTrack_track k n h]
  dsimp only
  rw [putTrack_discard k n h, putTrack_countMalformed _ _ h, putTrack_countOutOfOrder _ _ h, putTrack_setAssembly k n h,
    putTrack_updTrack _ _ _ h, putTrack_countDelivered _ _ h]

/-- An intact subtitle unit takes a fragment: too many bytes damage it, the last fragment completes it (R18). -/
theorem putTrack_takeSubtitle {p : Parcel} (ha : k.assembly = some a) (hd : a.damaged = false) :
    (putTrack s t k n).takeSubtitle t a p =
      if 512 < (a.bytes ++ p.payload).length then putTrack s t { damagedTrack k a with
        assembly := if p.last then none else (damagedTrack k a).assembly
        counters := { k.counters with malformed := more k.counters.malformed } } (n + a.cells)
      else
        let u := putTrack s t { k with assembly := some { a with bytes := a.bytes ++ p.payload } } n
        if p.last then u.completeSubtitle t { a with bytes := a.bytes ++ p.payload } else u := by
  obtain ⟨_, e1, e2⟩ := harmed_of_intact
    (k := { k with counters := { k.counters with malformed := more k.counters.malformed } }) ha hd
  rw [State.takeSubtitle, List.length_append]
  dsimp only
  rw [putTrack_countMalformed k n h, putTrack_damage _ _ h, e1, e2, putTrack_leaveIfLast _ _ h, putTrack_setAssembly k n h]
  rfl

/-- A first fragment that gets its 2 cells (R18). -/
theorem startSubtitle_granted {p : Parcel} (hg : 2 ≤ n ∧ k.cellsHeld + 2 ≤ (s.trackEntry t).quota) :
    (putTrack s t k n).startSubtitle t p =
      (putTrack s t { k with assembly := some ⟨p.frame, p.eye, [], 2, false⟩, cellsHeld := k.cellsHeld + 2 } (n - 2)).takeSubtitle t
        ⟨p.frame, p.eye, [], 2, false⟩ p := by
  rw [State.startSubtitle, putTrack_setAssembly k n h, show itemCells = 2 from rfl]
  dsimp only
  rw [putTrack_grantSucceeds _ _ h, if_pos (decide_eq_true hg), putTrack_grantCells _ _ h, putTrack_setAssembly _ _ h]
  rfl

/-- A first fragment that gets no cells (R19). -/
theorem startSubtitle_refused {p : Parcel} (hg : ¬ (2 ≤ n ∧ k.cellsHeld + 2 ≤ (s.trackEntry t).quota)) :
    (putTrack s t k n).startSubtitle t p = putTrack (s.raise .overrun) t { damagedTrack k (newAssembly p) with
      assembly := if p.last then none else (damagedTrack k (newAssembly p)).assembly
      counters := { k.counters with overruns := more k.counters.overruns } } n := by
  obtain ⟨_, e1, e2⟩ := harmed_of_intact (k := { k with assembly := some (newAssembly p) }) rfl rfl
  rw [State.startSubtitle, putTrack_setAssembly k n h, show itemCells = 2 from rfl]
  dsimp only
  rw [putTrack_grantSucceeds _ _ h, if_neg (by simpa using hg), putTrack_overrun _ _ h, e1, e2]
  rfl

/-! ### What no fragment of a subtitle item sends -/

theorem offerItem_link {i : Item} (hi : i.track = t) : ((putTrack s t k n).offerItem i).link = s.link := by
  rw [putTrack_offerItem k n h hi]
  split
  · rfl
  · split
    · rfl
    · rw [putTrack_link, State.raise_link]

/-- An offered item changes no more of its track than the cells held. -/
theorem offerItem_track {i : Item} (hi : i.track = t) : ((putTrack s t k n).offerItem i).track t =
    { k with cellsHeld := (((putTrack s t k n).offerItem i).track t).cellsHeld } := by
  rw [putTrack_offerItem k n h hi]
  split
  · rw [putTrack_track _ _ (by exact h)]
  · split
    · rw [putTrack_track _ _ (by exact h)]
    · rw [putTrack_track _ _ (by simpa using h)]

theorem takeSubtitle_link {p : Parcel} (ha : k.assembly = some a) (hd : a.damaged = false) :
    ((putTrack s t k n).takeSubtitle t a p).link = s.link := by
  rw [putTrack_takeSubtitle h ha hd]
  split
  · rfl
  · dsimp only
    split
    · rw [putTrack_completeSubtitle h]
      split
      · rfl
      · split
        · rfl
        · exact offerItem_link h rfl
    · rfl

end

/-- A subtitle fragment that needs no grant, or gets it, is taken by its unit in assembly. -/
theorem putTrack_fragment_subtitle {s : State} {p : Parcel} {k : Track} {n need : Nat} {a : Assembly}
    (h : p.track < s.tracks.length) (hk : (s.trackEntry p.track).kind = .subtitle)
    (hu : (p.first = true ∧ k.assembly = none ∧ a = ⟨p.frame, p.eye, [], 2, false⟩ ∧ need = 2) ∨
      (p.first = false ∧ k.assembly = some a ∧ a.damaged = false ∧ a.frame = p.frame ∧ a.cells = 2 ∧ need = 0))
    (hg : need = 0 ∨ (2 ≤ n ∧ k.cellsHeld + 2 ≤ (s.trackEntry p.track).quota)) :
    (putTrack s p.track k n).fragment p =
      (putTrack s p.track { k with assembly := some a, cellsHeld := k.cellsHeld + need } (n - need)).takeSubtitle p.track a p := by
  rw [fragment_subtitle (s := putTrack s p.track k n) hk]
  rcases hu with ⟨hf, ha, rfl, rfl⟩ | ⟨hf, ha, hd, hfr, _, rfl⟩
  · rw [if_pos hf, putTrack_endAssembly_none k n h ha, startSubtitle_granted h (hg.resolve_left (by simp))]
  · rw [if_neg (by simp [hf]), putTrack_continueUnit k n h ha hd hfr, ← ha]
    rfl

/-- A first subtitle fragment without a grant. -/
theorem putTrack_fragment_refused {s : State} {p : Parcel} {k : Track} {n : Nat} (h : p.track < s.tracks.length)
    (hk : (s.trackEntry p.track).kind = .subtitle) (hf : p.first = true) (ha : k.assembly = none)
    (hg : ¬ (2 ≤ n ∧ k.cellsHeld + 2 ≤ (s.trackEntry p.track).quota)) :
    (putTrack s p.track k n).fragment p = putTrack (s.raise .overrun) p.track { damagedTrack k (newAssembly p) with
      assembly := if p.last then none else (damagedTrack k (newAssembly p)).assembly
      counters := { k.counters with overruns := more k.counters.overruns } } n := by
  rw [fragment_subtitle (s := putTrack s p.track k n) hk, if_pos hf, putTrack_endAssembly_none k n h ha, startSubtitle_refused h hg]

/-- Settles O36: the grant, the size, then the checks of completion. -/
theorem subtitleParcelAdmission : Obligations.SubtitleParcelAdmission := by
  intro bytes p a need b i f k s hr hq hk hu hb hi hk' hf
  have hl := hr.lt_length
  have hu' : (p.first = true ∧ k.assembly = none ∧ a = ⟨p.frame, p.eye, [], 2, false⟩ ∧ need = 2) ∨
      (p.first = false ∧ k.assembly = some a ∧ a.damaged = false ∧ a.frame = p.frame ∧ a.cells = 2 ∧ need = 0) := hk' ▸ hu
  have hd : a.damaged = false := by rcases hu with ⟨_, _, rfl, _⟩ | ⟨_, _, h, _⟩ <;> [rfl; exact h]
  have hc : a.cells = 2 := by rcases hu with ⟨_, _, rfl, _⟩ | ⟨_, _, _, _, h, _⟩ <;> [rfl; exact h]
  have hfr : a.frame = p.frame := by rcases hu with ⟨_, _, rfl, _⟩ | ⟨_, _, _, h, _⟩ <;> [rfl; exact h]
  have hi' : i.track = p.track := by rw [hi]; rfl
  have taken := putTrack_fragment_subtitle (s := hunting s) (n := s.freeCells) hl hk hu'
  have eqn := putTrack_takeSubtitle (s := hunting s) (n := s.freeCells - need) (p := p)
    (k := { k with assembly := some a, cellsHeld := k.cellsHeld + need }) hl rfl hd
  rw [hr.exec, ← hk']
  refine ⟨_, rfl, ?_, fun h2 hg => ?_, fun hg => ?_⟩
  · rw [State.arbitrate_link]
    by_cases hg : need = 0 ∨ (2 ≤ s.freeCells ∧ k.cellsHeld + 2 ≤ (s.trackEntry p.track).quota)
    · rw [taken hg]
      exact takeSubtitle_link hl rfl hd
    · rcases hu' with ⟨h1, hn, _⟩ | ⟨_, _, _, _, _, h0⟩
      · rw [putTrack_fragment_refused hl hk h1 hn fun c => hg (.inr c), putTrack_link, State.raise_link]
        rfl
      · exact absurd (.inl h0) hg
  · rcases hu' with ⟨h1, hn, rfl, _⟩ | ⟨_, _, _, _, _, h0⟩
    · rw [putTrack_fragment_refused (n := s.freeCells) hl hk h1 hn fun c => by
        have : k.cellsHeld + 2 ≤ (s.trackEntry p.track).quota := c.2
        omega]
      refine ⟨State.arbitrate_freeCells _, ?_, ?_, ?_⟩
      · rw [State.arbitrate_sub, putTrack_sub, State.raise_sub]; rfl
      · rw [State.arbitrate_flags', putTrack_mgmt, State.raise_flags, flagSet_withFlag]; simp
      · rw [State.arbitrate_track, putTrack_track _ _ (by simpa using hl)]
        rfl
    · omega
  · rw [taken hg, eqn, ← hb, hc]
    refine ⟨fun hz => ?_, fun hz hlast => ?_, fun hz hlast hw => ?_, fun hlast hw ho => ?_, fun hlast hw ho => ?_⟩
    · rw [if_pos hz, hq.arbitrate (by rfl)]
      exact ⟨rfl, rfl, rfl, putTrack_track _ _ hl⟩
    · rw [if_neg (Nat.not_lt.mpr hz), hlast, if_neg (by simp), hq.arbitrate (by rfl)]
      exact ⟨rfl, rfl, rfl, putTrack_track _ _ hl⟩
    · rw [if_neg (Nat.not_lt.mpr hz), hlast]
      dsimp only
      rw [if_pos rfl, putTrack_completeSubtitle hl, if_pos hw, hq.arbitrate (by rfl)]
      exact ⟨rfl, rfl, rfl, putTrack_track _ _ hl⟩
    · have stale : ∃ m ∈ k.lastFrame, a.frame ≤ m := hfr ▸ ho
      rw [if_neg (Nat.not_lt.mpr (itemWellFormed_length hw)), hlast]
      dsimp only
      rw [if_pos rfl, putTrack_completeSubtitle hl, if_neg (by simp [hw])]
      dsimp only
      rw [if_pos stale, hq.arbitrate (by rfl)]
      exact ⟨rfl, rfl, rfl, putTrack_track _ _ hl⟩
    · have fresh : ¬ ∃ m ∈ k.lastFrame, a.frame ≤ m := fun ⟨m, hm, hle⟩ => absurd (hfr ▸ hle) (Nat.not_le.mpr (ho m hm))
      rw [if_neg (Nat.not_lt.mpr (itemWellFormed_length hw)), hlast]
      dsimp only
      rw [if_pos rfl, putTrack_completeSubtitle hl, if_neg (by simp [hw])]
      dsimp only
      have now : (hunting s).itemFrame p.track = f := hf.symm
      rw [if_neg fresh, ← hi, hfr]
      refine ⟨?_, fun stale => ?_, fun due full => ?_, fun due room sorted => ?_⟩
      · rw [State.arbitrate_track]
        exact offerItem_track hl hi'
      · rw [putTrack_offerItem _ _ hl hi', now, if_pos stale, hq.arbitrate (by rfl)]
        exact ⟨rfl, rfl, by rw [putTrack_track _ _ (by exact hl)]⟩
      · rw [putTrack_offerItem _ _ hl hi', now, if_neg (Nat.not_le.mpr due),
          if_neg (show ¬ (hunting s).sub.schedule.length < 96 from Nat.not_lt.mpr full)]
        refine ⟨?_, State.arbitrate_freeCells _, ?_, ?_⟩
        · rw [State.arbitrate_sub, putTrack_sub, State.raise_sub]; rfl
        · rw [State.arbitrate_track, putTrack_track _ _ (by simpa using hl)]
        · rw [State.arbitrate_flags', putTrack_mgmt, State.raise_flags, flagSet_withFlag]; simp
      · rw [putTrack_offerItem _ _ hl hi', now, if_neg (Nat.not_le.mpr due),
          if_pos (show (hunting s).sub.schedule.length < 96 from room), hq.arbitrate (by rfl),
          show (hunting s).sub.schedule = s.sub.schedule from rfl,
          insertItem_eq i sorted]
        exact ⟨rfl, rfl, by rw [putTrack_track _ _ (by exact hl)]⟩

end Sys2Proof.Safety
end

-- ==== parcels: picture fragments ====
section
/-! PROOFS. Picture cut-through: the window test, forwarding, continuation and completion (R23, R24). -/

namespace Sys2Proof.Safety

open Sys2Proof.Machine

theorem fragment_picture {s : State} {p : Parcel} (h : (s.trackEntry p.track).kind = .picture) :
    s.fragment p = if p.first then s.firstPicture p.track p else s.continuePicture p.track p := by
  unfold State.fragment
  dsimp only
  rw [h]

/-- Setting an entry twice leaves the later value. -/
theorem Window.set_set (w : Window) (e : Eye) (f : Nat) (a b : Arrival) : (w.set e f a).set e f b = w.set e f b := by
  cases e <;> simp [Window.set]

theorem harmed_setCounters (k : Track) (c : Counters) :
    harmed { k with counters := c } = { harmed k with counters := c } := by
  rcases calm_or_intact k with h | ⟨a, ha, hd⟩
  · rw [(harmed_of_damaged h).2.1, (harmed_of_damaged (k := { k with counters := c }) h).2.1]
  · rw [(harmed_of_intact ha hd).2.1, (harmed_of_intact (k := { k with counters := c }) ha hd).2.1]
    rfl

/-- The counters after a late or early fragment (R23). -/
def lostCounters (c : Counters) (late : Bool) : Counters :=
  if late then { c with pictureLate := more c.pictureLate } else { c with pictureEarly := more c.pictureEarly }

/-- A continuation that is dropped, with harm that no counter shows. -/
theorem putTrack_differing_uncounted {s : State} {t : Nat} (k : Track) (n : Nat) (h : t < s.tracks.length) (last : Bool) :
    (putTrack s t k n).differing t last State.damage = putTrack s t { harmed k with
      assembly := if last then none else (harmed k).assembly
      counters := { k.counters with dropped := more k.counters.dropped } } (n + harmCells k) := by
  unfold State.differing
  rw [putTrack_assembly k n h]
  cases c : k.assembly with
  | none =>
    obtain ⟨_, e, e'⟩ := harmed_of_damaged (k := k) fun a ha => by rw [c] at ha; cases ha
    dsimp only
    rw [putTrack_countDropped _ _ h, e, e', c, ite_self]
    rfl
  | some a =>
    dsimp only
    rw [putTrack_damage k n h, putTrack_countDropped _ _ h, putTrack_leaveIfLast _ _ h, harmed_counters]

section
variable {s : State} {t : Nat} (k : Track) (n : Nat) (h : t < s.tracks.length)
include h

theorem putTrack_pictureLost (late : Bool) : (putTrack s t k n).pictureLost t late =
    putTrack (s.raise .pictureLoss) t { k with counters := lostCounters k.counters late } n := by
  rw [State.pictureLost, putTrack_count k n h, putTrack_raise]
  rfl

theorem putTrack_completePicture (p : Parcel) : (putTrack s t k n).completePicture t p =
    if p.last then putTrack s t { k with
      assembly := none
      window := k.window.map fun w => w.set p.eye p.frame .complete
      counters := { k.counters with delivered := more k.counters.delivered } } n
    else putTrack s t k n := by
  rw [State.completePicture, putTrack_updWindow k n h, putTrack_countDelivered _ _ h, putTrack_setAssembly _ _ h]

variable {k n} {p : Parcel} {w : Window}

/-- A first picture fragment with no intact unit in assembly (R14, R23, R24). -/
theorem putTrack_firstPicture (hw : k.window = some w) (calm : ∀ a, k.assembly = some a → a.damaged = true) :
    (putTrack s t k n).firstPicture t p =
      if w.covers p.frame then
        if w.entry p.eye p.frame = .complete then putTrack s t { k with
          assembly := none
          counters := { k.counters with outOfOrder := more k.counters.outOfOrder } } n
        else (putTrack (s.forward p) t { k with
          assembly := some (newAssembly p)
          window := some (w.set p.eye p.frame .inProgress) } n).completePicture t p
      else putTrack (s.raise .pictureLoss) t { k with
        assembly := none
        counters := lostCounters k.counters (decide (p.frame < w.base)) } n := by
  obtain ⟨e1, _, e2⟩ := harmed_of_damaged calm
  rw [State.firstPicture, putTrack_endAssembly k n h, e1, e2]
  dsimp only
  rw [putTrack_track _ _ h]
  dsimp only
  rw [hw]
  dsimp only
  rw [putTrack_countOutOfOrder _ _ h, putTrack_updWindow _ _ h, putTrack_setAssembly _ _ h, putTrack_pictureLost _ _ h]
  rfl

/-- A continuation that matches its intact unit inside the window (R24). -/
theorem putTrack_continuePicture {a : Assembly} (hw : k.window = some w) (hc : w.covers p.frame = true) (ha : k.assembly = some a)
    (hd : a.damaged = false) (hf : a.frame = p.frame) (he : a.eye = p.eye) :
    (putTrack s t k n).continuePicture t p = (putTrack (s.forward p) t k n).completePicture t p := by
  rw [State.continuePicture, putTrack_track k n h, putTrack_assembly k n h, hw]
  dsimp only
  rw [if_pos hc, ha]
  dsimp only
  rw [if_neg (by simp [hd, hf, he])]
  rfl

/-- A continuation outside the window is counted and dropped; it harms an intact unit without counting it as damaged (R23). -/
theorem putTrack_continuePicture_lost {k' : Track} (hw : k.window = some w) (hc : w.covers p.frame = false)
    (hk : k' = { k with counters := { lostCounters k.counters (decide (p.frame < w.base)) with
      dropped := more k.counters.dropped } }) :
    (putTrack s t k n).continuePicture t p = putTrack (s.raise .pictureLoss) t
      { harmed k' with assembly := if p.last then none else (harmed k').assembly } (n + harmCells k') := by
  have hl : t < (s.raise .pictureLoss).tracks.length := by simpa using h
  have after : harmed k' = { harmed k with counters := { lostCounters k.counters (decide (p.frame < w.base)) with
      dropped := more k.counters.dropped } } := by rw [hk, harmed_setCounters]
  have cells : harmCells k' = harmCells k := by rw [hk]; rfl
  have dropped : (lostCounters k.counters (decide (p.frame < w.base))).dropped = k.counters.dropped := by
    unfold lostCounters; split <;> rfl
  rw [State.continuePicture, putTrack_track k n h, hw]
  dsimp only
  rw [if_neg (by simp [hc]), putTrack_pictureLost k n h, putTrack_differing_uncounted _ _ hl, harmed_setCounters k, after]
  dsimp only
  rw [dropped, cells]
  rfl

end

/-- A forwarded fragment: its record, and the entry or the unit it leaves (R24). -/
theorem forwarded_effects {s : State} {p : Parcel} {k : Track} {n : Nat} {w : Window} (hl : p.track < (hunting s).tracks.length)
    (hq : QueuesOk s) (hw : k.window = some w) :
    let t := ((putTrack ((hunting s).forward p) p.track k n).completePicture p.track p).arbitrate
    t.link = s.link ++ [.picture p.track p.first p.last p.eye p.frame p.payload] ∧ t.mgmt = s.mgmt ∧
      (p.last = false → t.track p.track = k) ∧
      (p.last = true → t.track p.track = { k with
        assembly := none
        window := some (w.set p.eye p.frame .complete)
        counters := { k.counters with delivered := more k.counters.delivered } }) := by
  dsimp only
  rw [putTrack_completePicture _ _ (by exact hl)]
  cases hlast : p.last with
  | false =>
    rw [if_neg (by simp), hq.arbitrate (by rfl)]
    exact ⟨by rw [← hlast]; rfl, rfl, fun _ => putTrack_track _ _ (by exact hl), fun c => by cases c⟩
  | true =>
    rw [if_pos rfl, hq.arbitrate (by rfl), hw]
    exact ⟨by rw [← hlast]; rfl, rfl, fun c => (by cases c), fun _ => putTrack_track _ _ (by exact hl)⟩

/-- Settles O35: the window test, then the entry or the unit in assembly. -/
theorem pictureParcelForwarding : Obligations.PictureParcelForwarding := by
  intro bytes p w s hr hq hk hw
  have hl := hr.lt_length
  have hw' : (sequenced (s.track p.track) p).window = some w := hw
  rw [hr.exec, fragment_picture (s := putTrack (hunting s) _ _ _) hk]
  refine ⟨_, rfl, fun hf hi => ?_, fun a hf ha hd hfr he h1 h2 => ?_, fun k k' hf out hk1 hk2 => ?_⟩
  · have calm : ∀ a, (sequenced (s.track p.track) p).assembly = some a → a.damaged = true := fun a ha => by
      rw [State.intact, show s.assembly p.track = some a from ha] at hi
      simpa using hi
    rw [if_pos hf, putTrack_firstPicture hl hw' calm]
    refine ⟨fun late => ?_, fun early => ?_, fun h1 h2 hc => ?_, fun h1 h2 hc => ?_⟩
    · rw [if_neg (fun c => by have := (covers_iff w _).mp c; omega)]
      refine ⟨?_, ?_, ?_⟩
      · rw [State.arbitrate_link, putTrack_link, State.raise_link]; rfl
      · rw [State.arbitrate_flags', putTrack_mgmt, State.raise_flags, flagSet_withFlag]; simp
      · rw [State.arbitrate_track, putTrack_track _ _ (by simpa using hl), decide_eq_true late]
        rfl
    · rw [if_neg (fun c => by have := (covers_iff w _).mp c; omega)]
      refine ⟨?_, ?_, ?_⟩
      · rw [State.arbitrate_link, putTrack_link, State.raise_link]; rfl
      · rw [State.arbitrate_flags', putTrack_mgmt, State.raise_flags, flagSet_withFlag]; simp
      · rw [State.arbitrate_track, putTrack_track _ _ (by simpa using hl), decide_eq_false (by omega)]
        rfl
    · rw [if_pos ((covers_iff w _).mpr ⟨h1, h2⟩), if_pos hc]
      exact ⟨by rw [State.arbitrate_link]; rfl, by rw [State.arbitrate_track, putTrack_track _ _ hl]; rfl⟩
    · rw [if_pos ((covers_iff w _).mpr ⟨h1, h2⟩), if_neg hc]
      obtain ⟨e1, e2, e3, e4⟩ := forwarded_effects (p := p) (n := s.freeCells) hl hq
        (k := { sequenced (s.track p.track) p with
          assembly := some (newAssembly p)
          window := some (w.set p.eye p.frame .inProgress) }) rfl
      refine ⟨e1, e2, e3, fun hlast => (e4 hlast).trans ?_⟩
      rw [Window.set_set]
      rfl
  · rw [if_neg (by simp [hf]),
      putTrack_continuePicture (s := hunting s) hl hw' ((covers_iff w _).mpr ⟨h1, h2⟩) ha hd hfr he]
    exact forwarded_effects hl hq hw'
  · have outside : w.covers p.frame = false := by
      rw [← Bool.not_eq_true, covers_iff]
      omega
    have hk' : k' = { sequenced (s.track p.track) p with counters :=
        { lostCounters (sequenced (s.track p.track) p).counters (decide (p.frame < w.base)) with
          dropped := more (sequenced (s.track p.track) p).counters.dropped } } := by
      rw [hk2, hk1]
      by_cases late : p.frame < w.base
      · rw [decide_eq_true late, if_pos late, if_pos late]; rfl
      · rw [decide_eq_false late, if_neg late, if_neg late]; rfl
    have unit : k'.assembly = s.assembly p.track := by rw [hk2, hk1]; rfl
    rw [if_neg (by simp [hf]), putTrack_continuePicture_lost (s := hunting s) hl hw' outside hk']
    rw [State.arbitrate_link, putTrack_link, State.raise_link, State.arbitrate_flags', putTrack_mgmt, State.raise_flags,
      flagSet_withFlag, State.arbitrate_freeCells, putTrack_freeCells, State.arbitrate_track,
      putTrack_track _ _ (by simpa using hl)]
    refine ⟨rfl, by simp, fun hn => ?_, fun a ha => ⟨fun hd => ?_, fun hd => ?_⟩⟩
    · obtain ⟨_, e1, e2⟩ := harmed_of_damaged (k := k') fun a c => by rw [unit, hn] at c; cases c
      rw [e1, e2, unit, hn, ite_self, ← hn, ← unit]
      exact ⟨rfl, rfl⟩
    · obtain ⟨_, e1, e2⟩ := harmed_of_damaged (k := k') fun b c => by rw [unit, ha] at c; cases c; exact hd
      rw [e1, e2, unit, ha]
      exact ⟨rfl, rfl⟩
    · obtain ⟨_, e1, e2⟩ := harmed_of_intact (unit.trans ha) hd
      rw [e1, e2]
      exact ⟨rfl, rfl⟩

end Sys2Proof.Safety
end

-- ==== reports: replies, flow and event parcels ====
section
/-! PROOFS. What the end of an event or of a request leaves in the management block: the report of a change of show state (R33,
R181), the reply, and the arbiter's look at the lane (R182, R183). -/

namespace Sys2Proof.Safety

open Sys2Proof.Machine

/-! ### Parcels with the present values -/

/-- The values of a FLOW parcel are none of the management block's. -/
theorem flowOf_of_mgmt {s t : State} (h : t = { s with mgmt := t.mgmt }) : flowOf t = flowOf s := by
  rw [h]; rfl

/-! ### The reply of a request -/

theorem answered_eq (u : State) (p : Bytes) : answered u p = { u with mgmt := (answered u p).mgmt } := by
  rw [answered, State.arbitrate_eq]
  rfl

/-- A reply waits, so the arbiter leaves the EVENT where it is. -/
theorem answered_eventSlot (u : State) (p : Bytes) : (answered u p).mgmt.eventSlot = u.mgmt.eventSlot := by
  unfold answered State.arbitrate
  split
  · rfl
  · have some : ((u.mgmt.slots ++ [(⟨.reply, p⟩ : UpParcel)]).find? fun q => q.kind == .reply).isSome = true := by simp
    obtain ⟨q, hq⟩ := Option.isSome_iff_exists.mp some
    rw [State.queueReply_mgmt, Mgmt.choose]
    dsimp only
    rw [hq]

section
variable (u : State) (p : Bytes)

@[simp] theorem answered_flags : (answered u p).mgmt.flags = u.mgmt.flags := by simp [answered]
@[simp] theorem answered_enables : (answered u p).mgmt.enables = u.mgmt.enables := by simp [answered]
@[simp] theorem answered_flowCount : (answered u p).mgmt.flowCount = u.mgmt.flowCount := by simp [answered]
@[simp] theorem answered_requests : (answered u p).mgmt.requests = u.mgmt.requests := by simp [answered]

end

/-- A busy lane stays, and the reply joins the slots. -/
theorem answered_sending {u : State} (p : Bytes) (h : u.mgmt.lane ≠ none) :
    (answered u p).mgmt.lane = u.mgmt.lane ∧ (answered u p).mgmt.slots = u.mgmt.slots ++ [⟨.reply, p⟩] := by
  obtain ⟨q, hq⟩ := Option.ne_none_iff_exists'.mp h
  have e : answered u p = u.queueReply p := by
    unfold answered State.arbitrate
    rw [State.queueReply_mgmt, hq]
  rw [e]
  exact ⟨rfl, rfl⟩

/-- An IDLE lane with no REPLY before this one takes it. -/
theorem answered_idle {u : State} (p : Bytes) (h : u.mgmt.lane = none) (hs : ∀ q ∈ u.mgmt.slots, q.kind ≠ .reply) :
    (answered u p).mgmt.lane = some ⟨.reply, p⟩ ∧ (answered u p).mgmt.slots = u.mgmt.slots := by
  have none_before : ∀ q ∈ u.mgmt.slots, ¬ (q.kind == .reply) = true := fun q hq => by simpa using hs q hq
  have find : (u.mgmt.slots ++ [(⟨.reply, p⟩ : UpParcel)]).find? (fun q => q.kind == .reply) = some ⟨.reply, p⟩ := by
    rw [List.find?_append, List.find?_eq_none.mpr none_before]; rfl
  have erase : (u.mgmt.slots ++ [(⟨.reply, p⟩ : UpParcel)]).eraseP (fun q => q.kind == .reply) = u.mgmt.slots := by
    rw [List.eraseP_append_right _ none_before]
    simp
  unfold answered State.arbitrate
  rw [State.queueReply_mgmt, h, Mgmt.choose]
  dsimp only
  rw [find, erase]
  exact ⟨rfl, rfl⟩

/-- A request whose effects left the lane and the slots alone, but for one FLOW report where `flow` says so. -/
theorem ReplyQueued.of_answered {s u : State} {flow : Bool} {p : Bytes} (hl : u.mgmt.lane = s.mgmt.lane)
    (hs : u.mgmt.slots = s.mgmt.slots ++
      if flow = true ∧ s.mgmt.slots.length + 1 < Config.replyFlowSlots then [flowOf u] else []) :
    ReplyQueued s (answered u p) flow p := by
  have hf : flowOf (answered u p) = flowOf u := flowOf_of_mgmt (answered_eq u p)
  refine ⟨fun busy => ?_, fun idle empty => ?_⟩
  · obtain ⟨e1, e2⟩ := answered_sending p (hl ▸ busy)
    rw [e1, e2, hl, hs, hf]
    exact ⟨rfl, rfl⟩
  · have flows : u.mgmt.slots = if flow = true then [flowOf u] else [] := by
      rw [hs, empty, List.nil_append]
      exact if_congr (by simp [Config.replyFlowSlots]) rfl rfl
    obtain ⟨e1, e2⟩ := answered_idle (u := u) p (hl.trans idle) fun q hq => by
      rw [flows] at hq
      split at hq
      · rw [List.mem_singleton.mp hq, flowOf_eq]; exact fun c => nomatch c
      · cases hq
    rw [e1, e2, flows, hf]
    exact ⟨rfl, rfl⟩

/-! ### The report of a change of show state -/

/-- The event slot after a flag has been raised: an EVENT with the present values where the flag was clear and enabled (R180). -/
theorem raise_eventSlot (s : State) (f : Flag) : (s.raise f).mgmt.eventSlot =
    if flagSet s.mgmt.flags f = false ∧ flagSet s.mgmt.enables f = true then some (eventOf (s.raise f)) else s.mgmt.eventSlot := by
  have flags := State.raise_flags s f
  have enables := State.raise_enables' s f
  have cue := State.raise_cue s f
  have acct := State.raise_acct s f
  rw [eventOf, flags, enables, cue, acct]
  unfold State.raise
  cases hf : flagSet s.mgmt.flags f with
  | true => simp
  | false =>
    cases he : flagSet s.mgmt.enables f with
    | true => rfl
    | false => rfl

section
variable {w : State} {q : ShowState} (h : w.seq.state ≠ q)
include h

/-- A change of show state raises SHOW_STATE and makes a FLOW report. -/
theorem reportChange_changed : w.reportChange q = (w.raise .showState).flowReport := by rw [State.reportChange, if_neg h]

theorem reportChange_lane : (w.reportChange q).mgmt.lane = w.mgmt.lane := by
  rw [reportChange_changed h]
  exact State.raise_lane' w .showState

theorem reportChange_slots : (w.reportChange q).mgmt.slots = w.mgmt.slots ++
    if w.mgmt.slotsTaken < Config.replyFlowSlots then [flowOf w] else [] := by
  have taken : (w.raise .showState).mgmt.slotsTaken = w.mgmt.slotsTaken := by
    rw [Mgmt.slotsTaken, State.raise_slots', State.raise_reserved', Mgmt.slotsTaken]
  have flow : flowOf (w.raise .showState) = flowOf w := flowOf_of_mgmt (State.raise_eq w .showState)
  rw [reportChange_changed h, State.flowReport]
  dsimp only
  rw [taken, State.raise_slots', ← flowOf_eq, flow]
  split
  · rfl
  · rw [List.append_nil]

theorem reportChange_flowCount : (w.reportChange q).mgmt.flowCount = 0 := by rw [reportChange_changed h]; rfl

theorem reportChange_requests : (w.reportChange q).mgmt.requests = w.mgmt.requests := by
  rw [reportChange_changed h]
  exact State.raise_requests' w .showState

theorem reportChange_enables : (w.reportChange q).mgmt.enables = w.mgmt.enables := by
  rw [reportChange_changed h]
  exact State.raise_enables' w .showState

theorem reportChange_eventSlot : (w.reportChange q).mgmt.eventSlot =
    if flagSet w.mgmt.flags .showState = false ∧ flagSet w.mgmt.enables .showState = true then some (eventOf (w.reportChange q))
    else w.mgmt.eventSlot := by
  rw [reportChange_changed h]
  exact raise_eventSlot w .showState

/-- A request whose effects leave the management block alone and change the show state (R33, R180, R181). -/
theorem ChangeReported.of_perform {s : State} (hs : TakesRequest s) (hm : w.mgmt = (s.setReserved true).mgmt) (p : Bytes) :
    ChangeReported s (answered (w.reportChange q) p) p := by
  have room : w.mgmt.slotsTaken = s.mgmt.slots.length + 1 := by rw [hm]; rfl
  have flow : flowOf (w.reportChange q) = flowOf w := flowOf_of_mgmt (State.reportChange_eq w q)
  have event : eventOf (answered (w.reportChange q) p) = eventOf (w.reportChange q) := by
    rw [eventOf, eventOf, answered_flags, answered_enables, answered_eq]
  refine ⟨?_, ?_, ?_, ?_, ?_, .of_answered ?_ ?_, replied_answered _ p⟩
  · rw [answered_flags, State.reportChange_flags, if_neg h, hm]; rfl
  · rw [answered_enables, reportChange_enables h, hm]; rfl
  · rw [answered_eventSlot, reportChange_eventSlot h, event, hm]; rfl
  · rw [answered_flowCount, reportChange_flowCount h]
  · rw [answered_requests, reportChange_requests h, hm]; exact hs.2.1
  · rw [reportChange_lane h, hm]; rfl
  · rw [reportChange_slots h, room, flow, hm]; simp

end

/-! ### Events that are no requests -/

/-- An EVENT report is made by raising a clear flag that is enabled. -/
theorem eventMade_iff {s t : State} {f : Flag} (h : t.mgmt.flags = withFlag s.mgmt.flags f) :
    EventMade s t ↔ flagSet s.mgmt.flags f = false ∧ flagSet s.mgmt.enables f = true := by
  constructor
  · rintro ⟨g, he, hc, hs⟩
    rw [h, flagSet_withFlag, hc, Bool.false_or, decide_eq_true_eq] at hs
    subst hs
    exact ⟨hc, he⟩
  · rintro ⟨hc, he⟩
    exact ⟨f, he, hc, by simp [h]⟩

/-- An event whose work leaves the management block alone and changes the show state (R33, R181). -/
theorem StateReported.of_event {s : State} {work : State → State} (hm : (work s).mgmt = s.mgmt)
    (h : (work s).seq.state ≠ s.seq.state) : StateReported s (event work s) := by
  have flags : (event work s).mgmt.flags = withFlag s.mgmt.flags .showState := by rw [event_flags, if_neg h, hm]
  have flow : flowOf (event work s) = flowOf (work s) :=
    (flowOf_of_mgmt (State.arbitrate_eq _)).trans (flowOf_of_mgmt (State.reportChange_eq _ _))
  have slots := reportChange_slots h
  have lane := reportChange_lane h
  have slot := reportChange_eventSlot h
  rw [hm] at slots lane slot
  refine ⟨flags, ?_, ?_, ⟨fun busy => ?_, fun idle empty quiet free => ?_⟩, ?_⟩
  · rw [event, State.arbitrate_enables', reportChange_enables h, hm]
  · rw [event, State.arbitrate_flowCount', reportChange_flowCount h]
  · rw [eventMade_iff flags, flow]
    have same : event work s = (work s).reportChange s.seq.state := by
      rw [event, State.arbitrate_of_idle fun c => absurd (lane.symm.trans c) busy]
    rw [same, slot]
    refine ⟨lane, slots, fun made => ?_, fun not => ?_⟩
    · rw [if_pos made]; simp
    · rw [if_neg not]
  · have one : ((work s).reportChange s.seq.state).mgmt.slots = [flowOf (work s)] := by
      rw [slots, empty, List.nil_append, if_pos]
      simp [Mgmt.slotsTaken, empty, free, Config.replyFlowSlots]
    rw [eventMade_iff flags, flow, event, State.arbitrate, lane, idle]
    dsimp only
    rw [Mgmt.choose, one, slot, List.find?_eq_none.mpr fun x hx => by rw [List.mem_singleton.mp hx]; simp [flowOf_eq]]
    dsimp only
    by_cases made : flagSet s.mgmt.flags .showState = false ∧ flagSet s.mgmt.enables .showState = true
    · rw [if_pos made]
      exact ⟨rfl, fun _ => ⟨⟨_, rfl⟩, rfl⟩, fun not => absurd made not⟩
    · rw [if_neg made, quiet]
      exact ⟨rfl, fun c => absurd c made, fun _ => ⟨rfl, rfl⟩⟩
  · rw [event, State.arbitrate_requests', reportChange_requests h, hm]

end Sys2Proof.Safety
end

-- ==== stops: the show stops, is cleared, or times out ====
section
/-! PROOFS. The effects of STOP (R51), by a request or by a timeout (R40, R47), and of CLEAR (R54). -/

namespace Sys2Proof.Safety

open Sys2Proof.Machine

/-! ### The tracks leave -/

theorem RegionsCleared.congr {s u : State} {gone clears : List Nat} (h : RegionsCleared s gone clears) (hs : s.sub = u.sub) :
    RegionsCleared u gone clears := by
  have region : ∀ r, s.region r = u.region r := fun r => by rw [State.region, hs]; rfl
  exact ⟨h.once, fun r => by rw [h.held, region], fun k => by simpa only [region] using h.order k⟩

/-- The tracks leave alike from two states that agree in what decides it. -/
theorem TracksLeave.congr {s u t : State} {after : List LinkRecord} (h : TracksLeave s t after) (e : leaving s = leaving u)
    (hk : s.tracks = u.tracks) (hs : s.sub = u.sub) (hl : s.link = u.link) : TracksLeave u t after := by
  obtain ⟨clears, rc, link⟩ := h.link
  refine ⟨?_, ?_, ?_, ?_, ?_, clears, ?_, ?_⟩
  · simpa only [e, State.track_congr hk] using h.emptied
  · simpa only [e, State.track_congr hk] using h.kept
  · simpa only [e, hs] using h.schedule
  · simpa only [e, State.region, hs] using h.regions
  · simpa only [hs] using h.counts
  · exact e ▸ rc.congr hs
  · rw [link, hl]

/-- The tracks that leave and then the records of `after`. -/
theorem tracksLeave_of_unscheduled {s v u : State} {after : List LinkRecord} (h : Unscheduled (leaving s) s v)
    (ht : u.tracks = v.tracks) (hs : u.sub = v.sub) (hl : u.link = v.link ++ after) : TracksLeave s u after := by
  have track := State.track_congr ht
  obtain ⟨clears, rc, e⟩ := h.link
  refine ⟨fun k hk => (track k).trans (h.emptied k hk), fun k hk => (track k).trans (h.kept k hk), ?_, fun r hr => ?_, ?_,
    clears, rc, by rw [hl, e]⟩
  · rw [hs, h.schedule]
  · rw [State.region, hs]; exact h.regions r hr
  · rw [hs, ← h.counts]

/-- The effects of STOP (R51). -/
theorem enterStopped_stopped (s : State) (reason : StopReason) : Stopped s (s.enterStopped reason) reason := by
  have sp := State.unscheduleAll_spec s.closeRecord
  unfold State.enterStopped
  generalize s.closeRecord.unscheduleAll = v at sp ⊢
  have same : ∀ {α : Type} (f : State → α), f v = f { s.closeRecord with
      tracks := v.tracks, freeCells := v.freeCells, sub := v.sub, link := v.link } := fun f => congrArg f sp.rest
  refine ⟨?_, same State.acct, TracksLeave.congr (tracksLeave_of_unscheduled sp rfl rfl rfl) rfl rfl rfl rfl,
    ?_, ?_, rfl, same State.tables, same State.port,
    same State.snd, same State.booth, same State.inReset, same State.pending⟩
  · exact congrArg (fun q : Sequencer => { q with
      state := .stopped, reason := reason, prerollTimer := none, stallTimer := none }) (same State.seq)
  · exact congrArg (fun c : Clock => { c with period := s.idlePeriod }) (same State.clk)
  · exact congrArg (fun c : CueEngine => { c with cursor := none }) (same State.cue)

theorem enterStopped_mgmt (s : State) (reason : StopReason) : (s.enterStopped reason).mgmt = s.mgmt := by
  have sp := State.unscheduleAll_spec s.closeRecord
  unfold State.enterStopped
  generalize s.closeRecord.unscheduleAll = v at sp ⊢
  have e : v.mgmt = _ := congrArg State.mgmt sp.rest
  exact e

/-- What is reported afterwards is no part of the stop. -/
theorem Stopped.of_mgmt {s w t : State} {reason : StopReason} (h : Stopped s w reason) (ht : t = { w with mgmt := t.mgmt }) :
    Stopped s t reason := by
  obtain ⟨emptied, kept, schedule, regions, counts, link⟩ := h.tracks
  rw [ht]
  exact ⟨h.seq, h.acct, ⟨emptied, kept, schedule, regions, counts, link⟩, h.clock, h.cue, h.repeats, h.rest⟩

/-- A stop is the same from a state that differs in its management block or its timers. -/
theorem Stopped.of_reserved {s w : State} {reason : StopReason} (h : Stopped (s.setReserved true) w reason) :
    Stopped s w reason := by
  exact ⟨h.seq, h.acct, h.tracks.congr rfl rfl rfl rfl, h.clock, h.cue, h.repeats, h.rest⟩

theorem Stopped.of_timers {s w : State} {reason : StopReason} {a b : Option Nat}
    (h : Stopped { s with seq := { s.seq with prerollTimer := a, stallTimer := b } } w reason) : Stopped s w reason :=
  ⟨h.seq, h.acct, h.tracks.congr rfl rfl rfl rfl, h.clock, h.cue, h.repeats, h.rest⟩

/-! ### Show commands as requests -/

/-- A show command that is accepted: its effects, the report, and its DONE reply. -/
theorem showCommand_taken {s w : State} {tag : Byte} {c : ShowCommand} (h : TakesRequest s)
    (hw : (s.setReserved true).showCommand c = some w) :
    exec (showInstr tag c) s = .next (answered (w.reportChange s.seq.state)
      [0x03, tag, 0x00, w.seq.state.code, boolByte w.booth.latch, 0x00]) := by
  have row : requestOf (showInstr tag c) = some (.showCommand tag c) := by cases c <;> rfl
  rw [exec_request row, request_taken h, State.execRequest, State.perform, hw]
  rfl

theorem answered_report_eq (w : State) (q : ShowState) (p : Bytes) : answered (w.reportChange q) p =
    { w with mgmt := (answered (w.reportChange q) p).mgmt } := by
  rw [answered_eq, State.reportChange_eq]

/-- Settles O11. -/
theorem stopEndsShow : Obligations.StopEndsShow := by
  intro tag s h ha
  have stopped := enterStopped_stopped (s.setReserved true) .command
  have changed : ((s.setReserved true).enterStopped .command).seq.state ≠ s.seq.state := fun c => by
    rw [← c, stopped.seq] at ha
    cases ha
  have latch : ((s.setReserved true).enterStopped .command).booth.latch = s.booth.latch :=
    congrArg Booth.latch stopped.rest.2.2.2.1
  have state : ((s.setReserved true).enterStopped .command).seq.state = .stopped := congrArg Sequencer.state stopped.seq
  refine ⟨_, showCommand_taken (c := .stop) h (if_pos ha), stopped.of_reserved.of_mgmt (answered_report_eq _ _ _), ?_⟩
  rw [latch, state]
  exact .of_perform changed h (enterStopped_mgmt _ _) _

/-- What CLEAR makes of the show (R54). -/
structure Cleared (s w : State) : Prop where
  seq     : w.seq = Sequencer.reset
  tracks  : TracksLeave s w []
  clock   : w.clk = { s.clk with period := s.idlePeriod }
  cue     : w.cue = { s.cue with cursor := none }
  repeats : w.repeats = 0
  rest    : w.tables = s.tables ∧ w.port = s.port ∧ w.snd = s.snd ∧ w.booth = s.booth ∧ w.acct = s.acct
  mgmt    : w.mgmt = s.mgmt

theorem clearShow_cleared {s : State} (h : s.seq.state = .armed ∨ s.seq.state = .ended ∨ s.seq.state = .stopped) :
    ∃ w, s.clearShow = some w ∧ Cleared s w := by
  have sp := State.unscheduleAll_spec s
  refine ⟨_, if_pos h, ?_⟩
  generalize s.unscheduleAll = v at sp ⊢
  have same : ∀ {α : Type} (f : State → α), f v = f { s with
      tracks := v.tracks, freeCells := v.freeCells, sub := v.sub, link := v.link } := fun f => congrArg f sp.rest
  refine ⟨rfl, tracksLeave_of_unscheduled sp rfl rfl (List.append_nil _).symm, ?_, ?_, rfl, ⟨same State.tables, same State.port,
    same State.snd, same State.booth, same State.acct⟩, same State.mgmt⟩
  · exact congrArg (fun c : Clock => { c with period := s.idlePeriod }) (same State.clk)
  · exact congrArg (fun c : CueEngine => { c with cursor := none }) (same State.cue)

/-- Settles O12. -/
theorem clearReturnsToIdle : Obligations.ClearReturnsToIdle := by
  intro tag s h hq
  obtain ⟨w, hw, cl⟩ := clearShow_cleared (s := s.setReserved true) hq
  obtain ⟨tables, port, snd, booth, acct⟩ := cl.rest
  have tracks := cl.tracks.congr (u := s) rfl rfl rfl rfl
  have idle : w.seq.state = .idle := congrArg Sequencer.state cl.seq
  have changed : w.seq.state ≠ s.seq.state := fun c => by
    rw [← c, idle] at hq
    rcases hq with hq | hq | hq <;> cases hq
  have latch : w.booth.latch = s.booth.latch := congrArg Booth.latch booth
  have reported := ChangeReported.of_perform changed h cl.mgmt
    [0x03, tag, 0x00, ShowState.idle.code, boolByte s.booth.latch, 0x00]
  have same := answered_report_eq w s.seq.state [0x03, tag, 0x00, ShowState.idle.code, boolByte s.booth.latch, 0x00]
  have taken := showCommand_taken (tag := tag) (c := .clear) h hw
  rw [idle, latch] at taken
  refine ⟨_, taken, ?_⟩
  generalize answered (w.reportChange s.seq.state) _ = t at same reported ⊢
  obtain ⟨emptied, kept, schedule, regions, counts, link⟩ := tracks
  rw [same] at reported ⊢
  exact ⟨cl.seq, ⟨emptied, kept, schedule, regions, counts, link⟩, cl.clock, cl.cue, cl.repeats, tables, port, snd, booth, acct,
    reported⟩

/-! ### Timeouts -/

/-- A timer that reaches its timeout stops the show, and the stop is reported (R33, R40, R47). -/
theorem stop_reported {s s' : State} {work : State → State} {reason : StopReason} (hw : work s = s'.enterStopped reason)
    (hm : s'.mgmt = s.mgmt) (hq : s.seq.state ≠ .stopped) :
    Stopped s' (event work s) reason ∧ StateReported s (event work s) := by
  have stopped := enterStopped_stopped s' reason
  rw [← hw] at stopped
  have state : (work s).seq.state = .stopped := congrArg Sequencer.state stopped.seq
  have same : event work s = { work s with mgmt := (event work s).mgmt } := by
    rw [event, State.arbitrate_eq, State.reportChange_eq]
  refine ⟨stopped.of_mgmt same, .of_event ?_ fun c => hq (c.symm.trans state)⟩
  rw [hw, enterStopped_mgmt, hm]

/-- The timer of PREROLL or STALLED counts a tick that brings it to no timeout (R40, R47). -/
theorem countTimers_running {s : State}
    (hp : s.seq.state = .preroll → s.seq.prerollTimer.getD 0 + 1 < s.tables.settings.prerollTimeout)
    (hs : s.seq.state = .stalled → s.seq.stallTimer.getD 0 + 1 < s.tables.settings.stallTimeout) :
    s.countTimers = { s with seq := { s.seq with
      prerollTimer := if s.seq.state = .preroll then some (s.seq.prerollTimer.getD 0 + 1) else s.seq.prerollTimer
      stallTimer := if s.seq.state = .stalled then some (s.seq.stallTimer.getD 0 + 1) else s.seq.stallTimer } } := by
  unfold State.countTimers
  cases hq : s.seq.state with
  | preroll =>
    dsimp only
    rw [if_neg (Nat.not_le.mpr (hp hq)), if_pos rfl, if_neg (by simp)]
    rfl
  | stalled =>
    dsimp only
    rw [if_neg (Nat.not_le.mpr (hs hq)), if_neg (by simp), if_pos rfl]
    rfl
  | idle => rfl
  | armed => rfl
  | playing => rfl
  | holding => rfl
  | ended => rfl
  | stopped => rfl

/-- The preroll timer reaches its timeout (R40). -/
theorem countTimers_preroll {s : State} (hq : s.seq.state = .preroll)
    (hn : s.tables.settings.prerollTimeout ≤ s.seq.prerollTimer.getD 0 + 1) : s.countTimers =
      { s with seq := { s.seq with prerollTimer := some (s.seq.prerollTimer.getD 0 + 1)
                                   stallTimer := s.seq.stallTimer } }.enterStopped
        .prerollTimeout := by
  unfold State.countTimers
  rw [hq]
  exact if_pos hn

/-- The stall timer reaches its timeout (R47). -/
theorem countTimers_stalled {s : State} (hq : s.seq.state = .stalled)
    (hn : s.tables.settings.stallTimeout ≤ s.seq.stallTimer.getD 0 + 1) : s.countTimers =
      { s with seq := { s.seq with prerollTimer := s.seq.prerollTimer
                                   stallTimer := some (s.seq.stallTimer.getD 0 + 1) } }.enterStopped
        .starved := by
  unfold State.countTimers
  rw [hq]
  exact if_pos hn

/-- Booth time counts a second and stays at its greatest value (R28). -/
theorem second_eq (c : Clock) : c.second =
    { c with booth := c.booth.map fun n => if n < 4294967295 then n + 1 else 4294967295, secDivider := 0 } := by
  have step : (fun n => min (n + 1) Config.max32) = fun n => if n < 4294967295 then n + 1 else 4294967295 := by
    funext n
    simp only [Config.max32]
    split <;> omega
  rw [Clock.second, step]

/-- Settles O7. -/
theorem secondTickAndTimeouts : Obligations.SecondTickAndTimeouts := by
  refine ⟨fun s hr hq hp hs => ?_, fun s hr => ⟨fun hp hn => ?_, fun hp hn => ?_, fun hp => ?_, fun hp => ?_⟩⟩
  · have timers := countTimers_running (s := { s with clk := s.clk.second }) hp hs
    have quiet : event State.secondTick s = State.secondTick s :=
      event_quiet (by rw [State.secondTick, timers]) (by rw [State.secondTick, timers]) hq.idle
    exact (run_running hr).trans (congrArg Host.Outcome.next (quiet.trans (timers.trans (by rw [second_eq]))))
  · obtain ⟨h1, h2⟩ := stop_reported (s := s) (work := State.secondTick) (reason := .prerollTimeout)
      (countTimers_preroll (s := { s with clk := s.clk.second }) hp hn) rfl (by rw [hp]; exact fun c => nomatch c)
    exact ⟨_, run_running hr, h1.of_timers, h2⟩
  · obtain ⟨h1, h2⟩ := stop_reported (s := s) (work := State.secondTick) (reason := .starved)
      (countTimers_stalled (s := { s with clk := s.clk.second }) hp hn) rfl (by rw [hp]; exact fun c => nomatch c)
    exact ⟨_, run_running hr, h1.of_timers, h2⟩
  · obtain ⟨h1, h2⟩ := stop_reported (s := s) (s' := s) (work := fun s => if s.seq.state = .preroll then s.prerollExpires else s)
      (reason := .prerollTimeout) (if_pos hp) rfl (by rw [hp]; exact fun c => nomatch c)
    exact ⟨_, run_running hr, h1, h2⟩
  · obtain ⟨h1, h2⟩ := stop_reported (s := s) (s' := s) (work := fun s => if s.seq.state = .stalled then s.stallExpires else s)
      (reason := .starved) (if_pos hp) rfl (by rw [hp]; exact fun c => nomatch c)
    exact ⟨_, run_running hr, h1, h2⟩

end Sys2Proof.Safety
end

-- ==== the emergency latch ====
section
/-! PROOFS. The setting of the emergency latch (R150, R151), by an accepted edge (R149) and by a write of table 8 (R146). -/

namespace Sys2Proof.Safety

open Sys2Proof.Machine

/-! ### The show's part (R52, R68) -/

/-- What the setting of the latch makes of show, tracks and projector, before the sound and the booth lines. -/
structure EmergencyShown (s w : State) : Prop where
  seq     : w.seq = emergencySequencer s.seq
  acct    : w.acct = if s.seq.state = .idle ∨ s.seq.state = .stopped then s.acct else s.closeRecord.acct
  tracks  : TracksLeave s w [.black]
  clock   : w.clk = if s.seq.state = .idle ∨ s.seq.state = .stopped then s.clk else { s.clk with period := s.idlePeriod }
  cue     : w.cue = if s.seq.state = .idle ∨ s.seq.state = .stopped then s.cue else { s.cue with cursor := none }
  repeats : w.repeats = if s.seq.state = .idle ∨ s.seq.state = .stopped then s.repeats else 0
  rest    : w.tables = s.tables ∧ w.port = s.port ∧ w.snd = s.snd ∧ w.booth = s.booth
  mgmt    : w.mgmt = s.mgmt

/-- No track is scheduled where no show is armed or running (R7). -/
theorem leaving_of_inactive {s : State} (h : s.seq.state.active = false) : leaving s = [] :=
  List.filter_eq_nil_iff.mpr fun k _ => by rw [scheduled_iff, h]; exact fun c => by cases c.2.1

theorem emergencyShow_shown (s : State) : EmergencyShown s s.emergencyShow := by
  have stop : s.seq.state ≠ .idle → s.seq.state ≠ .stopped → EmergencyShown s (s.enterStopped .emergency) := fun hi hs => by
    obtain ⟨seq, acct, tracks, clock, cue, repeats, tables, port, snd, booth, _, _⟩ := enterStopped_stopped s .emergency
    have not : ¬ (s.seq.state = .idle ∨ s.seq.state = .stopped) := fun c => c.elim hi hs
    refine ⟨?_, ?_, tracks, ?_, ?_, ?_, ⟨tables, port, snd, booth⟩, enterStopped_mgmt s _⟩
    · rw [seq, emergencySequencer, if_neg hi, if_neg hs]
    · rw [acct, if_neg not]
    · rw [clock, if_neg not]
    · rw [cue, if_neg not]
    · rw [repeats, if_neg not]
  have stay : (s.seq.state = .idle ∨ s.seq.state = .stopped) → TracksLeave s (s.send .black) [.black] := fun h => by
    have none_leave : leaving s = [] := leaving_of_inactive (by rcases h with h | h <;> rw [h] <;> rfl)
    have nil : Unscheduled (leaving s) s s := none_leave ▸ Unscheduled.nil s
    exact tracksLeave_of_unscheduled nil rfl rfl rfl
  unfold State.emergencyShow
  cases hq : s.seq.state with
  | idle =>
    exact ⟨by rw [emergencySequencer, if_pos hq]; rfl, (if_pos (.inl hq)).symm, stay (.inl hq), (if_pos (.inl hq)).symm,
      (if_pos (.inl hq)).symm, (if_pos (.inl hq)).symm, ⟨rfl, rfl, rfl, rfl⟩, rfl⟩
  | stopped =>
    obtain ⟨emptied, kept, schedule, regions, counts, link⟩ := stay (.inr hq)
    exact ⟨by rw [emergencySequencer, if_neg (by rw [hq]; exact fun c => nomatch c), if_pos hq]; rfl, (if_pos (.inr hq)).symm,
      ⟨emptied, kept, schedule, regions, counts, link⟩, (if_pos (.inr hq)).symm,
      (if_pos (.inr hq)).symm, (if_pos (.inr hq)).symm, ⟨rfl, rfl, rfl, rfl⟩, rfl⟩
  | armed => exact stop (by rw [hq]; exact fun c => nomatch c) (by rw [hq]; exact fun c => nomatch c)
  | preroll => exact stop (by rw [hq]; exact fun c => nomatch c) (by rw [hq]; exact fun c => nomatch c)
  | playing => exact stop (by rw [hq]; exact fun c => nomatch c) (by rw [hq]; exact fun c => nomatch c)
  | holding => exact stop (by rw [hq]; exact fun c => nomatch c) (by rw [hq]; exact fun c => nomatch c)
  | stalled => exact stop (by rw [hq]; exact fun c => nomatch c) (by rw [hq]; exact fun c => nomatch c)
  | ended => exact stop (by rw [hq]; exact fun c => nomatch c) (by rw [hq]; exact fun c => nomatch c)

/-! ### The latch (R151) -/

theorem setLatch_of_set {s : State} (h : s.booth.latch = true) : s.setLatch = s := if_pos h

/-- The sound and the booth lines when the latch is set, before EMERGENCY is raised (R97, R145). -/
def silenced (w : State) : State :=
  { w.muteSound.stopGenerators with booth := { w.muteSound.stopGenerators.booth with latch := true } }

theorem setLatch_of_clear {s : State} (h : s.booth.latch = false) : s.setLatch = (silenced s.emergencyShow).raise .emergency :=
  if_neg (by simp [h])

/-- The setting of a clear latch has all its effects (R151). -/
theorem setLatch_set {s : State} (h : s.booth.latch = false) : LatchSet s s.setLatch := by
  obtain ⟨seq, acct, tracks, clock, cue, repeats, ⟨tables, port, snd, booth⟩, mgmt⟩ := emergencyShow_shown s
  rw [setLatch_of_clear h]
  generalize s.emergencyShow = w at *
  have lanes : (silenced w).snd.lanes = w.snd.lanes.map fun l => { l with block := l.block.map fun _ => 0, line := [] } := by
    apply List.ext_getElem?
    intro j
    simp [silenced, State.stopGenerators, State.setGenerators, State.muteSound, State.mapLanes, State.updFader]
  obtain ⟨emptied, kept, schedule, regions, counts, clears, rc, link⟩ := tracks
  have track := State.track_congr (State.raise_tracks (silenced w) .emergency)
  have sub := State.raise_sub (silenced w) .emergency
  refine ⟨?_, ?_, ?_, ?_, ?_,
    ⟨fun k hk => (track k).trans (emptied k hk), fun k hk => (track k).trans (kept k hk), ?_, fun r hr => ?_,
    ?_, clears, rc, ?_⟩, ?_, ?_, ?_, ?_, ?_, ?_, ?_, ?_, fun f hf _ => ?_, ?_, ?_⟩
  · rw [State.raise_booth]; rfl
  · rw [State.raise_booth, ← booth]; rfl
  · rw [State.raise_booth, ← booth]; rfl
  · rw [State.raise_seq, ← seq]; rfl
  · rw [State.raise_acct, ← acct]; rfl
  · rw [sub]; exact schedule
  · rw [State.region, sub]; exact regions r hr
  · rw [sub]; exact counts
  · rw [State.raise_link]; exact link
  · rw [State.raise_clk, ← clock]; rfl
  · rw [State.raise_cue, ← cue]; rfl
  · rw [State.raise_repeats, ← repeats]; rfl
  · rw [State.raise_port, ← port]; rfl
  · rw [State.raise_snd, ← snd]; rfl
  · rw [State.raise_snd, ← snd]; rfl
  · rw [State.raise_snd, lanes, snd]
  · rw [State.raise_flags, flagSet_withFlag]; simp
  · rw [State.raise_flags, flagSet_withFlag, decide_eq_false hf, Bool.or_false, ← mgmt]; rfl
  · rw [State.raise_enables', ← mgmt]; rfl
  · rw [State.raise_requests', ← mgmt]; rfl

/-- What the setting of a clear latch keeps besides. -/
theorem setLatch_keeps {s : State} (h : s.booth.latch = false) : s.setLatch.tables = s.tables ∧
    s.setLatch.booth.inputs = s.booth.inputs ∧ s.setLatch.mgmt.lane = s.mgmt.lane ∧ s.setLatch.mgmt.slots = s.mgmt.slots ∧
    s.setLatch.mgmt.reserved = s.mgmt.reserved ∧ s.setLatch.mgmt.flags = withFlag s.mgmt.flags .emergency := by
  obtain ⟨_, _, _, _, _, _, ⟨tables, _, _, booth⟩, mgmt⟩ := emergencyShow_shown s
  rw [setLatch_of_clear h]
  generalize s.emergencyShow = w at *
  rw [State.raise_tables, State.raise_booth, State.raise_lane', State.raise_slots', State.raise_reserved', State.raise_flags,
    ← mgmt, ← tables, ← booth]
  exact ⟨rfl, rfl, rfl, rfl, rfl, rfl⟩

/-- What is reported afterwards is no part of the latch. -/
theorem LatchSet.of_mgmt {s w t : State} (h : LatchSet s w) (ht : t = { w with mgmt := t.mgmt })
    (hf : ∀ f, f ≠ .showState → flagSet t.mgmt.flags f = flagSet w.mgmt.flags f) (he : t.mgmt.enables = w.mgmt.enables)
    (hr : t.mgmt.requests = w.mgmt.requests) : LatchSet s t := by
  obtain ⟨emptied, kept, schedule, regions, counts, link⟩ := h.tracks
  have flag := (hf .emergency (fun c => nomatch c)).trans h.flag
  have flags := fun f h1 h2 => (hf f h2).trans (h.flags f h1 h2)
  have enables := he.trans h.enables
  have requests := hr.trans h.requests
  rw [ht]
  exact ⟨h.latch, h.generators, h.cueLevels, h.seq, h.acct, ⟨emptied, kept, schedule, regions, counts, link⟩, h.clock, h.cue,
    h.repeats, h.port, h.map, h.fader, h.lanes, flag, flags, enables, requests⟩

/-- The latch is set alike where the tables, the inputs and the reservation of a slot differ. -/
theorem LatchSet.congr {s u t : State} (h : LatchSet s t) (ho : u = { s with tables := u.tables, booth := u.booth, mgmt := u.mgmt })
    (hl : leaving s = leaving u) (hp : s.idlePeriod = u.idlePeriod)
    (hb : s.booth.generators = u.booth.generators ∧ s.booth.cueLevels = u.booth.cueLevels)
    (hm : s.mgmt.flags = u.mgmt.flags ∧ s.mgmt.enables = u.mgmt.enables ∧ s.mgmt.requests = u.mgmt.requests) : LatchSet u t := by
  have same : ∀ {α : Type} (f : State → α), f u = f { s with tables := u.tables, booth := u.booth, mgmt := u.mgmt } :=
    fun f => congrArg f ho
  have seq : u.seq = s.seq := same State.seq
  have acct : u.closeRecord.acct = s.closeRecord.acct := same fun s => s.closeRecord.acct
  obtain ⟨flags, enables, requests⟩ := hm
  refine ⟨h.latch, hb.1 ▸ h.generators, hb.2 ▸ h.cueLevels, ?_, ?_, h.tracks.congr hl (same State.tracks).symm (same State.sub).symm
    (same State.link).symm, ?_, ?_, ?_, ?_, ?_, ?_, ?_, h.flag, fun f h1 h2 => (h.flags f h1 h2).trans (by rw [flags]),
    h.enables.trans enables, h.requests.trans requests⟩
  · rw [seq]; exact h.seq
  · rw [seq, acct, h.acct, same State.acct]
  · rw [seq, ← hp, h.clock, same State.clk]
  · rw [seq, h.cue, same State.cue]
  · rw [seq, h.repeats, same State.repeats]
  · rw [h.port, same State.port]
  · rw [h.map, same State.snd]
  · rw [h.fader, same State.snd]
  · rw [h.lanes, same State.snd]

/-! ### An accepted edge (R149) -/

theorem edgeTo_eq_iff (l : InLevel) (e : Edge) : edgeTo l = e ↔ l = e.activeLevel := by cases l <;> cases e <;> decide

theorem exec_acceptedEdge {s : State} {i : Fin 8} (hr : s.inReset = false) (hw : (s.input i.val).waiting ≠ none) :
    exec (.acceptedEdge i) s = .next (event (fun s => s.acceptChange i.val) s) := by
  have waits : (s.input i.val).waiting.isSome = true := Option.isSome_iff_ne_none.mpr hw
  exact (run_running hr).trans (congrArg _ (if_pos waits))

/-- An EMERGENCY input: the active edge sets the latch, the other does nothing more (R149, R150). -/
theorem acceptChange_emergency {s : State} {i : Nat} (he : (s.inputEntry i).enabled = true)
    (ha : (s.inputEntry i).action = .emergency) : s.acceptChange i =
      if edgeTo (s.input i).raw = (s.inputEntry i).edge then (edgeTaken s i).setLatch else edgeTaken s i := by
  rw [State.acceptChange, if_pos he, if_pos ha]
  exact if_congr (edgeTo_eq_iff _ _).symm rfl rfl

theorem emergencySequencer_state (q : Sequencer) :
    (emergencySequencer q).state = q.state ↔ ¬ (q.state ≠ .idle ∧ q.state ≠ .stopped) := by
  unfold emergencySequencer
  split
  · rename_i h; simp [h]
  · rename_i hi
    split
    · rename_i h; simp [h]
    · rename_i hs
      exact iff_of_false (fun c => hs c.symm) (not_not.mpr ⟨hi, hs⟩)

theorem event_eq (work : State → State) (s : State) : event work s = { work s with mgmt := (event work s).mgmt } := by
  rw [event, State.arbitrate_eq, State.reportChange_eq]

/-- Reporting a change of show state touches SHOW_STATE alone among the flags, and keeps enables and requests. -/
theorem reportChange_keeps (w : State) (q : ShowState) :
    (∀ f, f ≠ .showState → flagSet (w.reportChange q).mgmt.flags f = flagSet w.mgmt.flags f) ∧
    (w.reportChange q).mgmt.enables = w.mgmt.enables ∧ (w.reportChange q).mgmt.requests = w.mgmt.requests := by
  by_cases h : w.seq.state = q
  · rw [State.reportChange_same h]
    exact ⟨fun _ _ => rfl, rfl, rfl⟩
  · refine ⟨fun f hf => ?_, reportChange_enables h, reportChange_requests h⟩
    rw [State.reportChange_flags, if_neg h, flagSet_withFlag, decide_eq_false hf, Bool.or_false]

/-- Settles O51. -/
theorem emergencyLatchSets : Obligations.EmergencyLatchSets := by
  intro i s hr hq hw he ha
  have change := acceptChange_emergency he ha
  refine ⟨fun hl hedge => ?_, fun h => ?_⟩
  · have clear : (edgeTaken s i.val).booth.latch = false := hl
    have set := setLatch_set clear
    obtain ⟨tables, inputs, _, _, _, flags⟩ := setLatch_keeps clear
    rw [if_pos hedge] at change
    obtain ⟨k1, k2, k3⟩ := reportChange_keeps ((edgeTaken s i.val).setLatch) s.seq.state
    refine ⟨_, exec_acceptedEdge hr hw, ?_, ?_, ?_, ?_⟩
    · refine LatchSet.congr (s := edgeTaken s i.val) (LatchSet.of_mgmt (change ▸ set) (event_eq _ s) (fun f hf => ?_) ?_ ?_)
        rfl rfl rfl ⟨rfl, rfl⟩ ⟨rfl, rfl, rfl⟩
      · rw [event, State.arbitrate_flags', change, k1 f hf]
      · rw [event, State.arbitrate_enables', change, k2]
      · rw [event, State.arbitrate_requests', change, k3]
    · rw [event, State.arbitrate_booth, State.reportChange_booth, change, inputs]
    · rw [event, State.arbitrate_tables, State.reportChange_tables, change, tables]
      rfl
    · have state : (s.acceptChange i.val).seq.state = s.seq.state ↔ ¬ (s.seq.state ≠ .idle ∧ s.seq.state ≠ .stopped) := by
        rw [change, set.seq]
        exact emergencySequencer_state s.seq
      rw [event_flags]
      by_cases on : s.seq.state ≠ .idle ∧ s.seq.state ≠ .stopped
      · rw [if_neg fun c => state.mp c on, flagSet_withFlag, decide_eq_true on]
        simp
      · rw [if_pos (state.mpr on), change, flags, flagSet_withFlag, decide_eq_false on]
        simp [edgeTaken]
  · have stays : s.acceptChange i.val = edgeTaken s i.val := by
      rw [change]
      rcases h with h | h
      · rw [setLatch_of_set (s := edgeTaken s i.val) h, ite_self]
      · rw [if_neg h]
    rw [exec_acceptedEdge hr hw]
    refine congrArg _ ((event_quiet ?_ ?_ hq.idle).trans stays)
    · rw [stays]; rfl
    · rw [stays]; rfl

end Sys2Proof.Safety
end

-- ==== writes of the input actions ====
section
/-! PROOFS. A write of table 8 (R146, R173): its entries are judged and stored, and an input that becomes an active EMERGENCY input
sets the latch (R150). -/

namespace Sys2Proof.Safety

open Sys2Proof.Machine

/-! ### Judged entries -/

/-- An entry of table 8 that is accepted is an input action at an index of the table. -/
theorem judgeEntry_input {s : State} {i : Nat} {b : Bytes} {e : Entry} (h : s.judgeEntry 8 i b = .ok e) :
    i < 8 ∧ ∃ x, e = .input x := by
  rw [State.judgeEntry] at h
  split at h
  · cases h
  · rename_i hi
    have inside : i < 8 := by
      simp only [indexRefused, Bool.or_eq_true, not_or, decide_eq_true_eq] at hi
      exact Nat.not_le.mp hi.1
    refine ⟨inside, ?_⟩
    cases hd : decodeEntry 8 b with
    | error r => rw [hd] at h; cases h
    | ok y =>
      have shape : ∃ x, y = .input x := by
        rw [decodeEntry] at hd
        split at hd
        · cases hd
        · split at hd
          · cases hd; exact ⟨_, rfl⟩
          · cases hd
      rw [hd] at h
      dsimp only at h
      split at h
      · cases h
      · cases h; exact shape

/-- Entries of table 8 that are all accepted. -/
theorem judgeEntries_inputs {s : State} {n i : Nat} {b : Bytes}
    (h : ∀ j, j < n → ∃ e, s.judgeEntry 8 (i + j) ((b.drop (j * 6)).take 6) = .ok e) :
    ∃ xs : List InputEntry, s.judgeEntries 8 i (splitEntries 6 n b) = .ok (xs.map Entry.input) ∧ xs.length = n ∧
      ∀ j e, j < n → s.judgeEntry 8 (i + j) ((b.drop (j * 6)).take 6) = .ok (.input e) → xs[j]? = some e := by
  induction n generalizing i b with
  | zero => exact ⟨[], rfl, rfl, fun j e hj => by omega⟩
  | succ n ih =>
    have shift : ∀ j, (b.drop ((j + 1) * 6)).take 6 = ((b.drop 6).drop (j * 6)).take 6 := fun j => by
      rw [List.drop_drop, show (j + 1) * 6 = 6 + j * 6 by ring]
    have place : ∀ j, i + (j + 1) = i + 1 + j := fun j => by ring
    obtain ⟨e, he⟩ := h 0 (Nat.succ_pos n)
    obtain ⟨_, x, rfl⟩ := judgeEntry_input he
    obtain ⟨xs, hxs, hl, hj⟩ := ih (i := i + 1) (b := b.drop 6) fun j hj => by
      have := h (j + 1) (by omega)
      rwa [shift, place] at this
    have first : s.judgeEntry 8 i (b.take 6) = .ok (.input x) := by simpa using he
    refine ⟨x :: xs, ?_, by rw [List.length_cons, hl], fun j e hjn hje => ?_⟩
    · rw [splitEntries, State.judgeEntries, first, hxs]
      rfl
    · cases j with
      | zero =>
        rw [he] at hje
        cases hje
        rfl
      | succ j =>
        rw [shift, place] at hje
        exact hj j e (by omega) hje

/-! ### Stored entries -/

/-- Input actions stored at consecutive indices (R173). -/
theorem storeAll_inputs (xs : List InputEntry) (T : Tables) (i : Nat) :
    T.storeAll i (xs.map Entry.input) = { T with input := (T.storeAll i (xs.map Entry.input)).input } ∧
    (T.storeAll i (xs.map Entry.input)).input.length = T.input.length ∧
    (∀ k, k < i ∨ i + xs.length ≤ k → (T.storeAll i (xs.map Entry.input)).input[k]? = T.input[k]?) ∧
    ∀ j x, xs[j]? = some x → i + j < T.input.length → (T.storeAll i (xs.map Entry.input)).input[i + j]? = some x := by
  induction xs generalizing T i with
  | nil => exact ⟨rfl, rfl, fun _ _ => rfl, fun j x h => by cases h⟩
  | cons x xs ih =>
    obtain ⟨h1, h2, h3, h4⟩ := ih { T with input := T.input.set i x } (i + 1)
    have first : T.store i (.input x) = { T with input := T.input.set i x } := rfl
    rw [List.map_cons, Tables.storeAll, first]
    refine ⟨h1, h2.trans List.length_set, fun k hk => ?_, fun j y hy hl => ?_⟩
    · rw [List.length_cons] at hk
      rw [h3 k (by omega)]
      exact List.getElem?_set_ne (by omega)
    · cases j with
      | zero =>
        cases hy
        exact (h3 i (.inl (Nat.lt_succ_self i))).trans (List.getElem?_set_self hl)
      | succ j =>
        rw [show i + (j + 1) = i + 1 + j by ring] at hl ⊢
        exact h4 j y (by simpa using hy) (hl.trans_eq List.length_set.symm)

/-! ### The latch by a write (R150) -/

theorem setLatch_latch (s : State) : s.setLatch.booth.latch = true := by
  cases h : s.booth.latch with
  | true => rw [setLatch_of_set h]; exact h
  | false => exact (setLatch_set h).latch

/-- Does one of these inputs, which was no active EMERGENCY input, become one? -/
def becomesActive (before s : State) (index n : Nat) : Bool :=
  (List.range' index n).any fun k => s.emergencyActive k && !before.emergencyActive k

theorem becomesActive_iff {before s : State} {index n : Nat} : becomesActive before s index n = true ↔
    ∃ k, index ≤ k ∧ k < index + n ∧ s.emergencyActive k = true ∧ before.emergencyActive k = false := by
  simp [becomesActive, List.any_eq_true, List.mem_range'_1, and_assoc]

/-- Stored input actions set the latch once, if one of the inputs has become an active EMERGENCY input. -/
theorem storeEffects_inputs (before : State) (xs : List InputEntry) (s : State) (i : Nat) :
    State.storeEffects before s i (xs.map Entry.input) = if becomesActive before s i xs.length then s.setLatch else s := by
  induction xs generalizing s i with
  | nil => rfl
  | cons x xs ih =>
    have first : State.storeEffect before s i (.input x) =
        if s.emergencyActive i = true ∧ before.emergencyActive i = false then s.setLatch else s := rfl
    have split : becomesActive before s i (x :: xs).length =
        ((s.emergencyActive i && !before.emergencyActive i) || becomesActive before s (i + 1) xs.length) := by
      rw [becomesActive, List.length_cons, List.range'_succ, List.any_cons]
      rfl
    rw [List.map_cons, State.storeEffects, ih, first, split]
    by_cases now : s.emergencyActive i = true ∧ before.emergencyActive i = false
    · rw [if_pos now, setLatch_of_set (setLatch_latch s), ite_self, if_pos]
      simp [now]
    · rw [if_neg now]
      have off : (s.emergencyActive i && !before.emergencyActive i) = false := by simpa using now
      rw [off, Bool.false_or]

/-! ### The report of a request whose effects may raise flags -/

theorem answered_mgmt_congr {u v : State} (h : u.mgmt = v.mgmt) (p : Bytes) : (answered u p).mgmt = (answered v p).mgmt := by
  have e : (u.queueReply p).mgmt = (v.queueReply p).mgmt := by rw [State.queueReply_mgmt, State.queueReply_mgmt, h]
  unfold answered State.arbitrate
  rw [e]
  split
  · exact e
  · split
    · rfl
    · exact e

/-- A request whose effects leave the lane, the slots and the reservation: one FLOW report where the show state has changed, then
the reply. -/
theorem ReplyQueued.of_report {s w : State} (hl : w.mgmt.lane = s.mgmt.lane) (hs : w.mgmt.slots = s.mgmt.slots)
    (hr : w.mgmt.reserved = true) (p : Bytes) :
    ReplyQueued s (answered (w.reportChange s.seq.state) p) (decide (w.seq.state ≠ s.seq.state)) p := by
  by_cases h : w.seq.state = s.seq.state
  · rw [State.reportChange_same h]
    exact .of_answered hl (by rw [hs]; simp [h])
  · have room : w.mgmt.slotsTaken = s.mgmt.slots.length + 1 := by rw [Mgmt.slotsTaken, hs, hr]; rfl
    refine .of_answered ((reportChange_lane h).trans hl) ?_
    rw [reportChange_slots h, room, hs, flowOf_of_mgmt (State.reportChange_eq w _)]
    simp [h]

/-! ### The request -/

/-- The reservation of a slot plays no part in the judgement of entries. -/
theorem judgeEntries_reserved (s : State) (r : Bool) (table i : Nat) (bs : List Bytes) :
    (s.setReserved r).judgeEntries table i bs = s.judgeEntries table i bs := by
  induction bs generalizing i with
  | nil => rfl
  | cons b bs ih =>
    have head : (s.setReserved r).judgeEntry table i b = s.judgeEntry table i b := rfl
    rw [State.judgeEntries, State.judgeEntries, head, ih]

/-- The rows that write table 8 hand on the same request. -/
theorem exec_writeInputs {tag : Byte} {index : BitVec 16} {count : Byte} {entries : Bytes} {c : Instr}
    (h : c ∈ writeRows 8 tag index count entries) (s : State) :
    exec c s = request (.writeTable tag 8 index count entries) s := by
  have row : requestOf c = some (.writeTable tag 8 index count entries) := by
    rcases List.mem_cons.mp h with rfl | h
    · rfl
    · rw [List.mem_singleton.mp h]; rfl
  exact exec_request row s

/-- The part when the entries are stored and their effects have taken place. -/
def inputsWritten (s : State) (index : Nat) (xs : List InputEntry) : State :=
  State.storeEffects s { s with tables := s.tables.storeAll index (xs.map Entry.input) } index (xs.map Entry.input)

/-- A good write of table 8 (R173). -/
theorem writeInputs_taken {s : State} {tag : Byte} {index : BitVec 16} {count : Byte} {entries : Bytes} {c : Instr}
    {xs : List InputEntry} (h : TakesRequest s) (hc : c ∈ writeRows 8 tag index count entries) (h0 : count ≠ 0)
    (hl : entries.length = count.toNat * 6)
    (hx : s.judgeEntries 8 index.toNat (splitEntries 6 count.toNat entries) = .ok (xs.map Entry.input)) :
    exec c s = .next (answered ((inputsWritten (s.setReserved true) index.toNat xs).reportChange s.seq.state)
      (writeReply tag 8 .done index.toNat count)) := by
  have positive : count.toNat ≠ 0 := fun c => h0 (BitVec.eq_of_toNat_eq c)
  have written : (s.setReserved true).writeEntries 8 index.toNat count.toNat entries =
      (inputsWritten (s.setReserved true) index.toNat xs, .done, index.toNat) := by
    rw [State.writeEntries, if_neg (by simp [tableEntries]), if_neg positive, if_neg (by simp),
      if_neg (not_not.mpr (show entries.length = count.toNat * entrySize 8 from hl))]
    have judged : (s.setReserved true).judgeEntries 8 index.toNat (splitEntries (entrySize 8) count.toNat entries) =
      .ok (xs.map Entry.input) := (judgeEntries_reserved s true 8 _ _).trans hx
    rw [judged]
    rfl
  rw [exec_writeInputs hc, request_taken h, State.execRequest, State.perform]
  dsimp only
  rw [show (8 : Byte).toNat = 8 from rfl, written]
  rfl

/-- The part with the entries stored, before their effects. -/
def inputsStored (s : State) (index : Nat) (xs : List InputEntry) : State :=
  { s with tables := s.tables.storeAll index (xs.map Entry.input) }

theorem inputsWritten_eq (s : State) (index : Nat) (xs : List InputEntry) : inputsWritten s index xs =
    if becomesActive s (inputsStored s index xs) index xs.length then (inputsStored s index xs).setLatch
    else inputsStored s index xs := storeEffects_inputs s xs (inputsStored s index xs) index

/-- What a write of table 8 keeps, with the latch or without it. -/
theorem inputsWritten_keeps (s : State) (index : Nat) (xs : List InputEntry) :
    (inputsWritten s index xs).tables = s.tables.storeAll index (xs.map Entry.input) ∧
    (inputsWritten s index xs).booth.inputs = s.booth.inputs ∧ (inputsWritten s index xs).mgmt.lane = s.mgmt.lane ∧
    (inputsWritten s index xs).mgmt.slots = s.mgmt.slots ∧ (inputsWritten s index xs).mgmt.reserved = s.mgmt.reserved := by
  rw [inputsWritten_eq]
  split
  · cases hl : s.booth.latch with
    | true => rw [setLatch_of_set (s := inputsStored s index xs) hl]; exact ⟨rfl, rfl, rfl, rfl, rfl⟩
    | false =>
      obtain ⟨k1, k2, k3, k4, k5, _⟩ := setLatch_keeps (s := inputsStored s index xs) hl
      exact ⟨k1, k2, k3, k4, k5⟩
  · exact ⟨rfl, rfl, rfl, rfl, rfl⟩

/-- Settles O23. -/
theorem writeInputActions : Obligations.WriteInputActions := by
  intro tag index count entries c s h hz hc h0 hl hj
  obtain ⟨xs, hxs, hlen, hx⟩ := judgeEntries_inputs hj
  obtain ⟨e1, _, e3, e4⟩ := storeAll_inputs xs s.tables index.toNat
  obtain ⟨k1, k2, k3, k4, k5⟩ := inputsWritten_keeps (s.setReserved true) index.toNat xs
  have taken := writeInputs_taken h hc h0 hl hxs
  have queued := ReplyQueued.of_report (s := s) k3 k4 k5 (writeReply tag 8 .done index.toNat count)
  have same := answered_report_eq (inputsWritten (s.setReserved true) index.toNat xs) s.seq.state
    (writeReply tag 8 .done index.toNat count)
  have keeps := reportChange_keeps (inputsWritten (s.setReserved true) index.toNat xs) s.seq.state
  have written := inputsWritten_eq (s.setReserved true) index.toNat xs
  generalize hw : inputsWritten (s.setReserved true) index.toNat xs = w at *
  generalize ht : answered (w.reportChange s.seq.state) (writeReply tag 8 .done index.toNat count) = t at *
  have tables : t.tables = s.tables.storeAll index.toNat (xs.map Entry.input) := by rw [same]; exact k1
  have active : ∀ k, t.emergencyActive k = (inputsStored (s.setReserved true) index.toNat xs).emergencyActive k := fun k => by
    rw [same, State.emergencyActive, State.inputEntry, State.input]
    dsimp only
    rw [k1, k2]
    rfl
  refine ⟨t, taken, fun j e hjn hje => ?_, fun i hi => ?_, ?_, ht ▸ replied_answered _ _, ?_, fun hcalm => ?_,
    fun ⟨clear, i, hi, lit, off⟩ => ?_⟩
  · rw [tables]
    refine e4 j e (hx j e hjn hje) ?_
    rw [hz.input]
    exact (judgeEntry_input hje).1
  · rw [tables]
    exact e3 i (by omega)
  · rw [tables]
    exact e1
  · rw [show t.seq = w.seq by rw [same]]
    exact queued
  · have plain : w = inputsStored (s.setReserved true) index.toNat xs := by
      rw [written]
      split
      · rename_i found
        obtain ⟨k, h1, h2, lit, off⟩ := becomesActive_iff.mp found
        rcases hcalm with latch | calm
        · exact setLatch_of_set latch
        · have inside : k < 8 := by
            obtain ⟨e, he⟩ := hj (k - index.toNat) (by omega)
            have := (judgeEntry_input he).1
            omega
          rw [← active k] at lit
          exact absurd (calm k inside lit) (by rw [show s.emergencyActive k = false from off]; simp)
      · rfl
    refine ⟨?_, ?_⟩
    · calc t = { w with mgmt := t.mgmt } := same
        _ = { s with tables := t.tables, mgmt := t.mgmt } := by rw [plain, tables]; rfl
    · rw [← ht, plain, State.reportChange_same
        (show (inputsStored (s.setReserved true) index.toNat xs).seq.state = s.seq.state from rfl)]
      exact answered_mgmt_congr (u := inputsStored s index.toNat xs) (v := s) rfl _
  · have written_here : index.toNat ≤ i ∧ i < index.toNat + xs.length := by
      by_contra out
      have entry : (inputsStored (s.setReserved true) index.toNat xs).inputEntry i = s.inputEntry i := by
        have := e3 i (by omega)
        rw [State.inputEntry, State.inputEntry, List.getD_eq_getElem?_getD, List.getD_eq_getElem?_getD]
        exact congrArg (fun x : Option InputEntry => x.getD InputEntry.off) this
      rw [active, State.emergencyActive, entry] at lit
      have dark : (s.inputEntry i).activeAt ((inputsStored (s.setReserved true) index.toNat xs).input i).debounced = false := off
      rw [dark] at lit
      cases lit
    have found : becomesActive (s.setReserved true) (inputsStored (s.setReserved true) index.toNat xs) index.toNat xs.length =
        true :=
      becomesActive_iff.mpr ⟨i, written_here.1, written_here.2, (active i).symm.trans lit, off⟩
    have latched : w = (inputsStored (s.setReserved true) index.toNat xs).setLatch := written.trans (if_pos found)
    have set := setLatch_set (s := inputsStored (s.setReserved true) index.toNat xs) clear
    rw [← latched] at set
    refine LatchSet.congr (set.of_mgmt same (fun f hf => ?_) ?_ ?_) rfl ?_ ?_ ⟨rfl, rfl⟩ ⟨rfl, rfl, rfl⟩
    · rw [← ht, answered_flags]; exact keeps.1 f hf
    · rw [← ht, answered_enables]; exact keeps.2.1
    · rw [← ht, answered_requests]; exact keeps.2.2
    · have track : (inputsStored (s.setReserved true) index.toNat xs).tables.track = s.tables.track :=
        (congrArg Tables.track e1 :)
      refine List.filter_congr fun k _ => ?_
      rw [Bool.eq_iff_iff, scheduled_iff, scheduled_iff, State.trackEntry, State.trackEntry, track]
      rfl
    · have settings : (inputsStored (s.setReserved true) index.toNat xs).tables.settings = s.tables.settings :=
        (congrArg Tables.settings e1 :)
      rw [State.idlePeriod, State.idlePeriod, settings]

end Sys2Proof.Safety
end

-- ==== warm reset ====
section
/-! PROOFS. WARM_RESET (R184): what each block holds after it, and its reply behind the replies that wait. -/

namespace Sys2Proof.Safety

open Sys2Proof.Machine

/-- An IDLE lane takes the oldest of the waiting replies. -/
theorem answered_oldest {u : State} (p : Bytes) (h : u.mgmt.lane = none) (hs : ∀ q ∈ u.mgmt.slots, q.kind = .reply) :
    (answered u p).mgmt.lane = (u.mgmt.slots ++ [(⟨.reply, p⟩ : UpParcel)]).head? ∧
    (answered u p).mgmt.slots = (u.mgmt.slots ++ [(⟨.reply, p⟩ : UpParcel)]).tail := by
  unfold answered State.arbitrate
  rw [State.queueReply_mgmt, h, Mgmt.choose]
  dsimp only
  cases hl : u.mgmt.slots with
  | nil => exact ⟨rfl, rfl⟩
  | cons q rest =>
    have first : (q.kind == .reply) = true := by rw [hs q (by rw [hl]; simp)]; rfl
    rw [List.cons_append, List.find?_cons_of_pos (p := fun q : UpParcel => q.kind == .reply) first,
      List.eraseP_cons_of_pos (p := fun q : UpParcel => q.kind == .reply) first]
    exact ⟨rfl, rfl⟩

/-- What the log holds when the open record has closed without a judgement (R166). -/
theorem warm_log (a : Accounting) : a.warm.log = (match a.openRecord? with
    | some r => { r with outcome := if r.counted then .counted else .short } :: a.log.tail
    | none => a.log) ∧ a.warm.nextNumber = a.nextNumber := by
  cases h : a.openRecord? with
  | some r => rw [Accounting.warm, Accounting.updOpen_some h]; exact ⟨rfl, rfl⟩
  | none => rw [Accounting.warm, Accounting.updOpen_none h]; exact ⟨rfl, rfl⟩

/-- The lanes after a warm reset are silent, with their meters and delay lines cleared (R74, R91, R100, R101). -/
theorem warmSound_lanes (s : State) : s.warmSound.snd.lanes.length = s.snd.lanes.length ∧
    ∀ l ∈ s.warmSound.snd.lanes, l.block = List.replicate s.clk.period 0 ∧ (∀ d, l.line.getD d 0 = 0) ∧ l.peak = 0 ∧ l.clips = 0 := by
  refine ⟨State.mapLanes_length _ _, fun l hl => ?_⟩
  obtain ⟨j, hj⟩ := List.getElem?_of_mem hl
  rw [State.warmSound, State.mapLanes_lane] at hj
  obtain ⟨k, _, rfl⟩ := Option.map_eq_some_iff.mp hj
  exact ⟨rfl, fun d => by simp, rfl, rfl⟩

/-- A WARM_RESET: its reply alone reports the change of show state (R32, R184). -/
theorem warmReset_taken {s : State} {tag : Byte} (h : TakesRequest s) : exec (.warmReset tag) s =
    .next (answered (s.setReserved true).warm [0x0A, tag, 0x00, 0x00, boolByte (s.setReserved true).warm.booth.latch, 0x00]) := by
  rw [exec_request (r := .warmReset tag) rfl, request_taken h]
  rfl

/-- What a warm reset makes of every block but the management block (R184). -/
structure Restarted (s w : State) : Prop where
  tables  : w.tables = s.tables
  port    : w.port = ⟨s.port.framing, 0, 0, 0⟩
  tracks  : w.tracks = List.replicate 32 Track.empty
  cells   : w.freeCells = 8192
  seq     : w.seq = Sequencer.reset
  clock   : w.clk = { s.clk with period := s.idlePeriod, countdown := s.idlePeriod }
  repeats : w.repeats = 0
  map     : w.snd.activeMap = s.snd.activeMap
  fader   : w.snd.fader = { s.snd.fader with value := 0, target := 0 }
  lanes   : w.snd.lanes.length = s.snd.lanes.length
  silent  : ∀ l ∈ w.snd.lanes, l.block = List.replicate s.idlePeriod 0 ∧ (∀ d, l.line.getD d 0 = 0) ∧ l.peak = 0 ∧ l.clips = 0
  sub     : w.sub = Subtitles.reset
  cue     : w.cue = CueEngine.reset
  booth   : w.booth = { s.booth with cueLevels := s.tables.line.map LineSetting.idle, generators := List.replicate 4 Generator.off }
  acct    : w.acct = s.acct.warm
  link    : w.link = s.link ++ (regionNumbers.filter fun r => (s.region r).isSome).map LinkRecord.clearRegion ++ [.black]
  held    : w.inReset = s.inReset

theorem warm_restarted (s : State) : Restarted s s.warm := by
  obtain ⟨only, _, _, _, link⟩ := State.emptyRegions_spec s fun _ => true
  unfold State.warm
  generalize (s.emptyRegions fun _ => true) = v at *
  have same : ∀ {α : Type} (f : State → α), f v = f { s with
      tracks := v.tracks, freeCells := v.freeCells, sub := v.sub, link := v.link } := fun f => congrArg f only.rest
  have period : v.idlePeriod = s.idlePeriod := same State.idlePeriod
  refine ⟨same State.tables, ?_, rfl, rfl, rfl, ?_, rfl, same fun s => s.snd.activeMap, ?_, ?_, fun l hl => ?_, rfl, rfl, ?_, ?_, ?_,
    same State.inReset⟩
  · exact congrArg (fun p : Port => (⟨p.framing, 0, 0, 0⟩ : Port)) (same State.port)
  · rw [← period]
    exact congrArg (fun c : Clock => { c with period := v.idlePeriod, countdown := v.idlePeriod }) (same State.clk)
  · exact congrArg (fun f : Fader => { f with value := 0, target := 0 }) (same fun s => s.snd.fader)
  · exact (warmSound_lanes _).1.trans (same fun s => s.snd.lanes.length)
  · rw [← period]
    exact (warmSound_lanes _).2 l hl
  · have booth : v.booth = s.booth := same State.booth
    rw [← booth, ← show v.tables = s.tables from same State.tables]
    rfl
  · exact congrArg Accounting.warm (same State.acct)
  · have held : (regionNumbers.filter fun r => (s.region r).isSome) = regionNumbers.filter fun r => (s.region r).any fun _ => true :=
      List.filter_congr fun r _ => by cases s.region r <;> rfl
    rw [held, ← link]
    rfl

/-- What a warm reset makes of the management block (R184). -/
theorem warm_mgmt (s : State) : s.warm.mgmt = { s.mgmt with
    flags := 0, eventSlot := none, flowCount := 0, slots := s.mgmt.slots.filter fun p => p.kind == .reply } := by
  obtain ⟨only, _⟩ := State.emptyRegions_spec s fun _ => true
  unfold State.warm
  generalize (s.emptyRegions fun _ => true) = v at *
  exact congrArg (fun m : Mgmt => { m with
    flags := 0, eventSlot := none, flowCount := 0, slots := m.slots.filter fun p : UpParcel => p.kind == UpKind.reply })
    (congrArg State.mgmt only.rest)

/-- Settles O5. -/
theorem warmResetValues : Obligations.WarmResetValues := by
  intro tag s h
  have r := warm_restarted (s.setReserved true)
  have m := warm_mgmt (s.setReserved true)
  have taken := warmReset_taken (tag := tag) h
  generalize (s.setReserved true).warm = w at r m taken
  have latch : w.booth.latch = s.booth.latch := (congrArg Booth.latch r.booth :)
  rw [latch] at taken
  have replies : ∀ q ∈ w.mgmt.slots, q.kind = .reply := fun q hq => by
    rw [m] at hq
    simpa using (List.mem_filter.mp hq).2
  have lane : w.mgmt.lane = s.mgmt.lane := by rw [m]; rfl
  have slots : w.mgmt.slots = s.mgmt.slots.filter fun p => decide (p.kind = .reply) := by
    rw [m]
    exact List.filter_congr fun p _ => by cases p.kind <;> rfl
  have sending := answered_sending (u := w) [0x0A, tag, 0x00, 0x00, boolByte s.booth.latch, 0x00]
  have idle := fun none => answered_oldest (u := w) [0x0A, tag, 0x00, 0x00, boolByte s.booth.latch, 0x00] none replies
  rw [lane, slots] at sending
  rw [lane, slots] at idle
  have same := answered_eq w [0x0A, tag, 0x00, 0x00, boolByte s.booth.latch, 0x00]
  have flags := answered_flags w [0x0A, tag, 0x00, 0x00, boolByte s.booth.latch, 0x00]
  have enables := answered_enables w [0x0A, tag, 0x00, 0x00, boolByte s.booth.latch, 0x00]
  have flow := answered_flowCount w [0x0A, tag, 0x00, 0x00, boolByte s.booth.latch, 0x00]
  have slot := answered_eventSlot w [0x0A, tag, 0x00, 0x00, boolByte s.booth.latch, 0x00]
  have requests := answered_requests w [0x0A, tag, 0x00, 0x00, boolByte s.booth.latch, 0x00]
  have replied := replied_answered w [0x0A, tag, 0x00, 0x00, boolByte s.booth.latch, 0x00]
  rw [m] at flags enables flow slot requests
  generalize answered w [0x0A, tag, 0x00, 0x00, boolByte s.booth.latch, 0x00] = t at *
  have kept : ∀ {α : Type} (f : State → α), f t = f { w with mgmt := t.mgmt } := fun f => congrArg f same
  have booth : t.booth = w.booth := kept State.booth
  have acct : t.acct = s.acct.warm := (kept State.acct).trans r.acct
  obtain ⟨log, next⟩ := warm_log s.acct
  refine ⟨t, taken, (kept State.tables).trans r.tables, (kept State.port).trans r.port, (kept State.tracks).trans r.tracks,
    (kept State.freeCells).trans r.cells, (kept State.seq).trans r.seq, (kept State.clk).trans r.clock,
    (kept State.repeats).trans r.repeats, (kept fun s => s.snd.activeMap).trans r.map, (kept fun s => s.snd.fader).trans r.fader,
    (kept fun s => s.snd.lanes.length).trans r.lanes, ?_, (kept State.sub).trans r.sub, (kept State.cue).trans r.cue, ?_, ?_, ?_, ?_, ?_,
    ?_, ?_, ?_, ?_, flags, enables, flow, slot, requests.trans h.2.1, replied, ⟨_, rfl, sending, idle⟩, (kept State.link).trans r.link,
    (kept State.inReset).trans (r.held.trans h.1)⟩
  · rw [show t.snd = w.snd from kept State.snd]
    exact r.silent
  · rw [booth, r.booth]; rfl
  · rw [booth, r.booth]; rfl
  · rw [booth, r.booth]
    intro g hg
    rw [List.eq_of_mem_replicate hg]
    rfl
  · rw [booth, r.booth]; rfl
  · rw [booth, r.booth]; rfl
  · exact (congrArg Accounting.log acct).trans log
  · exact (congrArg Accounting.nextNumber acct).trans next
  · rw [acct]; rfl
  · rw [acct]; rfl

end Sys2Proof.Safety
end

-- ==== reschedules: tracks that stop and tracks that start being scheduled ====
section
/-! PROOFS. Tracks that are scheduled anew one after another: what each of them holds then, and what stays (R8, R9, R118). -/

namespace Sys2Proof.Safety

open Sys2Proof.Machine

/-! ### What a track starts with -/

theorem startedTrack_congr {s u : State} {k : Nat} (ht : u.tables = s.tables)
    (hc : (u.track k).counters = (s.track k).counters) : startedTrack u k = startedTrack s k := by
  have entry : u.trackEntry k = s.trackEntry k := by rw [State.trackEntry, State.trackEntry, ht]
  have slot : ∀ n, u.composition n = s.composition n := fun n => by rw [State.composition, State.composition, ht]
  rw [startedTrack, entry, slot, hc]
  rfl

/-- The window that R8 gives a picture track. -/
theorem window_create (eyes : Eyes) : Window.create eyes =
    { base := 0, eyes := eyes, main := List.replicate 64 .absent
      right := if eyes = .stereo then List.replicate 64 .absent else [] } := by
  cases eyes <;> rfl

/-! ### Lists of tracks -/

/-- The tracks of `gone` have been emptied with their items, whose regions have been cleared, and those of them in `fresh` have
become scheduled anew. -/
structure Rescheduled (gone fresh : List Nat) (s u : State) : Prop where
  tables   : u.tables = s.tables
  length   : u.tracks.length = s.tracks.length
  started  : ∀ k ∈ gone, k ∈ fresh → u.track k = startedTrack s k
  emptied  : ∀ k ∈ gone, k ∉ fresh → u.track k = { Track.empty with counters := (s.track k).counters }
  kept     : ∀ k, k ∉ gone → u.track k = s.track k
  schedule : u.sub.schedule = s.sub.schedule.filter fun i => !gone.contains i.track
  regions  : ∀ r, r ≤ 3 → u.region r = (s.region r).filter fun x => !gone.contains x.item.track
  counts   : u.sub = { s.sub with schedule := u.sub.schedule, regions := u.sub.regions }
  link     : ∃ clears, RegionsCleared s gone clears ∧ u.link = s.link ++ clears.map LinkRecord.clearRegion

theorem rescheduled_of_unscheduled {l : List Nat} {s u : State} (h : Unscheduled l s u) : Rescheduled l [] s u :=
  ⟨(congrArg State.tables h.rest :), h.length, fun _ _ m => absurd m List.not_mem_nil, fun k hk _ => h.emptied k hk, h.kept,
    h.schedule, h.regions, h.counts, h.link⟩

theorem Rescheduled.nil (s : State) : Rescheduled [] [] s s := rescheduled_of_unscheduled (.nil s)

/-- The part of the state that scheduling reads and changes. -/
def trackView (s : State) : Tables × List Track × Subtitles × List LinkRecord := (s.tables, s.tracks, s.sub, s.link)

theorem Rescheduled.of_view {gone fresh : List Nat} {s s' u u' : State} (h : Rescheduled gone fresh s u)
    (hs : trackView s' = trackView s) (hu : trackView u' = trackView u) : Rescheduled gone fresh s' u' := by
  simp only [trackView, Prod.mk.injEq] at hs hu
  obtain ⟨st, sk, ss, sl⟩ := hs
  obtain ⟨ut, uk, us, ul⟩ := hu
  have was : ∀ k, s'.track k = s.track k := State.track_congr sk
  have now : ∀ k, u'.track k = u.track k := State.track_congr uk
  obtain ⟨clears, rc, link⟩ := h.link
  refine ⟨by rw [ut, st, h.tables], by rw [uk, sk, h.length], fun k hk hf => ?_, fun k hk hf => ?_, fun k hk => ?_, ?_,
    fun r hr => ?_, ?_, clears, rc.congr ss.symm, by rw [ul, sl, link]⟩
  · rw [now, h.started k hk hf, startedTrack_congr st (congrArg Track.counters (was k))]
  · rw [now, was, h.emptied k hk hf]
  · rw [now, was, h.kept k hk]
  · rw [us, ss, h.schedule]
  · simpa only [State.region, us, ss] using h.regions r hr
  · rw [us, ss]; exact h.counts

/-- The CLEAR_REGION records of two lists of tracks, the second over what the first has left. -/
theorem RegionsCleared.append_lists {s u : State} {l m c d : List Nat} (h : RegionsCleared s l c) (g : RegionsCleared u m d)
    (hr : ∀ r, r ≤ 3 → u.region r = (s.region r).filter fun x => !l.contains x.item.track) :
    RegionsCleared s (l ++ m) (c ++ d) := by
  have left : ∀ r x, r ≤ 3 → (u.region r = some x ↔ s.region r = some x ∧ x.item.track ∉ l) := fun r x h3 => by
    rw [hr r h3, Option.filter_eq_some_iff]
    simp
  have inD : ∀ r ∈ d, ∃ x, u.region r = some x ∧ s.region r = some x ∧ x.item.track ∉ l := fun r hd => by
    obtain ⟨h3, x, hx, -⟩ := (g.held r).mp hd
    exact ⟨x, hx, (left r x h3).mp hx⟩
  refine ⟨List.nodup_append.mpr ⟨h.once, g.once, fun a ha b hb e => ?_⟩, fun r => ?_, fun k => ?_⟩
  · obtain ⟨-, x, hx, hxl⟩ := (h.held a).mp ha
    obtain ⟨y, -, hy, hyl⟩ := inD b hb
    rw [← e, hx] at hy
    cases hy
    exact hyl hxl
  · rw [List.mem_append, h.held, g.held]
    constructor
    · rintro (⟨h3, x, hx, e⟩ | ⟨h3, x, hx, e⟩)
      · exact ⟨h3, x, hx, List.mem_append_left _ e⟩
      · exact ⟨h3, x, ((left r x h3).mp hx).1, List.mem_append_right _ e⟩
    · rintro ⟨h3, x, hx, e⟩
      by_cases n : x.item.track ∈ l
      · exact .inl ⟨h3, x, hx, n⟩
      · exact .inr ⟨h3, x, (left r x h3).mpr ⟨hx, n⟩, (List.mem_append.mp e).resolve_left n⟩
  · rw [List.filter_append]
    by_cases e : k ∈ l
    · have none_later : (d.filter fun r => (s.region r).any fun x => x.item.track == k) = [] :=
        List.filter_eq_nil_iff.mpr fun r m => by
          obtain ⟨x, -, hx, ne⟩ := inD r m
          simp [hx, show x.item.track ≠ k from fun c => ne (c ▸ e)]
      rw [none_later, List.append_nil]
      exact h.order k
    · have none_before : (c.filter fun r => (s.region r).any fun x => x.item.track == k) = [] :=
        List.filter_eq_nil_iff.mpr fun r m => by
          obtain ⟨-, x, hx, hxl⟩ := (h.held r).mp m
          simp [hx, show x.item.track ≠ k from fun c => e (c ▸ hxl)]
      have same : (d.filter fun r => (s.region r).any fun x => x.item.track == k) =
          d.filter fun r => (u.region r).any fun x => x.item.track == k := List.filter_congr fun r m => by
        obtain ⟨x, hu, hs, -⟩ := inD r m
        rw [hu, hs]
      rw [none_before, List.nil_append, same]
      exact g.order k

/-- Two lists one after the other: a track of both is as the second leaves it. -/
theorem Rescheduled.append {l a m b : List Nat} {s u v : State} (h : Rescheduled l a s u) (g : Rescheduled m b u v) :
    Rescheduled (l ++ m) (b.filter m.contains ++ a.filter fun k => !m.contains k) s v := by
  have counters : ∀ k, (u.track k).counters = (s.track k).counters := fun k => by
    by_cases hk : k ∈ l
    · by_cases hf : k ∈ a
      · rw [h.started k hk hf]; rfl
      · rw [h.emptied k hk hf]
    · rw [h.kept k hk]
  obtain ⟨c, rc, hc⟩ := h.link
  obtain ⟨d, rd, hd⟩ := g.link
  refine ⟨g.tables.trans h.tables, g.length.trans h.length, fun k hk hf => ?_, fun k hk hf => ?_, fun k hk => ?_, ?_,
    fun r hr => ?_, ?_, c ++ d, rc.append_lists rd h.regions, by rw [hd, hc, List.map_append, List.append_assoc]⟩
  · by_cases hm : k ∈ m
    · rw [g.started k hm (by simpa [hm] using hf), startedTrack_congr h.tables (counters k)]
    · rw [g.kept k hm, h.started k (by simpa [hm] using hk) (by simpa [hm] using hf)]
  · by_cases hm : k ∈ m
    · rw [g.emptied k hm (by simpa [hm] using hf), counters]
    · rw [g.kept k hm, h.emptied k (by simpa [hm] using hk) (by simpa [hm] using hf)]
  · rw [List.mem_append, not_or] at hk
    rw [g.kept k hk.2, h.kept k hk.1]
  · rw [g.schedule, h.schedule, List.filter_filter]
    congr 1
    funext i
    simp [Bool.and_comm]
  · rw [g.regions r hr, h.regions r hr, Option.filter_filter]
    congr 1
    funext i
    simp
  · have e := g.counts
    rw [h.counts] at e
    exact e

/-- Only the members of the lists count. -/
theorem Rescheduled.congr {l a m b : List Nat} {s u : State} (h : Rescheduled l a s u) (hl : ∀ k, k ∈ l ↔ k ∈ m)
    (ha : ∀ k ∈ l, (k ∈ a ↔ k ∈ b)) : Rescheduled m b s u := by
  have contains : ∀ k, l.contains k = m.contains k := fun k => by
    rw [Bool.eq_iff_iff, List.contains_iff_mem, List.contains_iff_mem, hl]
  obtain ⟨c, rc, hc⟩ := h.link
  refine ⟨h.tables, h.length, fun k hk hf => ?_, fun k hk hf => ?_, fun k hk => h.kept k fun c => hk ((hl k).mp c), ?_,
    fun r hr => ?_, h.counts, c, ⟨rc.once, fun r => ?_, rc.order⟩, hc⟩
  · have old := (hl k).mpr hk
    exact h.started k old ((ha k old).mpr hf)
  · have old := (hl k).mpr hk
    exact h.emptied k old fun c => hf ((ha k old).mp c)
  · simpa only [contains] using h.schedule
  · simpa only [contains] using h.regions r hr
  · simpa only [hl] using rc.held r

/-! ### Tracks that become scheduled -/

theorem scheduleTrack_rescheduled {s : State} {t : Nat} (ht : t < s.tracks.length) :
    Rescheduled [t] [t] s (s.scheduleTrack t) := by
  have sp := State.unscheduleTrack_spec s t
  unfold State.scheduleTrack
  dsimp only
  generalize s.unscheduleTrack t = v at sp ⊢
  have empty : v.track t = { Track.empty with counters := (s.track t).counters } := sp.emptied t (List.mem_singleton.mpr rfl)
  by_cases picture : (s.trackEntry t).kind = .picture
  · rw [if_pos picture]
    refine ⟨(congrArg State.tables sp.rest :), (List.length_modify ..).trans sp.length, fun k hk _ => ?_,
      fun k hk hf => absurd hk hf, fun k hk => ?_, sp.schedule, sp.regions, sp.counts, sp.link⟩
    · obtain rfl := List.mem_singleton.mp hk
      rw [State.track_updTrack_same _ (sp.length ▸ ht), empty, window_create, State.trackEyes, startedTrack, if_pos picture]
    · rw [State.track_updTrack_other _ (by simpa using hk), sp.kept k hk]
  · rw [if_neg picture]
    refine ⟨(congrArg State.tables sp.rest :), sp.length, fun k hk _ => ?_, fun k hk hf => absurd hk hf, sp.kept, sp.schedule,
      sp.regions, sp.counts, sp.link⟩
    obtain rfl := List.mem_singleton.mp hk
    rw [empty, startedTrack, if_neg picture]
    rfl

theorem scheduleTracks_rescheduled (l : List Nat) {s : State} (hl : ∀ t ∈ l, t < s.tracks.length) :
    Rescheduled l l s (l.foldl State.scheduleTrack s) := by
  induction l generalizing s with
  | nil => exact .nil s
  | cons t l ih =>
    have first := scheduleTrack_rescheduled (hl t List.mem_cons_self)
    refine (first.append (ih fun k hk => ?_)).congr (by simp) fun k _ => ?_
    · rw [first.length]; exact hl k (List.mem_cons_of_mem _ hk)
    · simp only [List.mem_append, List.mem_filter, List.mem_cons, List.contains_iff_mem, List.not_mem_nil, Bool.not_eq_true']
      by_cases m : k ∈ l <;> simp [m]

/-- The tracks of a playlist position, if a slot stands there. -/
def tracksOf (s : State) (slot : Option Nat) : List Nat := (slot.map s.slotTracks).getD []

theorem mem_tracksOf {s : State} {slot : Option Nat} {k : Nat} : k ∈ tracksOf s slot ↔
    k ∈ essenceTracks ∧ (s.trackEntry k).valid = true ∧ slot = some (s.trackEntry k).slot := by
  cases slot with
  | none => simp [tracksOf]
  | some n => simp [tracksOf, State.slotTracks, eq_comm (a := n)]

theorem scheduleSlot_rescheduled {s : State} (h : s.tracks.length = 32) (slot : Option Nat) :
    Rescheduled (tracksOf s slot) (tracksOf s slot) s (s.scheduleSlot slot) := by
  cases slot with
  | none => exact .nil s
  | some n => exact scheduleTracks_rescheduled _ fun t ht => h ▸ slotTracks_lt ht

theorem unscheduleSlot_rescheduled (s : State) (slot : Option Nat) :
    Rescheduled (tracksOf s slot) [] s (s.unscheduleSlot slot) := by
  cases slot with
  | none => exact .nil s
  | some n => exact rescheduled_of_unscheduled (State.unscheduleTracks_spec _ s)

end Sys2Proof.Safety
end

-- ==== advance: the position advance ====
section
/-! PROOFS. The position advance (R49), by induction on the positions that it passes over: where it ends, its BARRED records (R158,
R161, R167), its flags, and its tracks (R7 to R9). -/

namespace Sys2Proof.Safety

open Sys2Proof.Machine

/-! ### Positions of the playlist -/

theorem slotAt_past {q : Sequencer} {p : Nat} (h : q.playlist.length < p) : q.slotAt p = none := by
  rw [Sequencer.slotAt, if_neg (by omega), List.getElem?_eq_none (by omega)]

theorem slotAt_le {q : Sequencer} {p n : Nat} (h : q.slotAt p = some n) : p ≤ q.playlist.length := by
  by_contra c
  rw [slotAt_past (by omega)] at h
  cases h

theorem slotAt_some {q : Sequencer} {p : Nat} (h1 : 1 ≤ p) (h2 : p ≤ q.playlist.length) : ∃ n, q.slotAt p = some n :=
  ⟨q.playlist[p - 1], by rw [Sequencer.slotAt, if_neg (by omega), List.getElem?_eq_getElem]⟩

/-- No slot stands at two consecutive positions. -/
theorem PlaylistOk.next_ne {s : State} (h : PlaylistOk s) {p n : Nat} (hp : s.seq.slotAt p = some n) :
    s.seq.slotAt (p + 1) ≠ some n := by
  intro c
  unfold Sequencer.slotAt at hp c
  split at hp
  · cases hp
  · rename_i hz
    rw [if_neg (by omega), Nat.add_sub_cancel] at c
    refine h (n, n) (List.mem_of_getElem? (i := p - 1) (List.getElem?_zip_eq_some.mpr ⟨hp, ?_⟩)) rfl
    rw [List.getElem?_tail, Nat.sub_add_cancel (by omega)]
    exact c

theorem mem_tracksAt {s : State} {positions : List Nat} {k : Nat} : k ∈ tracksAt s positions ↔
    k ∈ essenceTracks ∧ (s.trackEntry k).valid = true ∧ ∃ p ∈ positions, s.seq.slotAt p = some (s.trackEntry k).slot := by
  simp [tracksAt]

/-! ### What an advance reads -/

/-- Two states with the same tables, clock and playlist. -/
structure SameShow (s u : State) : Prop where
  tables   : u.tables = s.tables
  clk      : u.clk = s.clk
  playlist : u.seq.playlist = s.seq.playlist

theorem SameShow.slotAt {s u : State} (h : SameShow s u) (p : Nat) : u.seq.slotAt p = s.seq.slotAt p := by
  rw [Sequencer.slotAt, Sequencer.slotAt, h.playlist]

theorem SameShow.trackEntry {s u : State} (h : SameShow s u) (k : Nat) : u.trackEntry k = s.trackEntry k := by
  rw [State.trackEntry, State.trackEntry, h.tables]

theorem SameShow.composition {s u : State} (h : SameShow s u) (n : Nat) : u.composition n = s.composition n := by
  rw [State.composition, State.composition, h.tables]

theorem SameShow.licenceCheck {s u : State} (h : SameShow s u) (c : Composition) : u.licenceCheck c = s.licenceCheck c := by
  simp only [State.licenceCheck, State.licence, h.tables, h.clk]

theorem SameShow.barAt {s u : State} (h : SameShow s u) : barAt u = barAt s := by
  funext p
  unfold Safety.barAt
  rw [h.slotAt]
  cases s.seq.slotAt p with
  | none => rfl
  | some n => exact (h.licenceCheck _).trans (congrArg s.licenceCheck (h.composition n))

theorem SameShow.compositionAt {s u : State} (h : SameShow s u) : compositionAt u = compositionAt s := by
  funext p
  unfold Safety.compositionAt
  rw [h.slotAt]
  cases s.seq.slotAt p with
  | none => rfl
  | some n => exact h.composition n

theorem SameShow.tracksAt {s u : State} (h : SameShow s u) (positions : List Nat) : tracksAt u positions = tracksAt s positions := by
  simp only [Safety.tracksAt, h.trackEntry, funext h.slotAt]

theorem SameShow.playlistOk {s u : State} (h : SameShow s u) (ok : PlaylistOk s) : PlaylistOk u := by
  rw [PlaylistOk, h.playlist]; exact ok

theorem currentComposition_eq (s : State) : s.currentComposition = compositionAt s s.seq.position := rfl

/-- The licence check of the composition at the current position. -/
theorem barAt_position {s : State} (h1 : 1 ≤ s.seq.position) (h2 : s.seq.position ≤ s.seq.playlist.length) :
    s.licenceCheck s.currentComposition = barAt s s.seq.position := by
  obtain ⟨n, hn⟩ := slotAt_some h1 h2
  rw [currentComposition_eq, compositionAt, barAt, hn]

/-! ### What lies ahead -/

theorem laterPositions_past {s : State} (h : s.seq.playlist.length ≤ s.seq.position) : laterPositions s = [] := by
  rw [laterPositions, Nat.sub_eq_zero_of_le h]; rfl

/-- One position on, the later positions are those after it. -/
theorem laterPositions_cons {s u : State} (same : SameShow s u) (hu : u.seq.position = s.seq.position + 1)
    (h : s.seq.position < s.seq.playlist.length) : laterPositions s = u.seq.position :: laterPositions u := by
  rw [laterPositions, laterPositions, same.playlist, hu,
    show s.seq.playlist.length - s.seq.position = s.seq.playlist.length - (s.seq.position + 1) + 1 by omega]
  rfl

theorem barred_of_mem {s : State} {p : Nat} (h : p ∈ barredAhead s) : (barAt s p).isSome = true :=
  List.mem_takeWhile_imp (p := fun p => (barAt s p).isSome) h

theorem ahead_past {s : State} (h : s.seq.playlist.length ≤ s.seq.position) : barredAhead s = [] ∧ clearedAhead s = 0 := by
  rw [barredAhead, clearedAhead, laterPositions_past h]
  exact ⟨rfl, rfl⟩

theorem ahead_cleared {s u : State} (same : SameShow s u) (hu : u.seq.position = s.seq.position + 1)
    (h : s.seq.position < s.seq.playlist.length) (hb : barAt s u.seq.position = none) :
    barredAhead s = [] ∧ clearedAhead s = u.seq.position := by
  rw [barredAhead, clearedAhead, laterPositions_cons same hu h]
  exact ⟨List.takeWhile_cons_of_neg (by simp [hb]), by rw [List.find?_cons_of_pos (by simp [hb])]; rfl⟩

theorem ahead_barred {s u : State} (same : SameShow s u) (hu : u.seq.position = s.seq.position + 1)
    (h : s.seq.position < s.seq.playlist.length) {reason : BarReason} (hb : barAt s u.seq.position = some reason) :
    barredAhead s = u.seq.position :: barredAhead u ∧ clearedAhead s = clearedAhead u := by
  rw [barredAhead, clearedAhead, laterPositions_cons same hu h, barredAhead, clearedAhead, same.barAt]
  exact ⟨List.takeWhile_cons_of_pos (by simp [hb]), by rw [List.find?_cons_of_neg (by simp [hb])]⟩

/-! ### One position on -/

/-- What one position's move leaves as it was. -/
theorem positionOn_rest (s : State) : s.leavePosition.movePosition =
    { s with
      seq := { s.seq with
        position := if s.seq.playlist.length ≤ s.seq.position then 0 else s.seq.position + 1
        frame := 0
        cleared := false }
      cue := { s.cue with cursor := none }, repeats := 0
      tracks := s.leavePosition.movePosition.tracks, freeCells := s.leavePosition.movePosition.freeCells
      sub := s.leavePosition.movePosition.sub, link := s.leavePosition.movePosition.link } := by
  have sp := (unscheduleSlot_spec s s.seq.currentSlot).rest
  have left : s.leavePosition = { s with
      seq := { s.seq with frame := 0, cleared := false }, cue := { s.cue with cursor := none }, repeats := 0
      tracks := s.leavePosition.tracks, freeCells := s.leavePosition.freeCells, sub := s.leavePosition.sub
      link := s.leavePosition.link } := congrArg (fun u : State => { u with
        seq := { u.seq with frame := 0, cleared := false }, cue := { u.cue with cursor := none }, repeats := 0 }) sp
  have seq := (leavePosition_rest s).2
  generalize s.leavePosition = v at left seq ⊢
  unfold State.movePosition
  rw [show v.seq.playlist = s.seq.playlist by rw [seq], show v.seq.position = s.seq.position by rw [seq]]
  split
  · rw [left]; rfl
  · have moved := scheduleSlot_rest (v.updSeq fun q => { q with position := q.position + 1 })
      (v.updSeq fun q => { q with position := q.position + 1 }).seq.nextSlot
    dsimp only
    generalize State.scheduleSlot _ _ = w at moved ⊢
    rw [left] at moved
    exact moved

/-- The tracks of the position left, and those of the position two further on. -/
theorem positionOn_tracks {s : State} (hl : s.tracks.length = 32) :
    Rescheduled (tracksAt s [s.seq.position, s.seq.position + 2]) (tracksAt s [s.seq.position + 2]) s
      s.leavePosition.movePosition := by
  have leave : Rescheduled (tracksOf s s.seq.currentSlot) [] s s.leavePosition :=
    (unscheduleSlot_rescheduled s s.seq.currentSlot).of_view rfl rfl
  obtain ⟨tables, seq⟩ := leavePosition_rest s
  have length := leave.length.trans hl
  generalize s.leavePosition = v at leave tables seq length ⊢
  unfold State.movePosition
  rw [show v.seq.playlist = s.seq.playlist by rw [seq], show v.seq.position = s.seq.position by rw [seq]]
  split
  · rename_i past
    have none_there : s.seq.slotAt (s.seq.position + 2) = none := slotAt_past (by omega)
    refine (leave.of_view (u' := v.updSeq fun q => { q with position := 0 }) rfl rfl).congr (fun k => ?_) fun k _ => ?_
    · simp [mem_tracksOf, mem_tracksAt, none_there, Sequencer.currentSlot]
    · simp [mem_tracksAt, none_there]
  · have next : (v.updSeq fun q => { q with position := q.position + 1 }).seq.nextSlot = s.seq.slotAt (s.seq.position + 2) := by
      rw [State.updSeq_seq, seq]; rfl
    have enter := scheduleSlot_rescheduled (s := v.updSeq fun q => { q with position := q.position + 1 }) length
      (s.seq.slotAt (s.seq.position + 2))
    have entry : ∀ k, (v.updSeq fun q => { q with position := q.position + 1 }).trackEntry k = s.trackEntry k := fun k => by
      rw [State.trackEntry, State.trackEntry, State.updSeq_tables, tables]
    dsimp only
    rw [next]
    refine (leave.append (enter.of_view (s' := v) rfl rfl)).congr (fun k => ?_) fun k _ => ?_
    · simp only [List.mem_append, mem_tracksOf, mem_tracksAt, entry, Sequencer.currentSlot, List.mem_cons, List.not_mem_nil,
        or_false, exists_eq_or_imp, exists_eq_left]
      tauto
    · simp [mem_tracksOf, mem_tracksAt, entry]

/-! ### A barred composition -/

/-- A composition is barred (R158): accounting as `barredFirst` has it. -/
theorem writeBarred_eq {s : State} (h : s.acct.log.length ≤ 64) (hd : s.acct.drops ≤ 65535) (reason : BarReason) :
    s.writeBarred reason = { barredFirst s reason with mgmt := (s.writeBarred reason).mgmt } := by
  obtain ⟨rest, acct, -⟩ := State.joinLog_spec s (s.newRecord (.barred reason)) h
  have drops : (if s.acct.log.length < Config.logRecords then s.acct.drops else satInc s.acct.drops) =
      satAdd s.acct.drops (1 + s.acct.log.length - Config.logRecords) := by
    have full : Config.logRecords = 64 := rfl
    split
    · simp only [satAdd, Config.counterMax]; omega
    · simp only [satInc, satAdd, Config.counterMax]; omega
  rw [drops] at acct
  unfold State.writeBarred
  dsimp only
  generalize s.joinLog (s.newRecord (.barred reason)) = v at rest acct ⊢
  rw [State.raise_eq, rest, acct]
  rfl

/-- The flags and the upstream queue after a barred composition. -/
theorem writeBarred_mgmt {s : State} (h : s.acct.log.length ≤ 64) (reason : BarReason) :
    (∀ f, flagSet (s.writeBarred reason).mgmt.flags f = (flagSet s.mgmt.flags f ||
      match f with
      | .barred => true
      | .logWrap => decide (64 < 1 + s.acct.log.length)
      | _ => false)) ∧
    (s.writeBarred reason).mgmt.lane = s.mgmt.lane ∧ (s.writeBarred reason).mgmt.slots = s.mgmt.slots ∧
    (s.writeBarred reason).mgmt.reserved = s.mgmt.reserved := by
  obtain ⟨-, -, flags⟩ := State.joinLog_spec s (s.newRecord (.barred reason)) h
  have full : Config.logRecords = 64 := rfl
  refine ⟨fun f => ?_, ?_⟩
  · simp only [State.writeBarred, State.raise_flags, flags, flagSet_withFlag]
    split
    · rw [show decide (64 < 1 + s.acct.log.length) = false by simp; omega]
      cases f <;> simp
    · rw [show decide (64 < 1 + s.acct.log.length) = true by simp; omega]
      cases f <;> simp [flagSet_withFlag]
  · by_cases hl : s.acct.log.length < Config.logRecords <;> simp [State.writeBarred, State.joinLog, hl]

/-! ### The whole advance -/

/-- What an advance from `s` leaves. -/
structure Advanced (s t : State) : Prop where
  rest     : t = { s with seq := t.seq, acct := t.acct, mgmt := t.mgmt, tracks := t.tracks, freeCells := t.freeCells, sub := t.sub,
                          link := t.link, cue := { s.cue with cursor := none }, repeats := 0 }
  seq      : t.seq = { s.seq with position := clearedAhead s, frame := 0, cleared := decide (clearedAhead s ≠ 0) }
  recorded : AdvanceRecorded s t
  flags    : ∀ f, flagSet t.mgmt.flags f = (flagSet s.mgmt.flags f ||
    match f with
    | .barred => !(barredAhead s).isEmpty
    | .logWrap => decide (64 < (barredAhead s).length + s.acct.log.length)
    | _ => false)
  upstream : t.mgmt.lane = s.mgmt.lane ∧ t.mgmt.slots = s.mgmt.slots ∧ t.mgmt.reserved = s.mgmt.reserved
  tracks   : PlaylistOk s → s.tracks.length = 32 → Rescheduled (advanceTouches s) (aheadTracks s) s t

/-- Nothing barred, nothing recorded. -/
theorem advanceRecorded_of_none {s t : State} (hb : barredAhead s = []) (hl : s.acct.log.length ≤ 64) (hd : s.acct.drops ≤ 65535)
    (ha : t.acct = s.acct) : AdvanceRecorded s t := by
  have none_recorded : barredRecords s = [] := by rw [barredRecords, hb]; rfl
  refine ⟨?_, ?_, ?_, ?_⟩
  · rw [none_recorded, ha]; exact (List.take_of_length_le hl).symm
  · rw [hb, ha]; rfl
  · rw [hb, ha]
    simp only [satAdd, Config.logRecords, Config.counterMax, List.length_nil]
    omega
  · rw [hb, ha]; rfl

/-- The BARRED record of the composition at the current position (R167), as `barredFirst` has it. -/
def barredRecord (s : State) (reason : BarReason) : Record :=
  { number := s.acct.nextNumber, id := s.currentComposition.id, position := s.seq.position,
    licence := s.currentComposition.licence, startTime := s.clk.booth, countTime := none, presented := 0, repeated := 0,
    impaired := false, counted := false, outcome := .barred reason }

/-- The advance passes over a barred composition: what the rest of it records joins the BARRED record. -/
theorem AdvanceRecorded.after_barred {s v w t : State} {reason : BarReason} (h : AdvanceRecorded w t)
    (ha : w.acct = (barredFirst v reason).acct)
    (va : v.acct = s.acct) (vs : SameShow s v) (ws : SameShow s w)
    (hb : barAt s v.seq.position = some reason) (ahead : barredAhead s = v.seq.position :: barredAhead w) :
    AdvanceRecorded s t := by
  have next : w.acct.nextNumber = nextNumber s.acct.nextNumber := by rw [ha, ← va]; rfl
  have records : barredRecords s = barredRecord v reason :: barredRecords w := by
    rw [barredRecords, barredRecords, ahead, List.mapIdx_cons, ws.barAt, ws.compositionAt, ws.clk, next, ← vs.clk, ← va,
      barredRecord, currentComposition_eq, vs.compositionAt, hb]
    rfl
  have log : w.acct.log = (barredRecord v reason :: s.acct.log).take Config.logRecords := by rw [ha, ← va]; rfl
  have drops : w.acct.drops = satAdd s.acct.drops (1 + s.acct.log.length - Config.logRecords) := by rw [ha, ← va]; rfl
  refine ⟨?_, ?_, ?_, ?_⟩
  · rw [h.log, records, log]
    simp [List.take_append, List.take_take]
  · rw [h.next, next, ahead]; rfl
  · rw [h.drops, drops, log, ahead]
    simp only [satAdd, Config.logRecords, Config.counterMax, List.length_take, List.length_cons]
    omega
  · rw [h.barred, ahead, ws.barAt]
    cases e : barredAhead w with
    | nil => rw [ha]; simp [hb, barredFirst]
    | cons p ps =>
      obtain ⟨q, last⟩ : ∃ q, (p :: ps).getLast? = some q := ⟨_, List.getLast?_eq_some_getLast (List.cons_ne_nil p ps)⟩
      obtain ⟨r, hr⟩ := Option.isSome_iff_exists.mp (barred_of_mem (s := w) (e ▸ List.mem_of_getLast? last))
      rw [ws.barAt] at hr
      simp [List.getLast?_cons_cons, last, hr]

end Sys2Proof.Safety
end

-- ==== advanced: what an advance leaves ====
section
/-! PROOFS. The tracks of an advance (R7 to R9), and the advance as a whole (R49). -/

namespace Sys2Proof.Safety

open Sys2Proof.Machine

/-! ### The positions between -/

/-- The positions before the first one that is not barred are those that are passed over. -/
theorem mem_takeWhile_before_find {b : Nat → Option BarReason} (n : Nat) {a c q : Nat}
    (h : (List.range' a n).find? (fun p => (b p).isNone) = some c) (h1 : a ≤ q) (h2 : q < c) :
    q ∈ (List.range' a n).takeWhile fun p => (b p).isSome := by
  induction n generalizing a with
  | zero => cases h
  | succ n ih =>
    rw [List.range'_succ] at h ⊢
    by_cases free : (b a).isNone = true
    · rw [List.find?_cons_of_pos (p := fun p => (b p).isNone) free] at h
      cases h
      omega
    · rw [List.find?_cons_of_neg (p := fun p => (b p).isNone) free] at h
      rw [List.takeWhile_cons_of_pos (by simpa [Option.isSome_iff_ne_none] using free), List.mem_cons]
      by_cases e : q = a
      · exact .inl e
      · exact .inr (ih h (by omega))

/-- Every position from the current one to the one where the advance ends is left. -/
theorem left_before_cleared {s : State} (hc : clearedAhead s ≠ 0) : s.seq.position < clearedAhead s ∧
    ∀ q, s.seq.position ≤ q → q < clearedAhead s → q ∈ leftPositions s := by
  have e : clearedAhead s = ((laterPositions s).find? fun p => (barAt s p).isNone).getD 0 := rfl
  cases found : (laterPositions s).find? fun p => (barAt s p).isNone with
  | none => rw [found] at e; exact absurd e hc
  | some c =>
    rw [found] at e
    have later := List.mem_range'_1.mp (List.mem_of_find?_eq_some found)
    have ec : clearedAhead s = c := e
    rw [ec]
    refine ⟨by omega, fun q h1 h2 => List.mem_cons.mpr ?_⟩
    by_cases at_ : q = s.seq.position
    · exact .inl at_
    · exact .inr (mem_takeWhile_before_find _ found (by omega) h2)

/-- The next position is passed over, or the advance ends there. -/
theorem next_left_or_cleared {s : State} (h : s.seq.position < s.seq.playlist.length) :
    s.seq.position + 1 ∈ leftPositions s ∨ clearedAhead s = s.seq.position + 1 := by
  have later : laterPositions s =
      (s.seq.position + 1) :: List.range' (s.seq.position + 2) (s.seq.playlist.length - (s.seq.position + 1)) := by
    rw [laterPositions, show s.seq.playlist.length - s.seq.position = s.seq.playlist.length - (s.seq.position + 1) + 1 by omega]
    rfl
  cases hb : barAt s (s.seq.position + 1) with
  | none => exact .inr (by rw [clearedAhead, later, List.find?_cons_of_pos (by simp [hb])]; rfl)
  | some r =>
    refine .inl (List.mem_cons_of_mem _ ?_)
    rw [barredAhead, later, List.takeWhile_cons_of_pos (by simp [hb])]
    exact List.mem_cons_self

theorem mem_advanceTouches {s : State} {k : Nat} : k ∈ advanceTouches s ↔ k ∈ essenceTracks ∧ (s.trackEntry k).valid = true ∧
    ∃ p ∈ leftPositions s, s.seq.slotAt p = some (s.trackEntry k).slot ∨ s.seq.slotAt (p + 2) = some (s.trackEntry k).slot := by
  simp only [advanceTouches, mem_tracksAt, List.mem_append, List.mem_map, or_and_right, exists_or, and_or_left,
    exists_exists_and_eq_and]

theorem mem_aheadTracks {s : State} {k : Nat} : k ∈ aheadTracks s ↔ clearedAhead s ≠ 0 ∧ k ∈ essenceTracks ∧
    (s.trackEntry k).valid = true ∧
    (s.seq.slotAt (clearedAhead s) = some (s.trackEntry k).slot ∨
      s.seq.slotAt (clearedAhead s + 1) = some (s.trackEntry k).slot) := by
  unfold aheadTracks
  split <;> simp [mem_tracksAt, *]

/-- A track that the rest of the advance does not touch stands ahead at its end when it stands at the next position. -/
theorem mem_aheadTracks_of_untouched {s : State} {k : Nat} (hk : k ∈ essenceTracks) (hv : (s.trackEntry k).valid = true)
    (hn : k ∉ advanceTouches s) :
    k ∈ aheadTracks s ↔ s.seq.slotAt (s.seq.position + 1) = some (s.trackEntry k).slot := by
  have untouched : ∀ p ∈ leftPositions s,
      s.seq.slotAt p ≠ some (s.trackEntry k).slot ∧ s.seq.slotAt (p + 2) ≠ some (s.trackEntry k).slot := fun p hp =>
    not_or.mp fun c => hn (mem_advanceTouches.mpr ⟨hk, hv, p, hp, c⟩)
  rw [mem_aheadTracks]
  constructor
  · rintro ⟨hc, -, -, stands⟩
    obtain ⟨past, left⟩ := left_before_cleared hc
    by_cases first : clearedAhead s = s.seq.position + 1
    · rw [first] at stands
      exact stands.resolve_right (untouched _ List.mem_cons_self).2
    · have two_before := (untouched _ (left (clearedAhead s - 2) (by omega) (by omega))).2
      have one_before := (untouched _ (left (clearedAhead s - 1) (by omega) (by omega))).2
      rw [show clearedAhead s - 2 + 2 = clearedAhead s by omega] at two_before
      rw [show clearedAhead s - 1 + 2 = clearedAhead s + 1 by omega] at one_before
      exact absurd stands (not_or.mpr ⟨two_before, one_before⟩)
  · intro stands
    have inside : s.seq.position < s.seq.playlist.length := slotAt_le stands
    have ends := (next_left_or_cleared inside).resolve_left fun c => (untouched _ c).1 stands
    exact ⟨by omega, hk, hv, .inl (ends ▸ stands)⟩

/-! ### The tracks, step by step -/

/-- The advance ends at once, past the end or at the next position: the tracks of one position's move. -/
theorem rescheduled_at_end {s t : State} (ok : PlaylistOk s) (hb : barredAhead s = [])
    (hc : clearedAhead s = 0 ∧ s.seq.playlist.length ≤ s.seq.position ∨ clearedAhead s = s.seq.position + 1)
    (h : Rescheduled (tracksAt s [s.seq.position, s.seq.position + 2]) (tracksAt s [s.seq.position + 2]) s t) :
    Rescheduled (advanceTouches s) (aheadTracks s) s t := by
  refine h.congr (fun k => ?_) fun k hk => ?_
  · rw [mem_advanceTouches, mem_tracksAt, leftPositions, hb]
    simp
  · obtain ⟨he, hv, stands⟩ := mem_tracksAt.mp hk
    simp only [List.mem_cons, List.not_mem_nil, or_false, exists_eq_or_imp, exists_eq_left] at stands
    rw [mem_aheadTracks, mem_tracksAt]
    rcases hc with ⟨hc, past⟩ | hc
    · simp [hc, slotAt_past (q := s.seq) (p := s.seq.position + 2) (by omega)]
    · rw [hc]
      have apart : s.seq.slotAt (s.seq.position + 1) = some (s.trackEntry k).slot →
          s.seq.slotAt (s.seq.position + 2) = some (s.trackEntry k).slot := fun next =>
        stands.resolve_left fun here => ok.next_ne here next
      simp only [List.mem_cons, List.not_mem_nil, or_false, exists_eq_left]
      exact ⟨fun ⟨_, _, c⟩ => ⟨by omega, he, hv, .inr c⟩, fun ⟨_, _, _, c⟩ => ⟨he, hv, c.elim apart id⟩⟩

/-- The advance passes over a barred composition: one position's move and then the rest. -/
theorem rescheduled_after_barred {s w t : State} (same : SameShow s w) (hw : w.seq.position = s.seq.position + 1)
    (ahead : barredAhead s = w.seq.position :: barredAhead w) (cleared : clearedAhead s = clearedAhead w)
    (h : Rescheduled (tracksAt s [s.seq.position, s.seq.position + 2]) (tracksAt s [s.seq.position + 2]) s w)
    (g : Rescheduled (advanceTouches w) (aheadTracks w) w t) : Rescheduled (advanceTouches s) (aheadTracks s) s t := by
  have sameAhead : aheadTracks s = aheadTracks w := by
    rw [aheadTracks, aheadTracks, cleared, same.tracksAt]
  refine (h.append g).congr (fun k => ?_) fun k hk => ?_
  · have left : leftPositions s = s.seq.position :: leftPositions w := by rw [leftPositions, ahead]; rfl
    rw [List.mem_append, mem_tracksAt, mem_advanceTouches (s := w), mem_advanceTouches (s := s), left, same.trackEntry]
    simp only [same.slotAt, List.mem_cons, List.not_mem_nil, or_false, exists_eq_or_imp, exists_eq_left]
    rw [← and_or_left, ← and_or_left]
  · rw [sameAhead]
    by_cases later : k ∈ advanceTouches w
    · simp [later]
    · obtain ⟨he, hv, -⟩ := mem_tracksAt.mp ((List.mem_append.mp hk).resolve_right later)
      rw [mem_aheadTracks_of_untouched he (by rwa [same.trackEntry]) later, same.slotAt, same.trackEntry, hw]
      simp [later, mem_tracksAt, he, hv]

/-! ### The advance as a whole -/

/-- The position left for the next one. -/
structure PositionOn (s v : State) : Prop where
  rest   : v = { s with
    seq := { s.seq with
      position := if s.seq.playlist.length ≤ s.seq.position then 0 else s.seq.position + 1
      frame := 0
      cleared := false }
    cue := { s.cue with cursor := none }, repeats := 0
    tracks := v.tracks, freeCells := v.freeCells, sub := v.sub, link := v.link }
  tracks : s.tracks.length = 32 →
    Rescheduled (tracksAt s [s.seq.position, s.seq.position + 2]) (tracksAt s [s.seq.position + 2]) s v

theorem positionOn (s : State) : PositionOn s s.leavePosition.movePosition := ⟨positionOn_rest s, positionOn_tracks⟩

theorem PositionOn.seq {s v : State} (h : PositionOn s v) : v.seq = { s.seq with
    position := if s.seq.playlist.length ≤ s.seq.position then 0 else s.seq.position + 1, frame := 0, cleared := false } :=
  (congrArg State.seq h.rest :)

theorem PositionOn.acct {s v : State} (h : PositionOn s v) : v.acct = s.acct := (congrArg State.acct h.rest :)

theorem PositionOn.mgmt {s v : State} (h : PositionOn s v) : v.mgmt = s.mgmt := (congrArg State.mgmt h.rest :)

theorem PositionOn.sameShow {s v : State} (h : PositionOn s v) : SameShow s v :=
  ⟨(congrArg State.tables h.rest :), (congrArg State.clk h.rest :), by rw [h.seq]⟩

theorem PositionOn.position_inside {s v : State} (h : PositionOn s v) (hp : s.seq.position < s.seq.playlist.length) :
    v.seq.position = s.seq.position + 1 := by rw [h.seq, if_neg (by omega)]

/-- The advance ends past the end. -/
theorem Advanced.of_past {s v : State} (h : PositionOn s v) (past : s.seq.playlist.length ≤ s.seq.position)
    (hl : s.acct.log.length ≤ 64) (hd : s.acct.drops ≤ 65535) : Advanced s v := by
  obtain ⟨hb, hc⟩ := ahead_past past
  refine ⟨?_, ?_, advanceRecorded_of_none hb hl hd h.acct, fun f => ?_, by rw [h.mgmt]; exact ⟨rfl, rfl, rfl⟩,
    fun ok hk => rescheduled_at_end ok hb (.inl ⟨hc, past⟩) (h.tracks hk)⟩
  · rw [h.seq, h.acct, h.mgmt]; exact h.rest
  · rw [h.seq, hc, if_pos past]; rfl
  · rw [h.mgmt, hb]
    cases f <;> simp [hl]

/-- The advance ends at the next position, whose composition is cleared. -/
theorem Advanced.of_cleared {s v : State} (h : PositionOn s v) (inside : s.seq.position < s.seq.playlist.length)
    (hb : barAt s v.seq.position = none) (hl : s.acct.log.length ≤ 64) (hd : s.acct.drops ≤ 65535) :
    Advanced s (v.updSeq fun q => { q with cleared := true }) := by
  have position := h.position_inside inside
  obtain ⟨none_barred, hc⟩ := ahead_cleared h.sameShow position inside hb
  refine ⟨?_, ?_, advanceRecorded_of_none none_barred hl hd h.acct, fun f => ?_,
    by rw [State.updSeq_mgmt, h.mgmt]; exact ⟨rfl, rfl, rfl⟩,
    fun ok hk => rescheduled_at_end ok none_barred (.inr (hc.trans position)) ((h.tracks hk).of_view rfl rfl)⟩
  · exact (congrArg (fun u : State => { u with
      seq := { v.seq with cleared := true }, acct := v.acct, mgmt := v.mgmt }) h.rest :)
  · rw [State.updSeq_seq, hc, h.seq, if_neg (by omega)]
    simp
  · rw [State.updSeq_mgmt, h.mgmt, none_barred]
    cases f <;> simp [hl]

/-- The advance passes over the next position, whose composition is barred, and goes on. -/
theorem Advanced.of_barred {s v t : State} (h : PositionOn s v) (inside : s.seq.position < s.seq.playlist.length)
    {reason : BarReason} (hb : barAt s v.seq.position = some reason) (hl : s.acct.log.length ≤ 64)
    (hd : s.acct.drops ≤ 65535) (later : Advanced (v.writeBarred reason) t) : Advanced s t := by
  have barred := writeBarred_eq (s := v) (h.acct ▸ hl) (h.acct ▸ hd) reason
  obtain ⟨flags, lane, slots, reserved⟩ := writeBarred_mgmt (s := v) (h.acct ▸ hl) reason
  generalize v.writeBarred reason = w at barred flags lane slots reserved later
  have wseq : w.seq = v.seq := (congrArg State.seq barred :)
  have wacct : w.acct = (barredFirst v reason).acct := (congrArg State.acct barred :)
  have wtables : w.tables = v.tables := (congrArg State.tables barred :)
  have wclk : w.clk = v.clk := (congrArg State.clk barred :)
  have ws : SameShow s w := ⟨wtables.trans h.sameShow.tables, wclk.trans h.sameShow.clk, wseq ▸ h.sameShow.playlist⟩
  have wposition : w.seq.position = s.seq.position + 1 := by rw [wseq, h.position_inside inside]
  obtain ⟨ahead, cleared⟩ := ahead_barred ws wposition inside (by rw [wseq, hb])
  have loglength : w.acct.log.length = min 64 (s.acct.log.length + 1) := by
    rw [wacct, ← h.acct]; exact List.length_take ..
  obtain ⟨lane', slots', reserved'⟩ := later.upstream
  refine ⟨?_, ?_, later.recorded.after_barred wacct h.acct h.sameShow ws hb (by rw [ahead, wseq]), fun f => ?_,
    ⟨by rw [lane', lane, h.mgmt], by rw [slots', slots, h.mgmt], by rw [reserved', reserved, h.mgmt]⟩,
    fun ok hk => rescheduled_after_barred ws wposition ahead cleared ((h.tracks hk).of_view rfl ?_)
      (later.tracks (ws.playlistOk ok) ?_)⟩
  · have e := later.rest
    rw [barred, h.rest] at e
    exact e
  · rw [later.seq, wseq, h.seq, cleared]
  · rw [later.flags, flags, h.mgmt, h.acct, ahead, loglength]
    cases f <;> simp
    rw [Bool.or_assoc, ← Bool.decide_or]
    congr 2
    simp; omega
  · rw [barred]; rfl
  · rw [show w.tracks = v.tracks from (congrArg State.tracks barred :), (h.tracks hk).length, hk]

theorem advance_advanced (n : Nat) {s : State} (hn : s.seq.playlist.length - s.seq.position < n) (hl : s.acct.log.length ≤ 64)
    (hd : s.acct.drops ≤ 65535) : Advanced s (State.advance n s) := by
  induction n generalizing s with
  | zero => omega
  | succ n ih =>
    have h := positionOn s
    unfold State.advance
    dsimp only
    generalize s.leavePosition.movePosition = v at h ⊢
    by_cases past : s.seq.playlist.length ≤ s.seq.position
    · rw [if_pos (by rw [h.seq, if_pos past])]
      exact .of_past h past hl hd
    · have inside : s.seq.position < s.seq.playlist.length := by omega
      have position := h.position_inside inside
      have check := barAt_position (s := v) (by omega) (by rw [h.sameShow.playlist]; omega)
      rw [if_neg (by omega), check, h.sameShow.barAt]
      cases hb : barAt s v.seq.position with
      | none => exact .of_cleared h inside hb hl hd
      | some reason =>
        have barred := writeBarred_eq (s := v) (h.acct ▸ hl) (h.acct ▸ hd) reason
        refine .of_barred h inside hb hl hd (ih ?_ ?_ ?_)
        · rw [barred]
          change v.seq.playlist.length - v.seq.position < n
          rw [h.sameShow.playlist]; omega
        · rw [barred]; exact List.length_take_le ..
        · rw [barred]; exact Nat.min_le_right ..

theorem advancePosition_advanced {s : State} (hl : s.acct.log.length ≤ 64) (hd : s.acct.drops ≤ 65535) :
    Advanced s s.advancePosition := advance_advanced _ (by omega) hl hd

/-- What statements say of the tracks of an advance, before the records of `after`. -/
theorem tracksAdvance_of_rescheduled {s t u : State} {after : List LinkRecord}
    (h : Rescheduled (advanceTouches s) (aheadTracks s) s t) (ht : u.tracks = t.tracks) (hs : u.sub = t.sub)
    (hlink : u.link = t.link ++ after) : TracksAdvance s u after := by
  have track := State.track_congr ht
  obtain ⟨clears, rc, link⟩ := h.link
  refine ⟨fun k hk hf => (track k).trans (h.started k hk hf), fun k hk hf => (track k).trans (h.emptied k hk hf),
    fun k hk => (track k).trans (h.kept k hk), ?_, fun r hr => ?_, ?_, clears, rc, by rw [hlink, link]⟩
  · rw [hs, h.schedule]
  · rw [State.region, hs]; exact h.regions r hr
  · rw [hs, ← h.counts]

/-- Settles O45. -/
theorem advanceFindsCleared : Obligations.AdvanceFindsCleared := by
  unfold Obligations.AdvanceFindsCleared
  intro s hl hd
  have a := advancePosition_advanced hl hd
  generalize s.advancePosition = t at a ⊢
  have kept : ∀ {α : Type} (f : State → α), f t = f { s with
      seq := t.seq, acct := t.acct, mgmt := t.mgmt, tracks := t.tracks, freeCells := t.freeCells, sub := t.sub,
      link := t.link, cue := { s.cue with cursor := none }, repeats := 0 } := fun f => congrArg f a.rest
  exact ⟨a.seq, a.recorded, kept State.clk, kept State.tables, kept State.snd, kept State.booth, kept State.repeats,
    kept State.cue, fun ok hk => tracksAdvance_of_rescheduled (a.tracks ok hk) rfl rfl (List.append_nil _).symm, a.flags⟩

end Sys2Proof.Safety
end

-- ==== skip: the show moves on by SKIP ====
section
/-! PROOFS. SKIP (R50): what it ends, the advance, the state that the show enters, and the report and the reply (R33, R181). -/

namespace Sys2Proof.Safety

open Sys2Proof.Machine

/-! ### What an advance reads -/

theorem SameShow.ahead {s u : State} (h : SameShow s u) (hp : u.seq.position = s.seq.position) :
    barredAhead u = barredAhead s ∧ clearedAhead u = clearedAhead s := by
  have later : laterPositions u = laterPositions s := by rw [laterPositions, laterPositions, hp, h.playlist]
  rw [barredAhead, barredAhead, clearedAhead, clearedAhead, later, h.barAt]
  exact ⟨rfl, rfl⟩

theorem SameShow.lists {s u : State} (h : SameShow s u) (hp : u.seq.position = s.seq.position) :
    advanceTouches u = advanceTouches s ∧ aheadTracks u = aheadTracks s := by
  obtain ⟨barred, cleared⟩ := h.ahead hp
  rw [advanceTouches, advanceTouches, aheadTracks, aheadTracks, leftPositions, leftPositions, barred, cleared, hp, h.tracksAt,
    h.tracksAt]
  exact ⟨rfl, rfl⟩

theorem AdvanceRecorded.congr {s u t v : State} (h : AdvanceRecorded u v) (same : SameShow s u)
    (hp : u.seq.position = s.seq.position) (ha : u.acct = s.acct) (ht : t.acct = v.acct) : AdvanceRecorded s t := by
  obtain ⟨barred, -⟩ := same.ahead hp
  have records : barredRecords u = barredRecords s := by
    rw [barredRecords, barredRecords, barred, ha, same.compositionAt, same.barAt, same.clk]
  obtain ⟨log, next, drops, last⟩ := h
  rw [records, ha] at log
  rw [barred, ha] at next drops last
  rw [same.barAt] at last
  exact ⟨ht ▸ log, ht ▸ next, ht ▸ drops, ht ▸ last⟩

theorem updOpen_kept (a : Accounting) (f : Record → Record) :
    (a.updOpen f).log.length = a.log.length ∧ (a.updOpen f).drops = a.drops := by
  cases h : a.openRecord? with
  | none => rw [Accounting.updOpen_none h]; exact ⟨rfl, rfl⟩
  | some r =>
    rw [Accounting.updOpen_some h]
    unfold Accounting.openRecord? at h
    cases hl : a.log with
    | nil => rw [hl] at h; cases h
    | cons x xs => exact ⟨rfl, rfl⟩

/-! ### What SKIP ends -/

/-- What SKIP ends (R50, R96): the open record, the timers, a hold or a stall. -/
structure SkipEnded (s e : State) : Prop where
  rest     : e = { s with
    seq := { s.seq with prerollTimer := none, stallTimer := none }
    snd := { s.snd with fader :=
      if (s.seq.state = .holding ∨ s.seq.state = .stalled) ∧ s.snd.fader.muted = false then
        { s.snd.fader with value := 0, target := s.snd.fader.saved, rate := s.tables.settings.resumeRate }
      else s.snd.fader }
    acct := e.acct, mgmt := e.mgmt }
  acct     : e.acct = (if s.seq.state.onAir then s.closeRecord else s).acct
  flags    : ∀ f, flagSet e.mgmt.flags f = (flagSet s.mgmt.flags f || (decide (f = .compositionEnd) && s.seq.state.onAir))
  upstream : e.mgmt.lane = s.mgmt.lane ∧ e.mgmt.slots = s.mgmt.slots ∧ e.mgmt.reserved = s.mgmt.reserved

/-- The open record closes where a composition was on the timeline. -/
def skipClosed (s : State) : State := if s.seq.state.onAir then s.closeRecord.raise .compositionEnd else s

theorem skipClosed_rest (s : State) : skipClosed s = { s with acct := (skipClosed s).acct, mgmt := (skipClosed s).mgmt } := by
  unfold skipClosed
  split
  · rw [State.raise_eq]; rfl
  · rfl

theorem skipClosed_acct (s : State) : (skipClosed s).acct = (if s.seq.state.onAir then s.closeRecord else s).acct := by
  unfold skipClosed
  split
  · rw [State.raise_acct]
  · rfl

theorem skipClosed_flags (s : State) (f : Flag) : flagSet (skipClosed s).mgmt.flags f =
    (flagSet s.mgmt.flags f || (decide (f = .compositionEnd) && s.seq.state.onAir)) := by
  cases air : s.seq.state.onAir <;> simp [skipClosed, air]

theorem skipClosed_upstream (s : State) : (skipClosed s).mgmt.lane = s.mgmt.lane ∧ (skipClosed s).mgmt.slots = s.mgmt.slots ∧
    (skipClosed s).mgmt.reserved = s.mgmt.reserved := by
  cases air : s.seq.state.onAir <;> simp [skipClosed, air]

theorem resumeEvent_eq (s : State) : s.resumeEvent = { s with snd := { s.snd with fader :=
    if s.snd.fader.muted = false then
      { s.snd.fader with value := 0, target := s.snd.fader.saved, rate := s.tables.settings.resumeRate }
    else s.snd.fader } } := by
  cases muted : s.snd.fader.muted <;> simp [State.resumeEvent, State.updFader, muted]

theorem endBySkip_ended (s : State) : SkipEnded s s.endBySkip := by
  have rest := skipClosed_rest s
  have acct := skipClosed_acct s
  have flags := skipClosed_flags s
  have upstream := skipClosed_upstream s
  have steps : s.endBySkip = if s.seq.state = .holding ∨ s.seq.state = .stalled then
        ((skipClosed s).updSeq fun q => { q with prerollTimer := none, stallTimer := none }).resumeEvent
      else (skipClosed s).updSeq fun q => { q with prerollTimer := none, stallTimer := none } := rfl
  rw [steps]
  generalize skipClosed s = c at rest acct flags upstream
  by_cases resumed : s.seq.state = .holding ∨ s.seq.state = .stalled
  · rw [if_pos resumed, resumeEvent_eq]
    refine ⟨?_, acct, flags, upstream⟩
    simp only [resumed, true_and]
    rw [rest]
    rfl
  · rw [if_neg resumed]
    refine ⟨?_, acct, flags, upstream⟩
    simp only [resumed, false_and, if_false]
    rw [rest]
    rfl

/-! ### Where SKIP leads -/

/-- What SKIP leaves (R50), before its report. -/
structure Skipped (s w : State) : Prop where
  seq      : w.seq = { s.seq with
    state := if clearedAhead s = 0 then .ended else .preroll
    position := clearedAhead s
    frame := 0
    cleared := decide (clearedAhead s ≠ 0)
    prerollTimer := if clearedAhead s = 0 then none else some 0
    stallTimer := none }
  clock    : w.clk = if clearedAhead s = 0 then { s.clk with period := s.idlePeriod } else s.clk
  sound    : w.snd = { s.snd with fader :=
    if (s.seq.state = .holding ∨ s.seq.state = .stalled) ∧ s.snd.fader.muted = false then
      { s.snd.fader with value := 0, target := s.snd.fader.saved, rate := s.tables.settings.resumeRate }
    else s.snd.fader }
  cue      : w.cue = { s.cue with cursor := none }
  repeats  : w.repeats = 0
  kept     : w.tables = s.tables ∧ w.port = s.port ∧ w.booth = s.booth
  recorded : AdvanceRecorded (if s.seq.state.onAir then s.closeRecord else s) w
  tracks   : PlaylistOk s → s.tracks.length = 32 →
    TracksAdvance s w (if s.seq.state = .preroll ∧ clearedAhead s ≠ 0 then [] else [.black])
  flags    : ∀ f, flagSet w.mgmt.flags f = (flagSet s.mgmt.flags f ||
    match f with
    | .compositionEnd => s.seq.state.onAir
    | .barred => !(barredAhead s).isEmpty
    | .logWrap => decide (64 < (barredAhead s).length + s.acct.log.length)
    | _ => false)
  upstream : w.mgmt.lane = s.mgmt.lane ∧ w.mgmt.slots = s.mgmt.slots ∧ w.mgmt.reserved = s.mgmt.reserved

/-- The show enters ENDED or PREROLL when the advance has ended. -/
def enterAhead (a : State) : State := if a.seq.position = 0 then a.enterEnded else a.enterPreroll

theorem enterAhead_eq (a : State) : enterAhead a = { a with
    seq := { a.seq with
      state := if a.seq.position = 0 then .ended else .preroll
      frame := if a.seq.position = 0 then 0 else a.seq.frame
      prerollTimer := if a.seq.position = 0 then none else some 0
      stallTimer := none }
    clk := if a.seq.position = 0 then { a.clk with period := a.idlePeriod } else a.clk
    repeats := if a.seq.position = 0 then 0 else a.repeats
    cue := if a.seq.position = 0 then { a.cue with cursor := none } else a.cue
    link := a.link ++ if a.seq.state = .preroll ∧ a.seq.position ≠ 0 then [] else [.black] } := by
  unfold enterAhead
  by_cases past : a.seq.position = 0
  · simp only [past, if_true, ne_eq, not_true_eq_false, and_false, if_false]
    rfl
  · simp only [past, if_false, ne_eq, not_false_eq_true, and_true]
    unfold State.enterPreroll
    by_cases left : a.seq.state = .preroll
    · simp only [left, if_true, List.append_nil]
      rfl
    · simp only [left, if_false]
      rfl

theorem skip_skipped {s : State} (hl : s.acct.log.length ≤ 64) (hd : s.acct.drops ≤ 65535) :
    Skipped s (enterAhead s.endBySkip.advancePosition) := by
  have ended := endBySkip_ended s
  generalize s.endBySkip = e at ended ⊢
  have seq : e.seq = { s.seq with prerollTimer := none, stallTimer := none } := (congrArg State.seq ended.rest :)
  have show_ : SameShow s e := ⟨(congrArg State.tables ended.rest :), (congrArg State.clk ended.rest :), by rw [seq]⟩
  have position : e.seq.position = s.seq.position := by rw [seq]
  have log : e.acct.log.length = s.acct.log.length := by
    rw [ended.acct]; split
    · exact (updOpen_kept _ _).1
    · rfl
  have drops : e.acct.drops = s.acct.drops := by
    rw [ended.acct]; split
    · exact (updOpen_kept _ _).2
    · rfl
  obtain ⟨barred, cleared⟩ := show_.ahead position
  obtain ⟨touches, ahead⟩ := show_.lists position
  have adv := advancePosition_advanced (s := e) (log ▸ hl) (drops ▸ hd)
  generalize e.advancePosition = a at adv ⊢
  have same : ∀ {α : Type} (f : State → α), f a = f { e with
      seq := a.seq, acct := a.acct, mgmt := a.mgmt, tracks := a.tracks, freeCells := a.freeCells, sub := a.sub,
      link := a.link, cue := { e.cue with cursor := none }, repeats := 0 } := fun f => congrArg f adv.rest
  have aposition : a.seq.position = clearedAhead s := by rw [adv.seq, cleared]
  have astate : a.seq.state = s.seq.state := by rw [adv.seq, seq]
  have atables : a.tables = s.tables := (same State.tables).trans show_.tables
  have aclk : a.clk = s.clk := (same State.clk).trans show_.clk
  have acue : a.cue = { s.cue with cursor := none } :=
    (same State.cue).trans (congrArg (fun u : State => { u.cue with cursor := none }) ended.rest :)
  have arepeats : a.repeats = 0 := same State.repeats
  have enters := enterAhead_eq a
  rw [aposition, astate] at enters
  generalize enterAhead a = w at enters ⊢
  have mgmt : w.mgmt = a.mgmt := (congrArg State.mgmt enters :)
  obtain ⟨lane, slots, reserved⟩ := adv.upstream
  obtain ⟨lane', slots', reserved'⟩ := ended.upstream
  refine ⟨?_, ?_, ?_, ?_, ?_, ⟨?_, ?_, ?_⟩, ?_, fun ok hk => ?_, fun f => ?_, by rw [mgmt, lane, lane'],
    by rw [mgmt, slots, slots'], by rw [mgmt, reserved, reserved']⟩
  · rw [enters, adv.seq, seq, cleared]
    simp
  · rw [enters, aclk, State.idlePeriod, atables]
    rfl
  · exact (congrArg State.snd enters).trans ((same State.snd).trans (congrArg State.snd ended.rest :))
  · rw [enters, acue]
    simp
  · rw [enters, arepeats]
    simp
  · exact (congrArg State.tables enters).trans atables
  · exact (congrArg State.port enters).trans ((same State.port).trans (congrArg State.port ended.rest :))
  · exact (congrArg State.booth enters).trans ((same State.booth).trans (congrArg State.booth ended.rest :))
  · refine adv.recorded.congr ?_ ?_ ?_ (congrArg State.acct enters :)
    · split
      · exact ⟨show_.tables, show_.clk, show_.playlist⟩
      · exact show_
    · split
      · exact position
      · exact position
    · exact ended.acct
  · have moved := adv.tracks (show_.playlistOk ok) (by rw [show e.tracks = s.tracks from (congrArg State.tracks ended.rest :), hk])
    rw [touches, ahead] at moved
    exact tracksAdvance_of_rescheduled (moved.of_view (by rw [ended.rest]; rfl) rfl) (congrArg State.tracks enters :)
      (congrArg State.sub enters :) (congrArg State.link enters :)
  · rw [mgmt, adv.flags, ended.flags, barred, log]
    cases f <;> simp

/-! ### The request -/

theorem TracksAdvance.of_mgmt {s w t : State} {reserved : Bool} {after : List LinkRecord}
    (h : TracksAdvance (s.setReserved reserved) w after) (ht : t = { w with mgmt := t.mgmt }) : TracksAdvance s t after := by
  obtain ⟨started, emptied, kept, schedule, regions, counts, clears, rc, link⟩ := h
  rw [ht]
  exact ⟨started, emptied, kept, schedule, regions, counts, clears, rc.congr rfl, link⟩

/-- SHOW_STATE is the one flag that a report of a change may set. -/
theorem reportChange_flagSet (w : State) (q : ShowState) (f : Flag) : flagSet (w.reportChange q).mgmt.flags f =
    (flagSet w.mgmt.flags f || (decide (f = .showState) && decide (w.seq.state ≠ q))) := by
  rw [State.reportChange_flags]
  by_cases h : w.seq.state = q <;> simp [h]

/-- Settles O10. -/
theorem skipAdvancesPosition : Obligations.SkipAdvancesPosition := by
  intro tag s h running hl hd ok hk
  have skipped := skip_skipped (s := s.setReserved true) hl hd
  have taken := showCommand_taken (tag := tag) (c := .skip) (w := enterAhead (s.setReserved true).endBySkip.advancePosition)
    h (if_pos running)
  generalize enterAhead (s.setReserved true).endBySkip.advancePosition = w at skipped taken
  obtain ⟨tables, port, booth⟩ := skipped.kept
  obtain ⟨lane, slots, reserved⟩ := skipped.upstream
  have state : w.seq.state = if clearedAhead s = 0 then .ended else .preroll := congrArg Sequencer.state skipped.seq
  have code : w.seq.state.code = if clearedAhead s = 0 then 0x06 else 0x02 := by rw [state]; split <;> rfl
  have latch : w.booth.latch = s.booth.latch := congrArg Booth.latch booth
  have changed : decide (w.seq.state ≠ s.seq.state) = !decide (s.seq.state = .preroll ∧ clearedAhead s ≠ 0) := by
    rw [state, ← decide_not, decide_eq_decide]
    by_cases past : clearedAhead s = 0
    · simp only [past, if_true, ne_eq, not_true_eq_false, and_false, not_false_eq_true, iff_true]
      intro c
      rw [← c] at running
      cases running
    · simp [past, eq_comm]
  rw [code, latch] at taken
  have queued := ReplyQueued.of_report (s := s) lane slots reserved
    [0x03, tag, 0x00, if clearedAhead s = 0 then 0x06 else 0x02, boolByte s.booth.latch, 0x00]
  rw [changed] at queued
  have report := answered_report_eq w s.seq.state
    [0x03, tag, 0x00, if clearedAhead s = 0 then 0x06 else 0x02, boolByte s.booth.latch, 0x00]
  refine ⟨_, taken, (congrArg State.seq report).trans skipped.seq, ?_, (congrArg State.clk report).trans skipped.clock,
    (congrArg State.snd report).trans skipped.sound, (congrArg State.cue report).trans skipped.cue,
    (congrArg State.repeats report).trans skipped.repeats, (congrArg State.tables report).trans tables,
    (congrArg State.port report).trans port, (congrArg State.booth report).trans booth, (skipped.tracks ok hk).of_mgmt report,
    fun f => ?_, queued, replied_answered _ _⟩
  · have base : (if (s.setReserved true).seq.state.onAir then (s.setReserved true).closeRecord else s.setReserved true) =
        (if s.seq.state.onAir then s.closeRecord else s).setReserved true := by
      rw [State.setReserved_seq]
      split <;> rfl
    exact (base ▸ skipped.recorded).congr ⟨rfl, rfl, rfl⟩ rfl rfl (congrArg State.acct report :)
  · rw [answered_flags, reportChange_flagSet, changed, skipped.flags]
    cases f <;> simp <;> rfl

end Sys2Proof.Safety
end

-- ==== arm: a playlist is armed ====
section
/-! PROOFS. ARM of a playlist that meets R35's checks: the checks, and the tracks of the first two positions (R36, R8). -/

namespace Sys2Proof.Safety

open Sys2Proof.Machine

/-! ### The nine checks -/

/-- Check 9 over a sheet's entries. -/
theorem triggersOk_of_ordered {f : Nat → Nat} {duration : Nat} (n : Nat) {first : Nat}
    (h : ∀ i, first ≤ i → i < first + n → f i ≤ duration ∧ (i + 1 < first + n → f i ≤ f (i + 1))) :
    triggersOk duration ((List.range' first n).map f) = true := by
  induction n generalizing first with
  | zero => rfl
  | succ n ih =>
    obtain ⟨within, ordered⟩ := h first (by omega) (by omega)
    cases n with
    | zero => exact decide_eq_true within
    | succ n =>
      have rest := ih (first := first + 1) fun i h1 h2 => ⟨(h i (by omega) (by omega)).1, fun h3 =>
        (h i (by omega) (by omega)).2 (by omega)⟩
      exact Bool.and_eq_true_iff.mpr ⟨decide_eq_true ⟨within, ordered (by omega)⟩, rest⟩

theorem kindTracks_kind {s : State} {kind : TrackKind} {slot t : Nat} (h : t ∈ s.kindTracks kind slot) :
    (s.trackEntry t).kind = kind := by
  simpa using (List.mem_filter.mp h).2

theorem armSlotOk_of_armSlot {s : State} {before : Option Nat} {slot : Nat} (h : ArmSlot s before slot) :
    s.armSlotOk before slot = true := by
  obtain ⟨main, aux, mains, auxes⟩ := h.sound
  have channels : (s.kindTracks .soundMain slot ++ s.kindTracks .soundAux slot).all (fun t =>
      (s.trackEntry t).channels.isSome && channelsInRange (s.trackEntry t).kind (s.trackEntry t).channels) = true := by
    refine List.all_eq_true.mpr fun t ht => ?_
    rcases List.mem_append.mp ht with ht | ht
    · obtain ⟨n, hn, range⟩ := mains t ht
      rw [hn, kindTracks_kind ht]
      simpa [channelsInRange] using range
    · obtain ⟨n, hn, range⟩ := auxes t ht
      rw [hn, kindTracks_kind ht]
      simpa [channelsInRange] using range
  have licence : (s.composition slot).licence.all (fun i => (s.licence i).valid) = true := by
    cases hi : (s.composition slot).licence with
    | none => rfl
    | some i => exact h.licence i hi
  have subtitle : (s.composition slot).subtitle.all (fun t =>
      (s.trackEntry t).valid && (s.trackEntry t).kind == .subtitle && (s.trackEntry t).slot == slot) = true := by
    cases ht : (s.composition slot).subtitle with
    | none => rfl
    | some t =>
      obtain ⟨valid, kind, names⟩ := h.subtitle t ht
      simp [valid, kind, names]
  have sheet : (s.composition slot).sheet.all (fun x =>
      triggersOk (s.composition slot).duration ((List.range' x.1 x.2).map fun i => (s.cueEntry i).trigger)) = true := by
    cases hx : (s.composition slot).sheet with
    | none => rfl
    | some x => exact triggersOk_of_ordered x.2 (h.sheet x.1 x.2 hx)
  simp only [State.armSlotOk, Bool.and_eq_true, decide_eq_true_eq, bne_iff_ne, beq_iff_eq]
  exact ⟨⟨⟨⟨⟨⟨⟨⟨⟨h.number, h.valid⟩, h.differs⟩, h.picture⟩, main, aux⟩, channels⟩, h.count⟩, licence⟩, subtitle⟩, sheet⟩

/-- Positions that all pass: none fails. -/
theorem firstFailing_none {s : State} (slots : List Nat) {before : Option Nat} {p : Nat}
    (h : ∀ i slot, slots[i]? = some slot → ArmSlot s (if i = 0 then before else slots[i - 1]?) slot) :
    s.firstFailing before p slots = none := by
  induction slots generalizing before p with
  | nil => rfl
  | cons slot rest ih =>
    have first : ArmSlot s before slot := h 0 slot rfl
    rw [State.firstFailing, if_pos (armSlotOk_of_armSlot first)]
    refine ih fun i next hi => ?_
    have later := h (i + 1) next hi
    cases i with
    | zero => exact later
    | succ i => exact later

theorem armFailure_none {s : State} {slots : List Nat} (h1 : 1 ≤ slots.length) (h16 : slots.length ≤ 16)
    (h : ∀ p, 1 ≤ p → p ≤ slots.length → ArmPosition s slots p) : s.armFailure slots = none := by
  rw [State.armFailure, if_neg (by omega)]
  refine firstFailing_none slots fun i slot hi => ?_
  obtain ⟨inside, -⟩ := List.getElem?_eq_some_iff.mp hi
  obtain ⟨slot', hs, passes⟩ := h (i + 1) (by omega) (by omega)
  rw [Nat.add_sub_cancel, hi] at hs
  cases hs
  cases i with
  | zero => exact passes
  | succ i => exact passes

/-! ### The tracks of the first two positions -/

/-- With no show armed or running no track holds anything. -/
theorem CellsOk.vacant_of_inactive {s : State} (h : CellsOk s) (ha : s.seq.state.active = false) (k : Nat) : Vacant (s.track k) :=
  h.empty k (by simp [State.scheduled, ha])

/-- With no show armed or running there is no item. -/
theorem CellsOk.no_items {s : State} (h : CellsOk s) (ha : s.seq.state.active = false) :
    s.sub.schedule = [] ∧ ∀ r, s.region r = none := by
  have none_scheduled : ∀ k, s.scheduled k ≠ true := fun k => by simp [State.scheduled, ha]
  refine ⟨List.eq_nil_iff_forall_not_mem.mpr fun i hi => none_scheduled _ (h.items i (.inl hi)).2.2, fun r => ?_⟩
  cases hr : s.region r with
  | none => rfl
  | some x => exact absurd (h.items _ (.inr (region_mem hr))).2.2 (none_scheduled _)

/-- The part with the show in ARMED, before its tracks become scheduled. -/
def armed (s : State) (slots : List Nat) : State := { s with seq := ⟨.armed, slots, 1, 0, false, none, none, .none⟩ }

theorem enterArmed_eq (s : State) (slots : List Nat) :
    s.enterArmed slots = ((armed s slots).scheduleSlot slots[0]?).scheduleSlot slots[1]? := rfl

theorem enterArmed_rest (s : State) (slots : List Nat) : s.enterArmed slots =
    { armed s slots with
      tracks := (s.enterArmed slots).tracks, freeCells := (s.enterArmed slots).freeCells
      sub := (s.enterArmed slots).sub, link := (s.enterArmed slots).link } := by
  have first := scheduleSlot_rest (armed s slots) slots[0]?
  rw [enterArmed_eq]
  generalize (armed s slots).scheduleSlot slots[0]? = v at first ⊢
  have second := scheduleSlot_rest v slots[1]?
  generalize v.scheduleSlot slots[1]? = w at second ⊢
  rw [first] at second
  exact second

/-- The tracks that a show just armed schedules. -/
def armedTracks (s : State) (slots : List Nat) : List Nat := tracksOf s slots[0]? ++ tracksOf s slots[1]?

theorem enterArmed_rescheduled {s : State} (hl : s.tracks.length = 32) (slots : List Nat) :
    Rescheduled (armedTracks s slots) (armedTracks s slots) s (s.enterArmed slots) := by
  rw [enterArmed_eq]
  have first := scheduleSlot_rescheduled (s := armed s slots) hl slots[0]?
  have second := scheduleSlot_rescheduled (first.length.trans hl) slots[1]?
  generalize (armed s slots).scheduleSlot slots[0]? = v at first second ⊢
  have entry : ∀ k, v.trackEntry k = s.trackEntry k := fun k => by
    rw [State.trackEntry, State.trackEntry, first.tables]; rfl
  have fresh : ∀ k, k ∈ tracksOf v slots[1]? ↔ k ∈ tracksOf s slots[1]? := fun k => by
    rw [mem_tracksOf, mem_tracksOf, entry]
  refine ((first.append second).of_view (s' := s) rfl rfl).congr (fun k => ?_) fun k hk => ?_
  · rw [List.mem_append, fresh, ← List.mem_append]; rfl
  · have all : k ∈ armedTracks s slots := by
      rw [List.mem_append, fresh, ← List.mem_append] at hk; exact hk
    refine iff_of_true ?_ all
    by_cases later : k ∈ tracksOf v slots[1]?
    · simp [later]
    · simpa [later] using (List.mem_append.mp hk).resolve_right later

theorem mem_armedTracks {s : State} {slots : List Nat} {k : Nat} (hk : k ≤ 31) :
    k ∈ armedTracks s slots ↔ (s.enterArmed slots).scheduled k = true := by
  have essence : (s.trackEntry k).valid = true → k ∈ essenceTracks := fun v => List.mem_of_mem_filter (mem_slotTracks (by omega) v)
  have entry : (s.enterArmed slots).trackEntry k = s.trackEntry k := by rw [enterArmed_rest]; rfl
  have seq : (s.enterArmed slots).seq = (armed s slots).seq := by rw [enterArmed_rest]
  rw [scheduled_iff, entry, seq, armedTracks, List.mem_append, mem_tracksOf, mem_tracksOf]
  exact ⟨fun h => h.elim (fun ⟨_, v, e⟩ => ⟨v, rfl, .inl e⟩) fun ⟨_, v, e⟩ => ⟨v, rfl, .inr e⟩,
    fun ⟨v, _, e⟩ => e.imp (fun e => ⟨essence v, v, e⟩) fun e => ⟨essence v, v, e⟩⟩

/-- Every cell is free when no track holds anything. -/
theorem CellsOk.freeCells_of_vacant {s : State} (h : CellsOk s) (hv : ∀ k, (s.track k).cellsHeld = 0) :
    s.freeCells = Config.poolCells := by
  have sum : (s.tracks.map Track.cellsHeld).sum = 0 := List.sum_eq_zero fun n hn => by
    obtain ⟨k, hk, rfl⟩ := List.mem_map.mp hn
    obtain ⟨i, hi, rfl⟩ := List.mem_iff_getElem.mp hk
    simpa only [State.track, List.getD_eq_getElem _ _ hi] using hv i
  have := h.total
  omega

/-- What ARM leaves beside the tracks (R36): nothing was held, so no cell, item or region changes. -/
structure Armed (s w : State) (slots : List Nat) : Prop where
  rest   : w = { armed s slots with tracks := w.tracks }
  length : w.tracks.length = 32
  tracks : ∀ k, k ≤ 31 → w.track k = if w.scheduled k then startedTrack s k else s.track k

theorem enterArmed_armed {s : State} (h : CellsOk s) (ha : s.seq.state.active = false) (slots : List Nat) :
    Armed s (s.enterArmed slots) slots := by
  have moved := enterArmed_rescheduled h.tracks slots
  have cells := h.enterArmed ha slots
  have rest := enterArmed_rest s slots
  have which : ∀ k, k ≤ 31 → (k ∈ armedTracks s slots ↔ (s.enterArmed slots).scheduled k = true) := fun k => mem_armedTracks
  generalize s.enterArmed slots = w at moved cells rest which
  obtain ⟨schedule, region⟩ := h.no_items ha
  have tracks : ∀ k, k ≤ 31 → w.track k = if w.scheduled k then startedTrack s k else s.track k := fun k hk => by
    by_cases hs : w.scheduled k = true
    · rw [if_pos hs, moved.started k ((which k hk).mpr hs) ((which k hk).mpr hs)]
    · rw [if_neg hs, moved.kept k fun c => hs ((which k hk).mp c)]
  have free_before : s.freeCells = Config.poolCells := h.freeCells_of_vacant fun k => by
    rw [h.vacant_of_inactive ha k]; rfl
  have free_after : w.freeCells = Config.poolCells := cells.freeCells_of_vacant fun k => by
    by_cases hg : k ∈ armedTracks s slots
    · rw [moved.started k hg hg]; rfl
    · rw [moved.kept k hg, h.vacant_of_inactive ha k]; rfl
  have regions : w.sub.regions = s.sub.regions := List.ext_getElem (cells.regions.trans h.regions.symm) fun r h1 h2 => by
    have e : w.region r = s.region r := by
      rw [moved.regions r (by have := h.regions; omega), region r]; rfl
    simpa only [State.region, List.getD_eq_getElem _ _ h1, List.getD_eq_getElem _ _ h2] using e
  have sub : w.sub = s.sub := by
    have none_gone : (s.sub.schedule.filter fun i => !(armedTracks s slots).contains i.track) = s.sub.schedule := by
      rw [schedule]; rfl
    rw [moved.counts, moved.schedule, regions, none_gone]
  have link : w.link = s.link := by
    obtain ⟨clears, rc, e⟩ := moved.link
    have none_cleared : clears = [] := List.eq_nil_iff_forall_not_mem.mpr fun r hr => by
      obtain ⟨-, x, hx, -⟩ := (rc.held r).mp hr
      rw [region r] at hx
      cases hx
    rw [e, none_cleared]
    simp
  refine ⟨?_, moved.length.trans h.tracks, tracks⟩
  rw [free_after, ← free_before, sub, link] at rest
  exact rest

/-! ### The request -/

theorem ArmPosition.reserved {s : State} {slots : List Nat} {p : Nat} (h : ArmPosition s slots p) (b : Bool) :
    ArmPosition (s.setReserved b) slots p := by
  obtain ⟨slot, e, ok⟩ := h
  exact ⟨slot, e, ok.number, ok.valid, ok.differs, ok.picture, ok.sound, ok.count, ok.licence, ok.subtitle, ok.sheet⟩

/-- ARM of a playlist that passes: its effects, the report, and its DONE reply. -/
theorem arm_taken {s w : State} {tag : Byte} {slots : Bytes} (h : TakesRequest s)
    (hw : (s.setReserved true).armShow (slots.map BitVec.toNat) = (w, .done, 0)) :
    exec (.arm tag slots) s = .next (answered (w.reportChange s.seq.state)
      [0x03, tag, 0x00, w.seq.state.code, boolByte w.booth.latch, 0x00]) := by
  rw [exec_request (r := .arm tag slots) rfl, request_taken h, State.execRequest, State.perform, hw]
  have cold : (Request.arm tag slots).isWarm = false := rfl
  have payload : replyPayload (.arm tag slots) .done (w.showBody 0) =
      [0x03, tag, 0x00, w.seq.state.code, boolByte w.booth.latch, 0x00] := rfl
  dsimp only
  rw [cold, payload]
  rfl

/-- Settles O13. -/
theorem armSchedulesTracks : Obligations.ArmSchedulesTracks := by
  intro tag slots s h hc ha hl h1 h16 passes
  have length : (slots.map BitVec.toNat).length = slots.length := List.length_map _
  have fine : (s.setReserved true).armFailure (slots.map BitVec.toNat) = none :=
    armFailure_none (by rwa [length]) (by rwa [length]) fun p h1 h2 => (passes p h1 (by rwa [length] at h2)).reserved true
  have taken := arm_taken (tag := tag) (slots := slots) (w := (s.setReserved true).enterArmed (slots.map BitVec.toNat)) h (by
    rw [State.armShow, if_neg (by simp [ha, hl]), fine])
  have armed := enterArmed_armed (s := s.setReserved true) (hc.of_view rfl) ha (slots.map BitVec.toNat)
  generalize (s.setReserved true).enterArmed (slots.map BitVec.toNat) = w at armed taken
  have seq : w.seq = _ := (congrArg State.seq armed.rest :)
  have state : w.seq.state = .armed := congrArg Sequencer.state seq
  have latch : w.booth.latch = false := (congrArg (·.booth.latch) armed.rest :).trans hl
  have mgmt : w.mgmt = (s.setReserved true).mgmt := (congrArg State.mgmt armed.rest :)
  have changed : w.seq.state ≠ s.seq.state := fun c => by
    rw [← c, state] at ha
    cases ha
  rw [state, latch] at taken
  change exec _ _ = .next (answered _ [0x03, tag, 0x00, 0x01, 0x00, 0x00]) at taken
  have report := answered_report_eq w s.seq.state [0x03, tag, 0x00, 0x01, 0x00, 0x00]
  have reported := ChangeReported.of_perform changed h mgmt [0x03, tag, 0x00, 0x01, 0x00, 0x00]
  generalize answered (w.reportChange s.seq.state) [0x03, tag, 0x00, 0x01, 0x00, 0x00] = t at taken report reported
  have tracks : t.tracks = w.tracks := (congrArg State.tracks report :)
  refine ⟨t, taken, ?_, tracks ▸ armed.length, fun k hk => ?_, reported⟩
  · rw [tracks]
    exact report.trans (congrArg (fun u : State => { u with mgmt := t.mgmt }) armed.rest)
  · rw [State.track_congr tracks, State.scheduled_congr (congrArg State.tables report :) (congrArg State.seq report :)]
    exact armed.tracks k hk

end Sys2Proof.Safety
end

-- ==== requests: the clock, the status block, and refused show requests ====
section
/-! PROOFS. SET_CLOCK and QUERY_STATUS (R176), START, HOLD and RESUME (R38, R43, R44), and the SHOW requests that are refused (R34,
R35, R175, R188). -/

namespace Sys2Proof.Safety

open Sys2Proof.Machine

/-! ### The clock and the status block -/

/-- The identity code and the revision that open the status block (10.3). -/
theorem identity_bytes : be 2 Config.partIdentity ++ be 1 Config.partRevision = [0x06, 0x20, 0x01] := by decide

theorem statusBlock_eq (s : State) : s.statusBlock =
    [0x06, 0x20, 0x01, s.seq.state.code, s.seq.reason.code] ++ be 1 s.seq.position ++ be 3 s.seq.frame ++
      be 3 s.windowBase ++ be 2 s.freeCells ++ [boolByte s.booth.latch] ++ be 3 s.mgmt.flags.toNat ++
      be 3 s.mgmt.enables.toNat ++ [boolByte s.clk.booth.isSome] ++ be 4 (s.clk.booth.getD 0) ++ be 2 s.sub.refused ++
      be 2 s.sub.stale ++ be 2 s.sub.late ++ be 2 s.sub.preempted ++ be 1 s.acct.log.length ++ be 4 s.acct.nextNumber ++
      be 2 s.acct.drops ++ [s.acct.lastBarred.code] ++ be 2 s.cue.lastMark := by
  have head : ([0x06, 0x20, 0x01] : Bytes) ++ [s.seq.state.code, s.seq.reason.code] =
    [0x06, 0x20, 0x01, s.seq.state.code, s.seq.reason.code] := rfl
  unfold State.statusBlock optField
  rw [identity_bytes, head]

/-- Settles O16: neither request changes the show state or the management block, so each is its effect and its reply. -/
theorem setClockAndQueryStatus : Obligations.SetClockAndQueryStatus := by
  intro tag s h
  refine ⟨fun seconds => ?_, s.statusBlock, ?_, ?_, statusBlock_eq s⟩
  · have performed : (s.setReserved true).perform (.setClock tag seconds) =
        (({ s with clk := { s.clk with booth := some seconds.toNat, secDivider := 0 } } : State).setReserved true, .done,
          be 4 seconds.toNat) := rfl
    rw [exec_request (r := .setClock tag seconds) rfl, request_taken h, State.execRequest_quiet performed rfl]
    rfl
  · have performed : (s.setReserved true).perform (.queryStatus tag) = (s.setReserved true, .done, s.statusBlock) := rfl
    rw [exec_request (r := .queryStatus tag) rfl, request_taken h, State.execRequest_quiet performed rfl]
    rfl
  · simp only [statusBlock_eq, List.length_append, be_length, List.length_cons, List.length_nil]

/-! ### START, HOLD and RESUME -/

/-- A show command that is accepted in the state it finds: its effects `w` beside the management block, and the change reported. -/
theorem showCommand_changes {s w : State} {tag : Byte} {c : ShowCommand} (h : TakesRequest s)
    (hw : (s.setReserved true).showCommand c = some w) (hm : w.mgmt = (s.setReserved true).mgmt)
    (hq : w.seq.state ≠ s.seq.state) :
    ∃ t, exec (showInstr tag c) s = .next t ∧ t = { w with mgmt := t.mgmt } ∧
      ChangeReported s t [0x03, tag, 0x00, w.seq.state.code, boolByte w.booth.latch, 0x00] :=
  ⟨_, showCommand_taken h hw, answered_report_eq _ _ _, .of_perform hq h hm _⟩

/-- Settles O9, one accepted command at a time. -/
theorem startHoldAndResume : Obligations.StartHoldAndResume := by
  intro tag s h
  refine ⟨fun hq => ?_, fun hq => ?_, fun hq => ?_⟩
  · have ne : (s.setReserved true).seq.state ≠ .preroll := by rw [State.setReserved, hq]; exact fun c => nomatch c
    have work : (s.setReserved true).enterPreroll = { s.setReserved true with
        seq := { s.seq with state := .preroll, prerollTimer := some 0, stallTimer := none }, link := s.link ++ [.black] } := by
      rw [State.enterPreroll, if_neg ne]; rfl
    exact showCommand_changes (c := .start) h ((if_pos hq).trans (congrArg some work)) rfl
      (by rw [hq]; exact fun c => nomatch c)
  · have work : (s.setReserved true).enterHolding = { s.setReserved true with
        seq := { s.seq with state := .holding }
        snd := { s.snd with fader := if s.snd.fader.muted then s.snd.fader
          else { s.snd.fader with saved := s.snd.fader.target, value := 0, target := 0 } } } := rfl
    exact showCommand_changes (c := .hold) h ((if_pos hq).trans (congrArg some work)) rfl
      (by rw [hq]; exact fun c => nomatch c)
  · have work : ((s.setReserved true).updSeq fun q => { q with state := .playing }).resumeEvent = { s.setReserved true with
        seq := { s.seq with state := .playing }
        snd := { s.snd with fader := if s.snd.fader.muted then s.snd.fader
          else { s.snd.fader with value := 0, target := s.snd.fader.saved, rate := s.tables.settings.resumeRate } } } := rfl
    exact showCommand_changes (c := .resume) h ((if_pos hq).trans (congrArg some work)) rfl
      (by rw [hq]; exact fun c => nomatch c)

/-! ### Refusals -/

theorem be_one (n : Nat) : be 1 n = [BitVec.ofNat 8 n] := by
  rw [be, be, pow_zero, Nat.div_one]

/-- A SHOW request that answers a result without an effect. -/
theorem refused_taken {s : State} {c : Instr} {r : Request} {result : Result} {failing : Nat} (h : TakesRequest s)
    (hc : requestOf c = some r)
    (hp : (s.setReserved true).perform r = (s.setReserved true, result, (s.setReserved true).showBody failing))
    (hk : r.kindCode = 0x03) : exec c s = .next (answered s (showReply r.tag result s failing)) := by
  have reply : replyPayload r result ((s.setReserved true).showBody failing) = showReply r.tag result s failing := by
    rw [replyPayload, State.showBody, be_one, hk]; rfl
  rw [exec_request hc, request_taken h, State.execRequest_quiet hp rfl, reply]

/-- A show command is refused outside the states that accept it (R34). -/
theorem showCommand_none {s : State} {c : ShowCommand} (h : s.seq.state ∉ acceptedIn c) : s.showCommand c = none := by
  cases c with
  | start => exact if_neg fun e => h (by simp [acceptedIn, e])
  | hold => exact if_neg fun e => h (by simp [acceptedIn, e])
  | resume => exact if_neg fun e => h (by simp [acceptedIn, e])
  | skip =>
    refine if_neg fun e => h ?_
    cases hq : s.seq.state <;> rw [hq] at e <;> simp_all [ShowState.running, acceptedIn]
  | stop =>
    refine if_neg fun e => h ?_
    cases hq : s.seq.state <;> rw [hq] at e <;> simp_all [ShowState.active, acceptedIn]
  | clear => exact if_neg fun e => h (by simpa [acceptedIn] using e)

/-- Check 9 read from the test over a sheet's entries. -/
theorem ordered_of_triggersOk {f : Nat → Nat} {duration : Nat} (n : Nat) {first : Nat}
    (h : triggersOk duration ((List.range' first n).map f) = true) :
    ∀ i, first ≤ i → i < first + n → f i ≤ duration ∧ (i + 1 < first + n → f i ≤ f (i + 1)) := by
  induction n generalizing first with
  | zero => intro i h1 h2; omega
  | succ n ih =>
    cases n with
    | zero =>
      intro i h1 h2
      obtain rfl : i = first := by omega
      exact ⟨of_decide_eq_true h, fun c => by omega⟩
    | succ n =>
      obtain ⟨head, rest⟩ := Bool.and_eq_true_iff.mp h
      obtain ⟨within, ordered⟩ := of_decide_eq_true head
      intro i h1 h2
      rcases Nat.eq_or_lt_of_le h1 with rfl | later
      · exact ⟨within, fun _ => ordered⟩
      · obtain ⟨a, b⟩ := ih (first := first + 1) rest i later (by omega)
        exact ⟨a, fun c => b (by omega)⟩

/-- The channel count of a sound track that the test accepts. -/
theorem channels_of_inRange {e : TrackEntry} (h : e.channels.isSome = true ∧ channelsInRange e.kind e.channels = true) :
    (e.kind = .soundMain → ∃ n, e.channels = some n ∧ 1 ≤ n ∧ n ≤ 16) ∧
    (e.kind = .soundAux → ∃ n, e.channels = some n ∧ 1 ≤ n ∧ n ≤ 8) := by
  obtain ⟨n, hn⟩ := Option.isSome_iff_exists.mp h.1
  have range := h.2
  rw [hn] at range
  refine ⟨fun kind => ⟨n, hn, ?_⟩, fun kind => ⟨n, hn, ?_⟩⟩ <;> simpa [kind, channelsInRange] using range

/-- The tests of ARM on one slot are R35's nine checks. -/
theorem armSlot_of_armSlotOk {s : State} {before : Option Nat} {slot : Nat} (h : s.armSlotOk before slot = true) :
    ArmSlot s before slot := by
  simp only [State.armSlotOk, Bool.and_eq_true, decide_eq_true_eq, bne_iff_ne, beq_iff_eq, List.all_eq_true,
    List.mem_append, Option.all_eq_true] at h
  obtain ⟨⟨⟨⟨⟨⟨⟨⟨⟨number, valid⟩, differs⟩, picture⟩, main, aux⟩, channels⟩, count⟩, licence⟩, subtitle⟩, sheet⟩ := h
  refine ⟨number, valid, differs, picture, ⟨main, aux, fun t ht => ?_, fun t ht => ?_⟩, count, licence,
    fun t ht => ?_, fun first n e => ordered_of_triggersOk n (sheet (first, n) e)⟩
  · exact (channels_of_inRange (channels t (.inl ht))).1 (kindTracks_kind ht)
  · exact (channels_of_inRange (channels t (.inr ht))).2 (kindTracks_kind ht)
  · obtain ⟨⟨a, b⟩, c⟩ := subtitle t ht
    exact ⟨a, b, c⟩

/-- The first position that fails is the failing position. -/
theorem firstFailing_some {s : State} (slots : List Nat) {before : Option Nat} {p i slot : Nat} (hi : slots[i]? = some slot)
    (passes : ∀ j x, j < i → slots[j]? = some x → ArmSlot s (if j = 0 then before else slots[j - 1]?) x)
    (fails : ¬ ArmSlot s (if i = 0 then before else slots[i - 1]?) slot) : s.firstFailing before p slots = some (p + i) := by
  induction slots generalizing before p i with
  | nil => cases hi
  | cons first rest ih =>
    rw [State.firstFailing]
    cases i with
    | zero =>
      cases hi
      exact if_neg fun ok => fails (armSlot_of_armSlotOk ok)
    | succ i =>
      have ok : ArmSlot s before first := passes 0 first (Nat.succ_pos i) rfl
      rw [if_pos (armSlotOk_of_armSlot ok), ih (i := i) hi (fun j x hj hx => ?_) fun ok => fails ?_]
      · congr 1; omega
      · have later := passes (j + 1) x (by omega) hx
        cases j with
        | zero => exact later
        | succ j => exact later
      · cases i with
        | zero => exact ok
        | succ i => exact ok

/-- A position that fails after positions that pass is the failing position of the playlist. -/
theorem armFailure_some {s : State} {slots : List Nat} {p : Nat} (h16 : slots.length ≤ 16) (h1 : 1 ≤ p) (hp : p ≤ slots.length)
    (passes : ∀ q, 1 ≤ q → q < p → ArmPosition s slots q) (fails : ¬ ArmPosition s slots p) : s.armFailure slots = some p := by
  obtain ⟨i, rfl⟩ : ∃ i, p = i + 1 := ⟨p - 1, by omega⟩
  have before : ∀ j, (if j + 1 = 1 then none else slots[j + 1 - 2]?) = if j = 0 then none else slots[j - 1]? := fun j => by
    cases j with
    | zero => rfl
    | succ j => rfl
  rw [State.armFailure, if_neg (by omega), Nat.add_comm i 1]
  refine firstFailing_some slots (List.getElem?_eq_getElem (by omega)) (fun j x hj hx => ?_) fun ok => fails ?_
  · obtain ⟨slot, hs, pass⟩ := passes (j + 1) (by omega) (by omega)
    rw [Nat.add_sub_cancel, hx] at hs
    cases hs
    rwa [before] at pass
  · refine ⟨_, List.getElem?_eq_getElem (by omega), ?_⟩
    rwa [before]

theorem ArmPosition.of_reserved {s : State} {slots : List Nat} {p : Nat} {b : Bool}
    (h : ArmPosition (s.setReserved b) slots p) : ArmPosition s slots p := by
  obtain ⟨slot, e, ok⟩ := h
  exact ⟨slot, e, ok.number, ok.valid, ok.differs, ok.picture, ok.sound, ok.count, ok.licence, ok.subtitle, ok.sheet⟩

/-- ARM of a playlist that fails its checks. -/
theorem arm_malformed {s : State} {tag : Byte} {slots : Bytes} {p : Nat} (h : TakesRequest s) (ha : s.seq.state.active = false)
    (hl : s.booth.latch = false) (hp : (s.setReserved true).armFailure (slots.map BitVec.toNat) = some p) :
    exec (.arm tag slots) s = .next (answered s (showReply tag .malformed s p)) := by
  refine refused_taken (r := .arm tag slots) h rfl ?_ rfl
  rw [State.perform, State.armShow, if_neg (by simp [ha, hl]), hp]

/-- Settles O14: each refusal answers its result and leaves the part as it is. -/
theorem showRequestsRefused : Obligations.ShowRequestsRefused := by
  refine ⟨fun tag c s h hq => ?_, fun tag slots s h => ⟨fun hb => ?_, fun ha hl hn => ?_, fun p ha hl h16 h1 hp passes fails => ?_⟩⟩
  · have row : requestOf (showInstr tag c) = some (.showCommand tag c) := by cases c <;> rfl
    refine refused_taken (r := .showCommand tag c) h row ?_ rfl
    rw [State.perform, showCommand_none (s := s.setReserved true) hq]
  · refine refused_taken (r := .arm tag slots) h rfl ?_ rfl
    rw [State.perform, State.armShow, if_pos (by simpa using hb)]
  · refine arm_malformed h ha hl ?_
    rw [State.armFailure, if_pos (by simpa using hn)]
  · have length : (slots.map BitVec.toNat).length = slots.length := List.length_map _
    exact arm_malformed h ha hl (armFailure_some (by rwa [length]) h1 (by rwa [length])
      (fun q h1 h2 => (passes q h1 h2).reserved true) fun c => fails c.of_reserved)

end Sys2Proof.Safety
end

-- ==== writes of the line settings and of the show settings ====
section
/-! PROOFS. Good writes of table 7, whose cue levels follow (R139, R140), and of table 10, whose period follows (R26, R29). -/

namespace Sys2Proof.Safety

open Sys2Proof.Machine

/-! ### Line settings -/

/-- An entry of table 7 that is accepted is a line setting at an index of the table. -/
theorem judgeEntry_line {s : State} {i : Nat} {b : Bytes} {e : Entry} (h : s.judgeEntry 7 i b = .ok e) :
    i < 16 ∧ ∃ x, e = .line x := by
  rw [State.judgeEntry] at h
  split at h
  · cases h
  · rename_i hi
    have inside : i < 16 := by
      simp only [indexRefused, Bool.or_eq_true, not_or, decide_eq_true_eq] at hi
      exact Nat.not_le.mp hi.1
    refine ⟨inside, ?_⟩
    cases hd : decodeEntry 7 b with
    | error r => rw [hd] at h; cases h
    | ok y =>
      have shape : ∃ x, y = .line x := by
        rw [decodeEntry] at hd
        split at hd
        · cases hd; exact ⟨_, rfl⟩
        · cases hd
      rw [hd] at h
      dsimp only at h
      split at h
      · cases h
      · cases h; exact shape

/-- Entries of table 7 that are all accepted. -/
theorem judgeEntries_lines {s : State} {n i : Nat} {b : Bytes}
    (h : ∀ j, j < n → ∃ e, s.judgeEntry 7 (i + j) ((b.drop (j * 2)).take 2) = .ok e) :
    ∃ xs : List LineSetting, s.judgeEntries 7 i (splitEntries 2 n b) = .ok (xs.map Entry.line) ∧ xs.length = n ∧
      ∀ j e, j < n → s.judgeEntry 7 (i + j) ((b.drop (j * 2)).take 2) = .ok (.line e) → xs[j]? = some e := by
  induction n generalizing i b with
  | zero => exact ⟨[], rfl, rfl, fun j e hj => by omega⟩
  | succ n ih =>
    have shift : ∀ j, (b.drop ((j + 1) * 2)).take 2 = ((b.drop 2).drop (j * 2)).take 2 := fun j => by
      rw [List.drop_drop, show (j + 1) * 2 = 2 + j * 2 by ring]
    have place : ∀ j, i + (j + 1) = i + 1 + j := fun j => by ring
    obtain ⟨e, he⟩ := h 0 (Nat.succ_pos n)
    obtain ⟨_, x, rfl⟩ := judgeEntry_line he
    obtain ⟨xs, hxs, hl, hj⟩ := ih (i := i + 1) (b := b.drop 2) fun j hj => by
      have := h (j + 1) (by omega)
      rwa [shift, place] at this
    have first : s.judgeEntry 7 i (b.take 2) = .ok (.line x) := by simpa using he
    refine ⟨x :: xs, ?_, by rw [List.length_cons, hl], fun j e hjn hje => ?_⟩
    · rw [splitEntries, State.judgeEntries, first, hxs]
      rfl
    · cases j with
      | zero => rw [he] at hje; cases hje; rfl
      | succ j =>
        rw [shift, place] at hje
        exact hj j e (by omega) hje

/-- A list with values at consecutive indices replaced. -/
def setFrom {α : Type} (l : List α) : Nat → List α → List α
  | _, [] => l
  | i, x :: xs => setFrom (l.set i x) (i + 1) xs

theorem setFrom_outside {α : Type} (xs l : List α) {i k : Nat} (h : k < i ∨ i + xs.length ≤ k) :
    (setFrom l i xs)[k]? = l[k]? := by
  induction xs generalizing l i with
  | nil => rfl
  | cons x xs ih =>
    rw [List.length_cons] at h
    rw [setFrom, ih _ (by omega), List.getElem?_set_ne (by omega)]

theorem setFrom_inside {α : Type} (xs l : List α) {i j : Nat} {x : α} (h : xs[j]? = some x) (hl : i + j < l.length) :
    (setFrom l i xs)[i + j]? = some x := by
  induction xs generalizing l i j with
  | nil => cases h
  | cons y xs ih =>
    cases j with
    | zero =>
      cases h
      exact (setFrom_outside xs _ (.inl (Nat.lt_succ_self i))).trans (List.getElem?_set_self hl)
    | succ j =>
      rw [setFrom, show i + (j + 1) = i + 1 + j by ring]
      exact ih (l.set i y) h (by rw [List.length_set]; omega)

/-- Line settings stored at consecutive indices (R173). -/
theorem storeAll_lines (xs : List LineSetting) (T : Tables) (i : Nat) :
    T.storeAll i (xs.map Entry.line) = { T with line := setFrom T.line i xs } := by
  induction xs generalizing T i with
  | nil => rfl
  | cons x xs ih =>
    rw [List.map_cons, Tables.storeAll, ih]
    rfl

/-- The cue levels of the lines written become their idle levels (R140). -/
theorem storeEffects_lines (before : State) (xs : List LineSetting) (s : State) (i : Nat) :
    State.storeEffects before s i (xs.map Entry.line) =
      { s with booth := { s.booth with cueLevels := setFrom s.booth.cueLevels i (xs.map LineSetting.idle) } } := by
  induction xs generalizing s i with
  | nil => rfl
  | cons x xs ih =>
    rw [List.map_cons, State.storeEffects, ih]
    rfl

/-! ### A good write whose effects leave the show and the management block alone -/

/-- The rows that write table 7 or table 10 hand on the same request. -/
theorem writeRows_request {table : Nat} {tag : Byte} {index : BitVec 16} {count : Byte} {entries : Bytes} {c : Instr}
    (h : c ∈ writeRows table tag index count entries) (ht : table = 7 ∨ table = 10) :
    requestOf c = some (.writeTable tag (BitVec.ofNat 8 table) index count entries) := by
  rcases List.mem_cons.mp h with rfl | h
  · rfl
  · rcases ht with rfl | rfl
    · rw [List.mem_singleton.mp h]; rfl
    · rw [List.mem_singleton.mp h]; rfl

/-- A WRITE_TABLE request of a table whose entries are all accepted, and whose effects change neither the show state nor the
management block. -/
theorem write_taken {s w : State} {c : Instr} {table : Nat} {tag : Byte} {index : BitVec 16} {count : Byte} {entries : Bytes}
    {es : List Entry} (h : TakesRequest s) (hc : c ∈ writeRows table tag index count entries) (ht : table = 7 ∨ table = 10)
    (h0 : count ≠ 0) (hl : entries.length = count.toNat * entrySize table)
    (hj : s.judgeEntries table index.toNat (splitEntries (entrySize table) count.toNat entries) = .ok es)
    (hw : State.storeEffects (s.setReserved true) { s.setReserved true with tables := s.tables.storeAll index.toNat es }
      index.toNat es = w.setReserved true) (hs : w.seq.state = s.seq.state) :
    exec c s = .next (answered w (writeReply tag (BitVec.ofNat 8 table) .done index.toNat count)) := by
  have positive : count.toNat ≠ 0 := fun c => h0 (BitVec.eq_of_toNat_eq c)
  have number : (BitVec.ofNat 8 table).toNat = table := by rcases ht with rfl | rfl <;> rfl
  have known : tableEntries table ≠ none := by rcases ht with rfl | rfl <;> exact fun c => nomatch c
  have written : (s.setReserved true).writeEntries table index.toNat count.toNat entries =
      (w.setReserved true, .done, index.toNat) := by
    rw [State.writeEntries, if_neg known, if_neg positive, if_neg (by omega), if_neg (not_not.mpr hl),
      judgeEntries_reserved, hj, ← hw]
    rfl
  have performed : (s.setReserved true).perform (.writeTable tag (BitVec.ofNat 8 table) index count entries) =
      (w.setReserved true, .done, [BitVec.ofNat 8 table] ++ be 2 index.toNat ++ [count]) := by
    rw [State.perform, number, written]
    rfl
  rw [exec_request (writeRows_request hc ht), request_taken h, State.execRequest_quiet performed hs]
  rfl

/-! ### Show settings -/

theorem decodeEntry_settings {b : Bytes} {e : Entry} (h : decodeEntry 10 b = .ok e) : ∃ x, e = .settings x := by
  rw [decodeEntry] at h
  split at h
  · cases h; exact ⟨_, rfl⟩
  · cases h

/-- The one entry of table 10 is accepted while no show runs (R29). -/
theorem judgeEntries_settings {s : State} {b : Bytes} {e : ShowSettings} (hr : s.seq.state.running = false)
    (hl : b.length = 8) (hd : decodeEntry 10 b = .ok (.settings e)) :
    s.judgeEntries 10 0 (splitEntries 8 1 b) = .ok [.settings e] := by
  have judged : s.judgeEntry 10 0 b = .ok (.settings e) := by
    rw [State.judgeEntry, if_neg (by simp [indexRefused, tableEntries]), hd]
    exact if_neg (by simpa [State.inUse] using hr)
  rw [splitEntries, splitEntries, List.take_of_length_le hl.le, State.judgeEntries, judged]
  rfl

/-- Settles O22. -/
theorem writeLineAndShowSettings : Obligations.WriteLineAndShowSettings := by
  refine ⟨fun tag index count entries c s h hz hc h0 hl hj => ?_, fun tag e entries c s h hc hr hl hd => ?_⟩
  · obtain ⟨xs, hxs, hlen, hx⟩ := judgeEntries_lines hj
    have taken := write_taken h hc (.inl rfl) h0 hl hxs
      (w := { s with tables := { s.tables with line := setFrom s.tables.line index.toNat xs },
                     booth := { s.booth with cueLevels := setFrom s.booth.cueLevels index.toNat (xs.map LineSetting.idle) } })
      (by rw [storeEffects_lines, storeAll_lines]; rfl) rfl
    have same := answered_eq { s with
      tables := { s.tables with line := setFrom s.tables.line index.toNat xs },
      booth := { s.booth with cueLevels := setFrom s.booth.cueLevels index.toNat (xs.map LineSetting.idle) } }
      (writeReply tag (BitVec.ofNat 8 7) .done index.toNat count)
    refine ⟨_, taken, ?_, answered_mgmt_congr (by rfl) _, fun j e hjn hje => ?_, fun i hi => ?_⟩
    · rw [same]
    · have place := hx j e hjn hje
      have inside := (judgeEntry_line hje).1
      rw [same]
      exact ⟨setFrom_inside xs _ place (by rw [hz.line]; exact inside),
        setFrom_inside _ _ (by rw [List.getElem?_map, place]; rfl) (by rw [hz.cueLevels]; exact inside)⟩
    · rw [same]
      exact ⟨setFrom_outside xs _ (by omega), setFrom_outside _ _ (by rw [List.length_map]; omega)⟩
  · have taken := write_taken (index := 0) (count := 1) h hc (.inr rfl) (by decide) hl
      (judgeEntries_settings hr hl hd) (w := { s with tables := { s.tables with settings := e },
                                                      clk := { s.clk with period := samplesPerFrame e.idleRate } }) rfl rfl
    exact ⟨_, taken, answered_eq _ _, answered_mgmt_congr (by rfl) _⟩

end Sys2Proof.Safety
end

-- ==== readiness, sample periods, the booth lines between edges ====
section
/-! PROOFS. The readiness predicate (R37), one sample period (R73, R89, R100), the millisecond tick with no change due and the
level of an output line (R141, R144, R147). -/

namespace Sys2Proof.Safety

open Sys2Proof.Machine

/-! ### Readiness -/

/-- A frame shows when its entry is COMPLETE, on both eyes of a STEREO track (R60). -/
theorem window_shows_iff (w : Window) (g : Nat) : w.shows g = true ↔
    w.main.getD (g - w.base) .absent = .complete ∧ (w.eyes = .stereo → w.right.getD (g - w.base) .absent = .complete) := by
  unfold Window.shows
  cases w.eyes with
  | mono => simp [Window.entry, Window.entries]
  | stereo => simp [Window.entry, Window.entries]

theorem soundReady_iff (s : State) (t : Option Nat) (f : Nat) : s.soundReady t f = true ↔
    ∀ n, t = some n → s.readyFrames f ≤ (s.track n).queue.countP fun u => decide (f ≤ u.frame) := by
  cases t with
  | none => simp [State.soundReady]
  | some n => simp [State.soundReady, List.countP_eq_length_filter]

/-- Settles O37: the picture track's next entries, and then each sound track's units. -/
theorem readinessMeaning : Obligations.ReadinessMeaning := by
  intro s k r w hk hw hr
  have picture : s.pictureReady s.seq.frame = true ↔ ∀ g, s.seq.frame ≤ g → g < s.seq.frame + r →
      w.main.getD (g - w.base) .absent = .complete ∧
        (w.eyes = .stereo → w.right.getD (g - w.base) .absent = .complete) := by
    have frames : s.readyFrames s.seq.frame = r := hr.symm
    unfold State.pictureReady
    rw [hk]
    dsimp only
    rw [hw]
    dsimp only
    rw [frames, List.all_eq_true]
    simp only [List.mem_range'_1, window_shows_iff, and_imp]
  rw [State.ready, Bool.and_eq_true, Bool.and_eq_true, picture, soundReady_iff, soundReady_iff, and_assoc]
  have frames : s.readyFrames s.seq.frame = r := hr.symm
  rw [frames]
  exact and_congr_right fun _ => ⟨fun ⟨a, b⟩ n h => h.elim (a n) (b n), fun h => ⟨fun n e => h n (.inl e), fun n e => h n (.inr e)⟩⟩

/-! ### A sample period -/

/-- One sample of a lane whose delay its line covers: the value sent is the one that entered `delay` samples before (R89). -/
theorem lane_sample_out {l : Lane} (h : l.delay < 2048) :
    l.sample.out = if l.delay = 0 then l.block.headD 0 else l.line.getD (l.delay - 1) 0 := by
  have out : l.sample.out = ((l.block.headD 0 :: l.line).take 2048).getD l.delay 0 := rfl
  rw [out, List.getD_eq_getElem?_getD, List.getElem?_take_of_lt h]
  cases l.delay with
  | zero => rfl
  | succ d => simp [List.getD_eq_getElem?_getD]

/-- The samples of the delay line move back by one place. -/
theorem lane_sample_line (l : Lane) {d : Nat} (h : d < 2047) : l.sample.line.getD (d + 1) 0 = l.line.getD d 0 := by
  have line : l.sample.line = (l.block.headD 0 :: l.line).take 2048 := rfl
  rw [line, List.getD_eq_getElem?_getD, List.getElem?_take_of_lt (by omega), List.getElem?_cons_succ, ← List.getD_eq_getElem?_getD]

/-- A port carries its 8 lanes in order (R73). -/
theorem portSamples_getElem? (s : State) (port : Fin 3) {i : Nat} (h : i < 8) :
    (s.portSamples port)[i]? = (s.snd.lanes[8 * port.val + i]?).map fun l => BitVec.ofInt 24 l.out := by
  rw [State.portSamples, List.getElem?_map, List.getElem?_take_of_lt h, List.getElem?_drop]

/-- A 24-bit signed value carries every sample in range. -/
theorem ofInt24_toInt {x : Int} (h1 : -8388608 ≤ x) (h2 : x ≤ 8388607) : (BitVec.ofInt 24 x).toInt = x := by
  rw [BitVec.toInt_ofInt]
  exact Int.bmod_eq_of_le (by norm_num; omega) (by norm_num; omega)

/-- Settles O6. -/
theorem samplePeriodMovesLanes : Obligations.SamplePeriodMovesLanes := by
  refine ⟨fun s hr hc => ?_, fun s hr hc => ?_, fun port s hl => ?_⟩
  · refine ⟨_, (run_running hr).trans (congrArg Host.Outcome.next (if_neg hc)), rfl, rfl, List.length_map _,
      fun j l m hj hm hd => ?_⟩
    have sampled : m = l.sample := by
      have e : (s.snd.lanes.map Lane.sample)[j]? = some m := hm
      rw [List.getElem?_map, hj] at e
      exact (Option.some.inj e).symm
    rw [sampled]
    exact ⟨rfl, rfl, fun d h => lane_sample_line l h, List.length_take_le _ _, lane_sample_out hd, rfl, rfl, rfl⟩
  · exact (run_running hr).trans (congrArg Host.Outcome.next (if_pos hc))
  · have count : (s.portSamples port).length = 8 := by
      have := port.isLt
      simp only [State.portSamples, List.length_map, List.length_take, List.length_drop, hl]
      omega
    refine ⟨count, fun i hi => ?_⟩
    have inside : 8 * port.val + i < s.snd.lanes.length := by have := port.isLt; omega
    refine ⟨_, List.getElem?_eq_getElem inside, ?_, fun h1 h2 => ofInt24_toInt h1 h2⟩
    rw [portSamples_getElem? s port hi, List.getElem?_eq_getElem inside]
    rfl

/-! ### The booth lines -/

/-- A tick with no pending change that reaches its debounce time accepts none (R147). -/
theorem dueInputs_nil {s : State} {order : List (Fin 8)}
    (h : ∀ i n, i < 8 → (s.input i).waiting = some n → n + 1 < (s.inputEntry i).debounce) : s.dueInputs order = [] := by
  have none_due : ∀ i, i < 8 → ¬ s.dueAtTick i = true := fun i hi => by
    unfold State.dueAtTick
    cases hn : (s.input i).waiting with
    | none => simp
    | some n =>
      have := h i n hi hn
      simp only [decide_eq_true_eq, not_le]
      exact this
  refine List.filter_eq_nil_iff.mpr fun i hi => none_due i ?_
  rcases List.mem_append.mp hi with hi | hi
  · rw [List.mem_eraseDups] at hi
    obtain ⟨j, -, rfl⟩ := List.mem_map.mp hi
    exact j.isLt
  · exact List.mem_range.mp (List.mem_of_mem_filter hi)

/-- A tick of a generator whose phase still runs (R144). -/
theorem tick_running {g : Generator} (h : g.phase ≠ .idle) (ht : 2 ≤ g.ticksLeft) :
    g.tick = { g with ticksLeft := g.ticksLeft - 1 } := by
  rw [Generator.tick, if_neg h, if_neg (by omega)]

/-- A tick that ends a generator's phase (R144). -/
theorem tick_ends {g : Generator} (h : g.phase ≠ .idle) (ht : g.ticksLeft ≤ 1) : g.tick = g.endPhase := by
  rw [Generator.tick, if_neg h, if_pos ht]

/-- A phase ends alike however many ticks were left (R144). -/
theorem endPhase_eq_tick {g : Generator} (h : g.phase ≠ .idle) : g.endPhase = Generator.tick { g with ticksLeft := 1 } := by
  rw [tick_ends (g := { g with ticksLeft := 1 }) h (Nat.le_refl 1)]
  unfold Generator.endPhase
  cases hp : g.phase with
  | idle => exact absurd hp h
  | space => rfl
  | pulse => cases hm : g.mode <;> rfl

/-- The generator that owns a line (R142). -/
theorem owner_of_mem {b : Booth} (h : b.generators.Pairwise fun g h => g.phase = .idle ∨ h.phase = .idle ∨ g.line ≠ h.line)
    {g : Generator} (hg : g ∈ b.generators) (hp : g.phase ≠ .idle) : b.owner g.line = some g := by
  obtain ⟨x, hx⟩ : ∃ x, b.owner g.line = some x := Option.isSome_iff_exists.mp
    (List.find?_isSome.mpr ⟨g, hg, by simp [hp]⟩)
  have found := List.find?_some hx
  simp only [Bool.and_eq_true, bne_iff_ne, beq_iff_eq] at found
  by_contra other
  have ne : x ≠ g := fun e => other (e ▸ hx)
  have sym : Std.Symm fun g h : Generator => g.phase = .idle ∨ h.phase = .idle ∨ g.line ≠ h.line :=
    ⟨fun a b hab => by tauto⟩
  have apart : x.phase = .idle ∨ g.phase = .idle ∨ x.line ≠ g.line := h.forall (List.mem_of_find?_eq_some hx) hg ne
  tauto

/-- Settles O49. -/
theorem millisecondTickAndLines : Obligations.MillisecondTickAndLines := by
  refine ⟨fun order s hr h => ?_, fun g => ⟨fun hp => ?_, tick_running, fun hp ht hm => ?_, fun hp ht hm => ⟨fun h0 => ?_,
    fun h1 => ?_, fun h2 => ?_⟩, fun hp ht => ?_⟩, fun g s hr hq => ?_, fun s line hr => ⟨fun level hl hs => ?_,
    fun hn ho => ⟨fun g hg hp hline => ?_, fun hidle => ?_⟩⟩⟩
  · have calm : s.millisecondTick order = s.tickLines := by rw [State.millisecondTick, dueInputs_nil h]; rfl
    exact (run_running (work := fun s => s.millisecondTick order) hr).trans (congrArg Host.Outcome.next calm)
  · rw [Generator.tick, if_pos hp]
  · rw [tick_ends (by simp [hp]) ht, Generator.endPhase, hp, hm]
  · rw [tick_ends (by simp [hp]) ht, Generator.endPhase, hp, hm]
    exact if_pos h0
  · rw [tick_ends (by simp [hp]) ht, Generator.endPhase, hp, hm]
    simp [h1]
  · rw [tick_ends (by simp [hp]) ht, Generator.endPhase, hp, hm]
    dsimp only
    rw [if_neg (by omega), if_neg (by omega)]
  · rw [tick_ends (by simp [hp]) ht, Generator.endPhase, hp]
  · have quiet := event_quiet (work := fun s => s.setGenerators (s.booth.generators.modify g.val Generator.endPhase)) (s := s)
      rfl rfl hq.idle
    have phases : Generator.endPhase = fun x => if x.phase = .idle then x else Generator.tick { x with ticksLeft := 1 } := by
      funext x
      by_cases hx : x.phase = .idle
      · rw [if_pos hx, Generator.endPhase, hx]
      · rw [if_neg hx, endPhase_eq_tick hx]
    refine (run_running hr).trans (congrArg Host.Outcome.next (quiet.trans ?_))
    rw [← phases]
    rfl
  · rw [State.lineLevel, if_neg (by simp [hr]), if_pos hl, hs]
  · have unforced : (if s.booth.latch then (s.tables.line.getD line LineSetting.off).safety else none) = none := by
      rcases hn with hn | hn
      · rw [hn]; rfl
      · rw [hn, ite_self]
    rw [State.lineLevel, if_neg (by simp [hr]), unforced, ← hline, owner_of_mem ho hg hp]
  · have unforced : (if s.booth.latch then (s.tables.line.getD line LineSetting.off).safety else none) = none := by
      rcases hn with hn | hn
      · rw [hn]; rfl
      · rw [hn, ite_self]
    have unowned : s.booth.owner line = none := List.find?_eq_none.mpr fun g hg => by
      rcases hidle g hg with c | c <;> simp [c]
    rw [State.lineLevel, if_neg (by simp [hr]), unforced, unowned]

end Sys2Proof.Safety
end

-- ==== events: the flags they raise and the report they queue ====
section
/-! PROOFS. What an event leaves in the management block before its report (R179, R180), and the FLOW report that it queues (R181 to
R183); STALL_TRIGGER and FLOW_INTERVAL (R45, R181). -/

namespace Sys2Proof.Safety

open Sys2Proof.Machine

/-! ### Raised flags -/

/-- An event that has left the state `u`, found in `s`, has raised flags of `A` and done nothing else to the management block: an
EVENT report stands in the event slot if an enabled flag was clear and became set (R180). -/
structure Raised (A : Flag → Prop) (s u : State) : Prop where
  requests  : u.mgmt.requests = s.mgmt.requests
  enables   : u.mgmt.enables = s.mgmt.enables
  flowCount : u.mgmt.flowCount = s.mgmt.flowCount
  slots     : u.mgmt.slots = s.mgmt.slots
  reserved  : u.mgmt.reserved = s.mgmt.reserved
  lane      : u.mgmt.lane = s.mgmt.lane
  others    : ∀ f, ¬ A f → flagSet u.mgmt.flags f = flagSet s.mgmt.flags f
  kept      : ∀ f, flagSet s.mgmt.flags f = true → flagSet u.mgmt.flags f = true
  made      : EventMade s u → u.mgmt.eventSlot ≠ none
  quiet     : ¬ EventMade s u → u.mgmt.eventSlot = s.mgmt.eventSlot

theorem not_eventMade_of_mgmt {s u : State} (h : u.mgmt = s.mgmt) : ¬ EventMade s u := by
  rintro ⟨f, -, clear, set⟩
  rw [h, clear] at set
  cases set

/-- Work that leaves the management block alone raises nothing. -/
theorem Raised.of_mgmt {A : Flag → Prop} {s u : State} (h : u.mgmt = s.mgmt) : Raised A s u :=
  ⟨by rw [h], by rw [h], by rw [h], by rw [h], by rw [h], by rw [h], fun _ _ => by rw [h], fun _ => by rw [h]; exact id,
    fun made => absurd made (not_eventMade_of_mgmt h), fun _ => by rw [h]⟩

theorem Raised.mono {A B : Flag → Prop} {s u : State} (h : Raised A s u) (hab : ∀ f, A f → B f) : Raised B s u :=
  ⟨h.requests, h.enables, h.flowCount, h.slots, h.reserved, h.lane, fun f hf => h.others f fun c => hf (hab f c), h.kept, h.made,
    h.quiet⟩

theorem Raised.congr {A : Flag → Prop} {s u v : State} (h : Raised A s u) (e : v.mgmt = u.mgmt) : Raised A s v := by
  obtain ⟨h1, h2, h3, h4, h5, h6, h7, h8, h9, h10⟩ := h
  unfold EventMade at h9 h10
  rw [← e] at h1 h2 h3 h4 h5 h6 h7 h8 h9 h10
  exact ⟨h1, h2, h3, h4, h5, h6, h7, h8, h9, h10⟩

theorem Raised.raise {A : Flag → Prop} {s u : State} (h : Raised A s u) {f : Flag} (hf : A f) : Raised A s (u.raise f) := by
  by_cases hs : flagSet u.mgmt.flags f = true
  · have same : u.raise f = u := if_pos hs
    rwa [same]
  · have clear : flagSet u.mgmt.flags f = false := by simpa using hs
    have before : flagSet s.mgmt.flags f = false := by
      cases hb : flagSet s.mgmt.flags f with
      | true => rw [h.kept f hb] at clear; cases clear
      | false => rfl
    have slot := raise_eventSlot u f
    rw [clear, h.enables] at slot
    refine ⟨by simpa using h.requests, by simpa using h.enables, by simpa using h.flowCount, by simpa using h.slots,
      by simpa using h.reserved, by simpa using h.lane, fun g hg => ?_, fun g hg => ?_, fun made => ?_, fun none_made => ?_⟩
    · have ne : g ≠ f := fun c => hg (c ▸ hf)
      simpa [ne] using h.others g hg
    · simp [h.kept g hg]
    · cases enabled : flagSet s.mgmt.enables f with
      | true =>
        rw [slot, if_pos ⟨rfl, enabled⟩]
        exact fun c => nomatch c
      | false =>
        rw [slot, if_neg (by simp [enabled])]
        obtain ⟨g, ge, gc, gs⟩ := made
        have ne : g ≠ f := fun c => by rw [c, enabled] at ge; cases ge
        exact h.made ⟨g, ge, gc, by simpa [ne] using gs⟩
    · have disabled : flagSet s.mgmt.enables f = false := by
        cases enabled : flagSet s.mgmt.enables f with
        | true => exact absurd ⟨f, enabled, before, by simp⟩ none_made
        | false => rfl
      rw [slot, if_neg (by simp [disabled])]
      exact h.quiet fun ⟨g, ge, gc, gs⟩ => none_made ⟨g, ge, gc, by simp [gs]⟩

/-! ### The FLOW report of an event -/

theorem flowReport_slots (w : State) : w.flowReport.mgmt.slots =
    w.mgmt.slots ++ if w.mgmt.slotsTaken < Config.replyFlowSlots then [flowOf w] else [] := by
  rw [State.flowReport, ← flowOf_eq]
  dsimp only
  split
  · rfl
  · rw [List.append_nil]

theorem eventMade_congr {s u v : State} (h : v.mgmt.flags = u.mgmt.flags) : EventMade s v ↔ EventMade s u := by
  rw [EventMade, EventMade, h]

/-- An event that has raised flags and makes its FLOW report, and then the arbiter's look at the lane. -/
theorem FlowQueued.of_raised {A : Flag → Prop} {s w : State} (h : Raised A s w) : FlowQueued s w.flowReport.arbitrate := by
  have flow : flowOf w.flowReport.arbitrate = flowOf w :=
    (flowOf_of_mgmt (State.arbitrate_eq _)).trans (flowOf_of_mgmt (s := w) rfl)
  have made : EventMade s w.flowReport.arbitrate ↔ EventMade s w :=
    eventMade_congr (State.arbitrate_flags' _)
  have slots := flowReport_slots w
  have taken : w.mgmt.slotsTaken = s.mgmt.slotsTaken := by rw [Mgmt.slotsTaken, h.slots, h.reserved, Mgmt.slotsTaken]
  rw [h.slots, taken] at slots
  refine ⟨fun busy => ?_, fun idle empty none_waits free => ?_⟩
  · have same : w.flowReport.arbitrate = w.flowReport :=
      State.arbitrate_of_idle fun c => absurd (h.lane.symm.trans c) busy
    rw [made, flow, same]
    exact ⟨h.lane, slots, h.made, h.quiet⟩
  · have one : w.flowReport.mgmt.slots = [flowOf w] := by
      rw [slots, empty, List.nil_append, if_pos]
      simp [Mgmt.slotsTaken, empty, free, Config.replyFlowSlots]
    have lane : w.flowReport.mgmt.lane = none := h.lane.trans idle
    have slot : w.flowReport.mgmt.eventSlot = w.mgmt.eventSlot := rfl
    rw [made, flow, State.arbitrate, lane]
    dsimp only
    rw [Mgmt.choose, one, slot, List.find?_eq_none.mpr fun x hx => by rw [List.mem_singleton.mp hx]; simp [flowOf_eq]]
    dsimp only
    by_cases m : EventMade s w
    · obtain ⟨e, he⟩ := Option.ne_none_iff_exists'.mp (h.made m)
      rw [he]
      exact ⟨rfl, fun _ => ⟨⟨e, rfl⟩, rfl⟩, fun c => absurd m c⟩
    · rw [h.quiet m, none_waits]
      exact ⟨rfl, fun c => absurd c m, fun _ => ⟨rfl, rfl⟩⟩

/-- An event whose work has raised flags and changed the show state. -/
theorem FlowQueued.of_changed {A : Flag → Prop} {s : State} {work : State → State} (h : Raised A s (work s))
    (hq : (work s).seq.state ≠ s.seq.state) : FlowQueued s (event work s) := by
  rw [event, reportChange_changed hq]
  exact .of_raised ((h.mono fun f hf => Or.inl hf).raise (A := fun f => A f ∨ f = .showState) (.inr rfl))

/-! ### STALL_TRIGGER and FLOW_INTERVAL -/

/-- The queue while every parcel waits: an IDLE lane takes the FLOW report at once. -/
theorem flowReport_taken {s : State} (h : QueuesOk s) : s.flowReport.arbitrate = { s with mgmt :=
    if s.mgmt.lane = none then { s.mgmt with flowCount := 0, lane := some (flowOf s) }
    else if s.mgmt.slots.length < 7 then { s.mgmt with flowCount := 0, slots := s.mgmt.slots ++ [flowOf s] }
    else { s.mgmt with flowCount := 0 } } := by
  have taken : s.mgmt.slotsTaken = s.mgmt.slots.length := by rw [Mgmt.slotsTaken, h.reserved]; rfl
  have report : s.flowReport = { s with mgmt := { s.mgmt with
      slots := if s.mgmt.slots.length < 7 then s.mgmt.slots ++ [flowOf s] else s.mgmt.slots, flowCount := 0 } } := by
    rw [State.flowReport, taken]
    rfl
  rw [report]
  by_cases idle : s.mgmt.lane = none
  · obtain ⟨slots, event⟩ := h.idle idle
    rw [if_pos idle, slots]
    unfold State.arbitrate
    dsimp only
    rw [idle, event]
    simp [Mgmt.choose, flowOf_eq]
    exact slots
  · rw [if_neg idle]
    refine Eq.trans (State.arbitrate_of_idle (by exact fun c => absurd c idle)) ?_
    split
    · rfl
    · rfl

/-- Settles O8: the stall trigger raises STALL before the report, and a FLOW interval makes the report alone. -/
theorem stallTriggerAndFlowInterval : Obligations.StallTriggerAndFlowInterval := by
  refine ⟨fun s hr hq => ?_, fun s hr ho hq => ?_, fun s hr ho => ⟨fun hq => ?_, fun h1 h2 h3 => ?_⟩⟩
  · let work : State → State := fun s => if s.seq.state = .playing then s.enterStalled else s
    have stalled : work s = s.enterStalled := if_pos hq
    have raised : Raised (· = .stall) s (work s) := by
      rw [stalled]
      have seq : Raised (· = .stall) s (s.updSeq fun q => { q with state := .stalled, stallTimer := some 0 }) := .of_mgmt rfl
      exact (seq.raise rfl).congr rfl
    have changed : (work s).seq.state ≠ s.seq.state := by
      have state : s.enterStalled.seq.state = .stalled := by
        have seq : s.enterStalled.seq = _ := State.raise_seq (s.updSeq fun q => { q with state := .stalled, stallTimer := some 0 })
          .stall
        rw [seq]; rfl
      rw [stalled, state, hq]
      exact fun c => nomatch c
    have same : event work s = { work s with mgmt := (event work s).mgmt } := by
      rw [event, State.arbitrate_eq, State.reportChange_eq]
    have effects : s.enterStalled = { s with
        seq := { s.seq with state := .stalled, stallTimer := some 0 }, repeats := 0, mgmt := s.enterStalled.mgmt
        snd := { s.snd with fader := if s.snd.fader.muted then s.snd.fader
          else { s.snd.fader with saved := s.snd.fader.target, value := 0, target := 0 } } } := by
      rw [State.enterStalled, State.raise_eq]; rfl
    rw [stalled, effects] at same
    refine ⟨event work s, run_running hr, ?_, ?_, ?_, ?_, ?_, ?_, ?_, FlowQueued.of_changed raised changed, ?_⟩
    · rw [same]
    · rw [same]
    · rw [same]
    · rw [same]
    · rw [event_flags, if_neg changed, stalled]
      exact congrArg (withFlag · .showState) (State.raise_flags _ .stall)
    · rw [event, State.arbitrate_flowCount', reportChange_flowCount changed]
    · rw [event, State.arbitrate_enables', reportChange_enables changed, raised.enables]
    · rw [event, State.arbitrate_requests', reportChange_requests changed, raised.requests]
  · have report : State.reportChange s.seq.state s.flowReport = s.flowReport := State.reportChange_same rfl
    refine (run_running hr).trans (congrArg Host.Outcome.next ?_)
    rw [event, if_pos hq, report, flowReport_taken ho]
  · have same : (if s.seq.state = .playing then s.enterStalled else s) = s := if_neg hq
    refine (run_running hr).trans (congrArg Host.Outcome.next ?_)
    exact (event_quiet (by rw [same]) (by rw [same]) ho.idle).trans same
  · have same : (if s.seq.state = .preroll ∨ s.seq.state = .playing ∨ s.seq.state = .stalled then s.flowReport else s) = s :=
      if_neg (by simp [h1, h2, h3])
    refine (run_running hr).trans (congrArg Host.Outcome.next ?_)
    exact (event_quiet (by rw [same]) (by rw [same]) ho.idle).trans same

end Sys2Proof.Safety
end

-- ==== two runs side by side: tracks, items and units ====
section
/-! PROOFS. Two runs of the part's work side by side. Whatever an operation reads, it reads alike from two states that agree
(`Agree`), and it changes both in the same way. A relation of states that is closed under the same change of one component on both
sides is therefore kept by every operation; a property of states is the case of two equal states. -/

namespace Sys2Proof.Safety

open Sys2Proof.Machine

/-! ### Ranges -/

/-- The fader within its range (R91). -/
def FaderOk (f : Fader) : Prop := f.value ≤ 32768 ∧ f.target ≤ 32768 ∧ f.saved ≤ 32768 ∧ f.rate ≤ 65535

/-- A lane within its ranges (R88, R100, R101). -/
def LaneOk (l : Lane) : Prop :=
  (In24 l.out ∧ (∀ x ∈ l.block, In24 x) ∧ ∀ x ∈ l.line, In24 x) ∧ l.peak ≤ 8388608 ∧ l.clips ≤ Config.counterMax

def LanesOk (l : List Lane) : Prop := ∀ x ∈ l, LaneOk x

/-- The table values that set the fader, within their ranges. -/
def FaderValuesOk (t : Tables) : Prop :=
  (∀ c ∈ t.composition, ∀ x ∈ c.fader, x ≤ 32768) ∧
  (∀ e ∈ t.cue, ∀ x k, e.cue = .fader x k → x ≤ 32768 ∧ k ≤ 65535) ∧ t.settings.resumeRate ≤ 65535

/-- A schedule in order and within its size (R105). -/
def ItemsOk (l : List Item) : Prop := l.length ≤ Config.scheduleItems ∧ l.Pairwise fun i j => i.inFrame ≤ j.inFrame

theorem soundOk_iff (s : State) : SoundOk s ↔
    FaderOk s.snd.fader ∧ s.snd.lanes.length = 24 ∧ LanesOk s.snd.lanes ∧ FaderValuesOk s.tables := by
  constructor
  · rintro ⟨h1, h2, h3, h4, h5, h6, h7, h8, h9, h10⟩
    exact ⟨⟨h1, h2, h3, h4⟩, h5, fun l hl => ⟨h6 l hl, h7 l hl⟩, h8, h9, h10⟩
  · rintro ⟨⟨h1, h2, h3, h4⟩, h5, h6, h8, h9, h10⟩
    exact ⟨h1, h2, h3, h4, h5, fun l hl => (h6 l hl).1, fun l hl => (h6 l hl).2, h8, h9, h10⟩

/-! ### What an operation reads -/

/-- A composition without its cue sheet, which only a composition start reads. -/
def Composition.bare (c : Composition) : Composition := { c with sheet := none }

/-- Two states that agree in all that the work of an event reads, but for the cue engine. -/
structure Agree (s u : State) : Prop where
  track       : u.tables.track = s.tables.track
  composition : u.tables.composition.map Composition.bare = s.tables.composition.map Composition.bare
  licence     : u.tables.licence = s.tables.licence
  routing     : u.tables.routing = s.tables.routing
  lane        : u.tables.lane = s.tables.lane
  cue         : u.tables.cue = s.tables.cue
  input       : u.tables.input = s.tables.input
  settings    : u.tables.settings = s.tables.settings
  tracks      : u.tracks = s.tracks
  cells       : u.freeCells = s.freeCells
  seq         : u.seq = s.seq
  period      : u.clk.period = s.clk.period
  time        : u.clk.booth = s.clk.booth
  repeats     : u.repeats = s.repeats
  lanes       : u.snd.lanes = s.snd.lanes
  map         : u.snd.activeMap = s.snd.activeMap
  muted       : u.snd.fader.muted = s.snd.fader.muted
  sub         : u.sub = s.sub
  booth       : u.booth = s.booth
  acct        : u.acct = s.acct

theorem Agree.refl (s : State) : Agree s s :=
  ⟨rfl, rfl, rfl, rfl, rfl, rfl, rfl, rfl, rfl, rfl, rfl, rfl, rfl, rfl, rfl, rfl, rfl, rfl, rfl, rfl⟩

section
variable {s u : State} (h : Agree s u)
include h

theorem Agree.trackEntry (t : Nat) : u.trackEntry t = s.trackEntry t := by rw [State.trackEntry, State.trackEntry, h.track]

theorem Agree.cueEntry (i : Nat) : u.cueEntry i = s.cueEntry i := by rw [State.cueEntry, State.cueEntry, h.cue]

theorem Agree.inputEntry (i : Nat) : u.inputEntry i = s.inputEntry i := by rw [State.inputEntry, State.inputEntry, h.input]

theorem Agree.idlePeriod : u.idlePeriod = s.idlePeriod := by rw [State.idlePeriod, State.idlePeriod, h.settings]

theorem Agree.laneSetting (j : Nat) : u.laneSetting j = s.laneSetting j := by rw [State.laneSetting, State.laneSetting, h.lane]

theorem Agree.recipe (m j : Nat) : u.recipe m j = s.recipe m j := by rw [State.recipe, State.recipe, h.routing]

theorem Agree.trackState (t : Nat) : u.track t = s.track t := State.track_congr h.tracks t

theorem Agree.region (r : Nat) : u.region r = s.region r := by rw [State.region, State.region, h.sub]

theorem Agree.bare (n : Nat) : Composition.bare (u.composition n) = Composition.bare (s.composition n) := by
  have e : ∀ v : State, Composition.bare (v.composition n) =
      (v.tables.composition.map Composition.bare).getD n Composition.invalid := fun v => by
    rw [State.composition, List.getD_eq_getElem?_getD, List.getD_eq_getElem?_getD, List.getElem?_map]
    cases v.tables.composition[n]? <;> rfl
  rw [e, e, h.composition]

theorem Agree.currentBare : Composition.bare u.currentComposition = Composition.bare s.currentComposition := by
  rw [State.currentComposition, State.currentComposition, h.seq]
  cases s.seq.currentSlot with
  | none => rfl
  | some n => exact h.bare n

theorem Agree.scheduled (t : Nat) : u.scheduled t = s.scheduled t := by
  simp only [State.scheduled, h.trackEntry, h.seq]

theorem Agree.slotTracks (n : Nat) : u.slotTracks n = s.slotTracks n := by
  simp only [State.slotTracks, h.trackEntry]

theorem Agree.trackOf (kind : TrackKind) (n : Nat) : u.trackOf kind n = s.trackOf kind n := by
  simp only [State.trackOf, h.trackEntry]

theorem Agree.currentTrack (kind : TrackKind) : u.currentTrack kind = s.currentTrack kind := by
  simp only [State.currentTrack, h.trackOf, h.seq]

theorem Agree.itemDue (f : Nat) (i : Item) : u.itemDue f i = s.itemDue f i := by
  simp only [State.itemDue, State.ofCurrent, h.sub, h.seq, h.trackEntry]

theorem Agree.trackEyes (t : Nat) : u.trackEyes t = s.trackEyes t := by
  have e := congrArg Composition.eyes (h.bare (s.trackEntry t).slot)
  rw [State.trackEyes, State.trackEyes, h.trackEntry]
  exact e

theorem Agree.readyFrames (f : Nat) : u.readyFrames f = s.readyFrames f := by
  have e : u.currentComposition.duration = s.currentComposition.duration := (congrArg Composition.duration h.currentBare :)
  rw [State.readyFrames, State.readyFrames, h.settings, e]

theorem Agree.ready : u.ready = s.ready := by
  have picture : ∀ f, u.pictureReady f = s.pictureReady f := fun f => by
    simp only [State.pictureReady, h.currentTrack, h.trackState, h.readyFrames]
  have sound : ∀ t f, u.soundReady t f = s.soundReady t f := fun t f => by
    simp only [State.soundReady, h.trackState, h.readyFrames]
  simp only [State.ready, h.seq, h.currentTrack, picture, sound]

theorem Agree.verdict (f : Nat) : u.verdict f = s.verdict f := by
  simp only [State.verdict, h.currentTrack, h.trackState]

theorem Agree.licenceCheck {c d : Composition} (e : Composition.bare d = Composition.bare c) :
    u.licenceCheck d = s.licenceCheck c := by
  have e : d.licence = c.licence := (congrArg Composition.licence e :)
  simp only [State.licenceCheck, e, State.licence, h.licence, h.time]

theorem Agree.newRecord (o : Outcome) : u.newRecord o = s.newRecord o := by
  have id : u.currentComposition.id = s.currentComposition.id := (congrArg Composition.id h.currentBare :)
  have licence : u.currentComposition.licence = s.currentComposition.licence := (congrArg Composition.licence h.currentBare :)
  rw [State.newRecord, State.newRecord, id, licence, h.seq, h.time]

end

/-! ### Relations closed under the same change on both sides -/

/-- A relation of agreeing states that is closed under the changes that the unpacker's store and the subtitle engine make; of the
flags it allows those of `A`. -/
structure Alike (A : Flag → Prop) (R : State → State → Prop) : Prop where
  agree  : ∀ {s u}, R s u → Agree s u
  raise  : ∀ {s u} f, A f → R s u → R (s.raise f) (u.raise f)
  send   : ∀ {s u} r, R s u → R (s.send r) (u.send r)
  tracks : ∀ {s u} l, l.length = s.tracks.length → R s u → R { s with tracks := l } { u with tracks := l }
  cells  : ∀ {s u} n, R s u → R { s with freeCells := n } { u with freeCells := n }
  sub    : ∀ {s u} x, (ItemsOk s.sub.schedule → ItemsOk x.schedule) → R s u → R { s with sub := x } { u with sub := x }

section
variable {A : Flag → Prop} {R : State → State → Prop} (hR : Alike A R) {s u : State} (h : R s u)
include hR h

theorem Alike.updTrack (t : Nat) (f : Track → Track) : R (s.updTrack t f) (u.updTrack t f) := by
  have := hR.tracks (s.tracks.modify t f) (List.length_modify ..) h
  rw [State.updTrack, State.updTrack, (hR.agree h).tracks]
  exact this

theorem Alike.grantCells (t n : Nat) : R (s.grantCells t n) (u.grantCells t n) := by
  have := hR.cells (s.freeCells - n) (hR.updTrack h t fun k => { k with cellsHeld := k.cellsHeld + n })
  rw [State.grantCells, State.grantCells, (hR.agree h).cells]
  exact this

theorem Alike.returnCells (t n : Nat) : R (s.returnCells t n) (u.returnCells t n) := by
  have := hR.cells (s.freeCells + n) (hR.updTrack h t fun k => { k with cellsHeld := k.cellsHeld - n })
  rw [State.returnCells, State.returnCells, (hR.agree h).cells]
  exact this

theorem Alike.count (t : Nat) (f : Counters → Counters) : R (s.count t f) (u.count t f) := hR.updTrack h t _

theorem Alike.setAssembly (t : Nat) (a : Option Assembly) : R (s.setAssembly t a) (u.setAssembly t a) := hR.updTrack h t _

theorem Alike.updWindow (t : Nat) (f : Window → Window) : R (s.updWindow t f) (u.updWindow t f) := hR.updTrack h t _

theorem Alike.setRegion (r : Nat) (x : Option Shown) : R (s.setRegion r x) (u.setRegion r x) := by
  have := hR.sub { s.sub with regions := s.sub.regions.set r x } id h
  rw [State.setRegion, State.setRegion, (hR.agree h).sub]
  exact this

omit hR h in
/-- A fold of operations that keep the relation. -/
theorem alike_foldl (R : State → State → Prop) {α : Type} {g : State → α → State} (hg : ∀ a {s u}, R s u → R (g s a) (g u a)) (l : List α) {s u : State}
    (h : R s u) : R (l.foldl g s) (l.foldl g u) := by
  induction l generalizing s u with
  | nil => exact h
  | cons a l ih => exact ih (hg a h)

theorem Alike.returnItems (l : List Item) : R (s.returnItems l) (u.returnItems l) :=
  alike_foldl R (fun i {_ _} h => hR.returnCells h i.track itemCells) l h

theorem Alike.emptyRegion (test : Item → Bool) (r : Nat) : R (State.emptyRegion test s r) (State.emptyRegion test u r) := by
  unfold State.emptyRegion
  rw [(hR.agree h).region]
  cases s.region r with
  | none => exact h
  | some x =>
    dsimp only
    split
    · exact hR.returnCells (hR.send _ (hR.setRegion h r none)) _ _
    · exact h

theorem Alike.emptyRegions (test : Item → Bool) : R (s.emptyRegions test) (u.emptyRegions test) :=
  alike_foldl R (fun r {_ _} h => hR.emptyRegion h test r) regionNumbers h

theorem Alike.dropItems (test : Item → Bool) : R (s.dropItems test) (u.dropItems test) := by
  have step := hR.sub { s.sub with schedule := s.sub.schedule.filter fun i => !test i }
    (fun ok => ⟨(List.length_filter_le ..).trans ok.1, ok.2.filter _⟩) h
  have := hR.returnItems step (s.sub.schedule.filter test)
  rw [State.dropItems, State.dropItems, (hR.agree h).sub]
  exact this

theorem Alike.removeTrackItems (t : Nat) : R (s.removeTrackItems t) (u.removeTrackItems t) :=
  hR.emptyRegions (hR.dropItems h _) _

/-! ### Scheduling -/

theorem Alike.unscheduleTrack (t : Nat) : R (s.unscheduleTrack t) (u.unscheduleTrack t) := by
  have r := hR.removeTrackItems h t
  have := hR.cells ((s.removeTrackItems t).freeCells + ((s.removeTrackItems t).track t).cellsHeld)
    (hR.updTrack r t fun k => { Track.empty with counters := k.counters })
  unfold State.unscheduleTrack
  dsimp only
  rw [(hR.agree r).trackState, (hR.agree r).cells]
  exact this

theorem Alike.scheduleTrack (t : Nat) : R (s.scheduleTrack t) (u.scheduleTrack t) := by
  have r := hR.unscheduleTrack h t
  unfold State.scheduleTrack
  dsimp only
  rw [(hR.agree h).trackEntry, (hR.agree h).trackEyes]
  split
  · exact hR.updTrack r t _
  · exact r

theorem Alike.scheduleSlot (slot : Option Nat) : R (s.scheduleSlot slot) (u.scheduleSlot slot) := by
  cases slot with
  | none => exact h
  | some n =>
    unfold State.scheduleSlot
    dsimp only
    rw [(hR.agree h).slotTracks]
    exact alike_foldl R (fun t {_ _} h => hR.scheduleTrack h t) _ h

theorem Alike.unscheduleSlot (slot : Option Nat) : R (s.unscheduleSlot slot) (u.unscheduleSlot slot) := by
  cases slot with
  | none => exact h
  | some n =>
    unfold State.unscheduleSlot
    dsimp only
    rw [(hR.agree h).slotTracks]
    exact alike_foldl R (fun t {_ _} h => hR.unscheduleTrack h t) _ h

theorem Alike.unscheduleAll : R s.unscheduleAll u.unscheduleAll := by
  have e : u.scheduled = s.scheduled := funext (hR.agree h).scheduled
  unfold State.unscheduleAll
  rw [e]
  exact alike_foldl R (fun t {_ _} h => hR.unscheduleTrack h t) _ h

/-! ### The subtitle engine -/

theorem Alike.admitItem (f : Nat) (i : Item) : R (State.admitItem f s i) (State.admitItem f u i) := by
  unfold State.admitItem
  rw [(hR.agree h).region]
  cases s.region i.region with
  | none => exact hR.setRegion h _ _
  | some x =>
    have := hR.sub { s.sub with preempted := satInc s.sub.preempted } id h
    dsimp only
    rw [(hR.agree h).sub]
    exact hR.setRegion (hR.returnCells this _ _) _ _

theorem Alike.sendAdmission (b : List (Option Shown)) (r : Nat) : R (State.sendAdmission b s r) (State.sendAdmission b u r) := by
  unfold State.sendAdmission
  rw [(hR.agree h).region]
  have step : R (if (b.getD r none).isSome = true then s.send (.clearRegion r) else s)
      (if (b.getD r none).isSome = true then u.send (.clearRegion r) else u) := by
    split
    · exact hR.send _ h
    · exact h
  cases s.region r with
  | none => exact step
  | some x => exact hR.send _ step

theorem Alike.admitItems (f : Nat) : R (s.admitItems f) (u.admitItems f) := by
  have a := hR.agree h
  have due : u.itemDue f = s.itemDue f := funext (a.itemDue f)
  have step := hR.sub { s.sub with schedule := s.sub.schedule.filter fun i => !s.itemDue f i }
    (fun ok => ⟨(List.length_filter_le ..).trans ok.1, ok.2.filter _⟩) h
  unfold State.admitItems
  dsimp only
  rw [due, a.sub]
  exact alike_foldl R (fun r {_ _} h => hR.sendAdmission h _ r) _ (alike_foldl R (fun i {_ _} h => hR.admitItem h f i) _ step)

theorem Alike.refreshRegion (f r : Nat) : R (State.refreshRegion f s r) (State.refreshRegion f u r) := by
  unfold State.refreshRegion
  rw [(hR.agree h).region]
  cases s.region r with
  | none => exact h
  | some x =>
    dsimp only
    split
    · exact h
    · exact hR.send _ (hR.setRegion h _ _)

theorem Alike.subtitleWork (f : Nat) : R (s.subtitleWork f) (u.subtitleWork f) := by
  unfold State.subtitleWork
  split
  · exact h
  · have admitted := hR.admitItems (hR.emptyRegions h fun i => decide (i.outFrame ≤ f)) f
    have a := hR.agree admitted
    have test : (fun i => ((u.emptyRegions fun i => decide (i.outFrame ≤ f)).admitItems f).ofCurrent i && decide (i.outFrame ≤ f)) =
        fun i => ((s.emptyRegions fun i => decide (i.outFrame ≤ f)).admitItems f).ofCurrent i && decide (i.outFrame ≤ f) := by
      funext i
      simp only [State.ofCurrent, a.seq, a.trackEntry]
    dsimp only
    rw [test]
    exact alike_foldl R (fun r {_ _} h => hR.refreshRegion h f r) _ (hR.dropItems admitted _)

theorem Alike.nameActive (t : Option Nat) : R (s.nameActive t) (u.nameActive t) := by
  have step := hR.sub { s.sub with active := t } id h
  unfold State.nameActive
  rw [(hR.agree h).sub]
  split
  · exact h
  · exact hR.emptyRegions step _

/-! ### Units taken -/

theorem Alike.takeUnit (gap : A .soundGap) (t f : Nat) :
    R (s.takeUnit t f).1 (u.takeUnit t f).1 ∧ (u.takeUnit t f).2 = (s.takeUnit t f).2 := by
  have dropped : ∀ q n, R ((s.updTrack t fun k => { k with queue := q }).returnCells t n)
      ((u.updTrack t fun k => { k with queue := q }).returnCells t n) := fun q n => hR.returnCells (hR.updTrack h t _) t n
  unfold State.takeUnit
  rw [(hR.agree h).trackState]
  dsimp only
  split
  · split
    · exact ⟨dropped _ _, rfl⟩
    · exact ⟨hR.raise _ gap (dropped _ _), rfl⟩
  · exact ⟨hR.raise _ gap (dropped _ _), rfl⟩

theorem Alike.takeTrack (gap : A .soundGap) (t : Option Nat) (f : Nat) :
    R (s.takeTrack t f).1 (u.takeTrack t f).1 ∧ (u.takeTrack t f).2 = (s.takeTrack t f).2 := by
  cases t with
  | none => exact ⟨h, rfl⟩
  | some n =>
    obtain ⟨r, e⟩ := hR.takeUnit h gap n f
    refine ⟨r, ?_⟩
    unfold State.takeTrack
    dsimp only
    rw [e, (hR.agree h).trackEntry]

end

end Sys2Proof.Safety
end

-- ==== two runs side by side: the show, the blocks and the position advance ====
section
/-! PROOFS. Two runs side by side, continued: the show, the sound path and the position advance. -/

namespace Sys2Proof.Safety

open Sys2Proof.Machine

/-- As `Alike`, and closed under the changes of the show, the records and the blocks. -/
structure AlikeShow (A : Flag → Prop) (R : State → State → Prop) : Prop extends Alike A R where
  seq     : ∀ {s u} f, (∀ q, (f q).playlist = q.playlist) → R s u → R (s.updSeq f) (u.updSeq f)
  period  : ∀ {s u} p, R s u → R (s.setPeriod p) (u.setPeriod p)
  repeats : ∀ {s u} n, R s u → R { s with repeats := n } { u with repeats := n }
  lanes   : ∀ {s u} l, l.length = s.snd.lanes.length → (LanesOk s.snd.lanes → LanesOk l) → R s u →
    R { s with snd := { s.snd with lanes := l } } { u with snd := { u.snd with lanes := l } }
  acct    : ∀ {s u} a, R s u → R { s with acct := a } { u with acct := a }
  licence : ∀ {s u} i, R s u → R (s.useLicence i) (u.useLicence i)
  cursor  : ∀ {s u}, R s u → R s.clearCursor u.clearCursor

/-- A change of lanes that keeps each of them in its ranges keeps them all. -/
theorem lanesOk_mapIdx {l : List Lane} {f : Nat → Lane → Lane} (hf : ∀ j x, LaneOk x → LaneOk (f j x)) (h : LanesOk l) :
    LanesOk (l.mapIdx f) := by
  intro x hx
  obtain ⟨j, hj, rfl⟩ := List.mem_mapIdx.mp hx
  exact hf j _ (h _ (List.getElem_mem hj))

theorem in24_zero : In24 0 := by unfold In24; omega

/-- A lane with another block in play, of samples in range, and another delay. -/
theorem LaneOk.block {x : Lane} (h : LaneOk x) {b : List Int} (hb : ∀ y ∈ b, In24 y) (d : Nat) :
    LaneOk { x with block := b, delay := d } := by
  obtain ⟨⟨out, -, line⟩, meters⟩ := h
  exact ⟨⟨out, hb, line⟩, meters⟩

theorem in24_replicate {n : Nat} : ∀ y ∈ List.replicate n (0 : Int), In24 y := fun y hy => by
  rw [List.eq_of_mem_replicate hy]; exact in24_zero

/-- The verdict reads nothing of the sheet. -/
theorem Record.verdict_congr (r : Record) {c d : Composition} (e : Composition.bare d = Composition.bare c) (f : Nat) (shown : Bool) :
    r.verdict d f shown = r.verdict c f shown := by
  have tolerance : d.tolerance = c.tolerance := (congrArg Composition.tolerance e :)
  have count : d.countFrame = c.countFrame := (congrArg Composition.countFrame e :)
  simp only [Record.verdict, tolerance, count]

section
variable {A : Flag → Prop} {R : State → State → Prop} (hR : AlikeShow A R) {s u : State} (h : R s u)
include hR h

/-! ### Blocks -/

theorem AlikeShow.mapLanes {f : Nat → Lane → Lane} (hf : ∀ j x, LaneOk x → LaneOk (f j x)) : R (s.mapLanes f) (u.mapLanes f) := by
  have := hR.lanes (s.snd.lanes.mapIdx f) List.length_mapIdx (lanesOk_mapIdx hf) h
  unfold State.mapLanes
  rw [(hR.agree h).lanes]
  exact this

theorem AlikeShow.silentBlock : R s.silentBlock u.silentBlock := by
  unfold State.silentBlock
  rw [(hR.agree h).period, funext (hR.agree h).laneSetting]
  exact hR.mapLanes h fun j x ok => ok.block in24_replicate _

theorem AlikeShow.soundBlock (clip : A .clip) (m : Mix) (l : List (List Int)) : R (s.soundBlock m l) (u.soundBlock m l) := by
  have ok : ∀ (ys : List Int) (d : Nat) (x : Lane), LaneOk x →
      LaneOk { x with block := ys.map clamp24, delay := d, clips := satAdd x.clips (clampCount ys) } := fun ys d x hx => by
    obtain ⟨⟨out, -, line⟩, peak, -⟩ := hx
    refine ⟨⟨out, fun y hy => ?_, line⟩, peak, Nat.min_le_right ..⟩
    obtain ⟨z, -, rfl⟩ := List.mem_map.mp hy
    exact clamp24_in24 z
  unfold State.soundBlock
  dsimp only
  rw [(hR.agree h).lanes, funext (hR.agree h).laneSetting, funext ((hR.agree h).recipe m.map)]
  split
  · exact hR.raise _ clip (hR.mapLanes h fun j x hx => ok _ _ x hx)
  · exact hR.mapLanes h fun j x hx => ok _ _ x hx

theorem AlikeShow.frameBlock (gap : A .soundGap) (clip : A .clip) (m : Mix) (f : Nat) : R (s.frameBlock m f) (u.frameBlock m f) := by
  obtain ⟨r1, e1⟩ := hR.takeTrack h gap (s.currentTrack .soundMain) f
  obtain ⟨r2, e2⟩ := hR.takeTrack r1 gap (s.currentTrack .soundAux) f
  unfold State.frameBlock
  rw [(hR.agree h).currentTrack, (hR.agree h).currentTrack, (hR.agree h).period]
  dsimp only
  rw [e1, e2]
  split
  · exact hR.silentBlock r2
  · exact hR.soundBlock r2 clip _ _

/-! ### Records -/

theorem AlikeShow.updOpen (f : Record → Record) :
    R { s with acct := s.acct.updOpen f } { u with acct := u.acct.updOpen f } := by
  rw [(hR.agree h).acct]
  exact hR.acct _ h

theorem AlikeShow.closeRecord : R s.closeRecord u.closeRecord := hR.updOpen h _

theorem AlikeShow.joinLog (wrap : A .logWrap) (r : Record) : R (s.joinLog r) (u.joinLog r) := by
  have push : ∀ {s u}, R s u → R { s with acct := { s.acct with log := { r with number := s.acct.nextNumber } :: s.acct.log,
                                                                nextNumber := Machine.nextNumber s.acct.nextNumber } }
      { u with acct := { u.acct with log := { r with number := u.acct.nextNumber } :: u.acct.log,
                                     nextNumber := Machine.nextNumber u.acct.nextNumber } } := fun {s u} h => by
    rw [(hR.agree h).acct]; exact hR.acct _ h
  unfold State.joinLog
  rw [(hR.agree h).acct]
  dsimp only
  split
  · exact push h
  · exact push (hR.raise _ wrap (hR.acct _ h))

theorem AlikeShow.writeBarred (barred : A .barred) (wrap : A .logWrap) (reason : BarReason) :
    R (s.writeBarred reason) (u.writeBarred reason) := by
  have joined := hR.joinLog h wrap (s.newRecord (.barred reason))
  have marked := hR.acct { (s.joinLog (s.newRecord (.barred reason))).acct with lastBarred := reason } joined
  unfold State.writeBarred
  dsimp only
  rw [(hR.agree h).newRecord, (hR.agree joined).acct]
  exact hR.raise _ barred marked

theorem AlikeShow.judgeCount (counted : A .counted) : R s.judgeCount u.judgeCount := by
  unfold State.judgeCount
  rw [(hR.agree h).acct, (hR.agree h).time]
  cases s.acct.openRecord? with
  | none => exact h
  | some r =>
    dsimp only
    split
    · exact h
    · have marked := hR.acct (s.acct.updOpen fun r => { r with counted := true, countTime := s.clk.booth }) h
      cases r.licence with
      | none => exact hR.raise _ counted marked
      | some i => exact hR.raise _ counted (hR.licence i marked)

theorem AlikeShow.accountVerdict (counted : A .counted) (f : Nat) (shown : Bool) :
    R (s.accountVerdict f shown) (u.accountVerdict f shown) := by
  have bare := (hR.agree h).currentBare
  have count : u.currentComposition.countFrame = s.currentComposition.countFrame := (congrArg Composition.countFrame bare :)
  have verdict : (fun r : Record => r.verdict u.currentComposition f shown) = fun r => r.verdict s.currentComposition f shown :=
    funext fun r => Record.verdict_congr r bare f shown
  have step := hR.updOpen h fun r => r.verdict s.currentComposition f shown
  unfold State.accountVerdict
  dsimp only
  rw [count, verdict]
  split
  · exact hR.judgeCount step counted
  · exact step

/-! ### Frame Presentation -/

theorem AlikeShow.sendVerdict (f : Nat) (shown : Bool) : R (s.sendVerdict f shown) (u.sendVerdict f shown) := by
  unfold State.sendVerdict
  dsimp only
  rw [(hR.agree h).currentTrack]
  exact hR.send _ h

theorem AlikeShow.advanceWindows (f : Nat) : R (s.advanceWindows f) (u.advanceWindows f) := by
  unfold State.advanceWindows
  rw [(hR.agree h).currentTrack]
  cases s.currentTrack .picture with
  | none => exact h
  | some t => exact hR.updWindow h t _

/-! ### Entries to the show states -/

theorem AlikeShow.enterEnded : R s.enterEnded u.enterEnded := by
  have step := hR.seq (fun q => { q with state := .ended, position := 0, frame := 0, prerollTimer := none, stallTimer := none })
    (fun _ => rfl) (hR.send .black h)
  unfold State.enterEnded
  rw [(hR.agree h).idlePeriod]
  exact hR.cursor (hR.repeats 0 (hR.period _ step))

theorem AlikeShow.enterPreroll : R s.enterPreroll u.enterPreroll := by
  have sent : R (if s.seq.state = .preroll then s else s.send .black) (if s.seq.state = .preroll then u else u.send .black) := by
    split
    · exact h
    · exact hR.send _ h
  unfold State.enterPreroll
  rw [(hR.agree h).seq]
  exact hR.seq (fun q => { q with state := .preroll, prerollTimer := some 0, stallTimer := none }) (fun _ => rfl) sent

theorem AlikeShow.enterStopped (reason : StopReason) : R (s.enterStopped reason) (u.enterStopped reason) := by
  have gone := hR.unscheduleAll (hR.closeRecord h)
  have step := hR.seq (fun q => { q with state := .stopped, reason := reason, prerollTimer := none, stallTimer := none })
    (fun _ => rfl) (hR.send .black gone)
  unfold State.enterStopped
  rw [(hR.agree h).idlePeriod]
  exact hR.cursor (hR.repeats 0 (hR.period _ step))

/-! ### The position advance -/

theorem AlikeShow.leavePosition : R s.leavePosition u.leavePosition := by
  have gone := hR.unscheduleSlot h s.seq.currentSlot
  unfold State.leavePosition
  rw [(hR.agree h).seq]
  exact hR.repeats 0 (hR.cursor (hR.seq (fun q => { q with frame := 0, cleared := false }) (fun _ => rfl) gone))

theorem AlikeShow.movePosition : R s.movePosition u.movePosition := by
  unfold State.movePosition
  rw [(hR.agree h).seq]
  split
  · exact hR.seq (fun q => { q with position := 0 }) (fun _ => rfl) h
  · have step := hR.seq (fun q => { q with position := q.position + 1 }) (fun _ => rfl) h
    dsimp only
    rw [(hR.agree step).seq]
    exact hR.scheduleSlot step _

omit h in
theorem AlikeShow.advance (barred : A .barred) (wrap : A .logWrap) (n : Nat) {s u : State} (h : R s u) :
    R (State.advance n s) (State.advance n u) := by
  induction n generalizing s u with
  | zero => exact h
  | succ n ih =>
    have moved := hR.movePosition (hR.leavePosition h)
    have check := (hR.agree moved).licenceCheck (hR.agree moved).currentBare
    unfold State.advance
    dsimp only
    rw [check, (hR.agree moved).seq]
    split
    · exact moved
    · split
      · exact ih (hR.writeBarred moved barred wrap _)
      · exact hR.seq (fun q => { q with cleared := true }) (fun _ => rfl) moved

theorem AlikeShow.advancePosition (barred : A .barred) (wrap : A .logWrap) : R s.advancePosition u.advancePosition := by
  unfold State.advancePosition
  rw [(hR.agree h).seq]
  exact hR.advance barred wrap _ h

end

/-! ### The fader and the compositions' starts -/

/-- As `AlikeShow`, and closed under the changes of the fader and of the active map. -/
structure AlikeFader (A : Flag → Prop) (R : State → State → Prop) : Prop extends AlikeShow A R where
  fader : ∀ {s u} f, (FaderValuesOk s.tables → ∀ x, FaderOk x → FaderOk (f x)) →
    (∀ x y, y.muted = x.muted → (f y).muted = (f x).muted) → R s u → R (s.updFader f) (u.updFader f)
  map   : ∀ {s u} m, R s u → R (s.activateMap m) (u.activateMap m)

section
variable {A : Flag → Prop} {R : State → State → Prop} (hR : AlikeFader A R) {s u : State} (h : R s u)
include hR h

theorem AlikeFader.holdEvent : R s.holdEvent u.holdEvent := by
  refine hR.fader _ (fun _ x ok => ?_) (fun x y e => ?_) h
  · cases hm : x.muted with
    | true => rwa [if_pos rfl]
    | false =>
      obtain ⟨-, target, -, rate⟩ := ok
      rw [if_neg (by simp)]
      exact ⟨Nat.zero_le _, Nat.zero_le _, target, rate⟩
  · rw [e]
    cases hm : x.muted with
    | true => exact e
    | false => rfl

theorem AlikeFader.resumeEvent : R s.resumeEvent u.resumeEvent := by
  unfold State.resumeEvent
  rw [(hR.agree h).settings]
  refine hR.fader _ (fun values x ok => ?_) (fun x y e => ?_) h
  · cases hm : x.muted with
    | true => rwa [if_pos rfl]
    | false =>
      obtain ⟨-, -, saved, -⟩ := ok
      rw [if_neg (by simp)]
      exact ⟨Nat.zero_le _, saved, saved, values.2.2⟩
  · rw [e]
    cases hm : x.muted with
    | true => exact e
    | false => rfl

theorem AlikeFader.enterHolding : R s.enterHolding u.enterHolding :=
  hR.holdEvent (hR.seq (fun q => { q with state := .holding }) (fun _ => rfl) h)

theorem AlikeFader.enterStalled (stall : A .stall) : R s.enterStalled u.enterStalled :=
  hR.repeats 0 (hR.holdEvent (hR.raise _ stall
    (hR.seq (fun q => { q with state := .stalled, stallTimer := some 0 }) (fun _ => rfl) h)))

theorem AlikeFader.countRepeat (stall : A .stall) (shown : Bool) : R (s.countRepeat shown) (u.countRepeat shown) := by
  unfold State.countRepeat
  dsimp only
  rw [(hR.agree h).repeats, (hR.agree h).settings]
  generalize (if shown = true then 0 else s.repeats + 1) = n
  have step := hR.repeats n h
  split
  · exact hR.enterStalled step stall
  · exact step

theorem AlikeFader.present (counted : A .counted) (stall : A .stall) (f : Nat) : R (s.present f) (u.present f) := by
  unfold State.present
  rw [(hR.agree h).verdict]
  exact hR.advanceWindows (hR.countRepeat (hR.accountVerdict (hR.sendVerdict h f _) counted f _) stall _) f

end

/-- As `AlikeFader`, and closed under the setting of the cursor to the current composition's sheet (R126). -/
structure AlikeStart (A : Flag → Prop) (R : State → State → Prop) : Prop extends AlikeFader A R where
  sheet : ∀ {s u}, R s u →
    R (s.updCue fun k => { k with cursor := s.currentComposition.sheet.map fun x => { next := x.1, stop := x.1 + x.2 } })
      (u.updCue fun k => { k with cursor := u.currentComposition.sheet.map fun x => { next := x.1, stop := x.1 + x.2 } })

/-- The fader target of a loaded composition is in range. -/
theorem currentComposition_fader {s : State} (h : FaderValuesOk s.tables) {t : Nat} (ht : s.currentComposition.fader = some t) :
    t ≤ 32768 := by
  unfold State.currentComposition State.composition at ht
  split at ht
  · rw [List.getD_eq_getElem?_getD] at ht
    rename_i n _
    cases hc : s.tables.composition[n]? with
    | none => rw [hc] at ht; cases ht
    | some c => rw [hc] at ht; exact h.1 c (List.mem_of_getElem? hc) t ht
  · cases ht

theorem currentComposition_congr {s u : State} (ht : u.tables.composition = s.tables.composition) (hs : u.seq = s.seq) :
    u.currentComposition = s.currentComposition := by
  simp only [State.currentComposition, State.composition, ht, hs]

theorem nameActive_rest (s : State) (t : Option Nat) : OnlySubtitles s (s.nameActive t) := by
  unfold State.nameActive
  split
  · exact .refl s
  · have named : OnlySubtitles s { s with sub := { s.sub with active := t } } := ⟨rfl, rfl, fun _ => rfl⟩
    exact named.trans (State.emptyRegions_spec _ _).1

/-- What a start changes before its sheet leaves the current composition's entry alone. -/
theorem startsBefore (v : State) (p m : Nat) (t a : Option Nat) :
    (((((v.setPeriod p).raise .compositionStart).activateMap m).startFader t).nameActive a).currentComposition =
      v.currentComposition := by
  have before : ((((v.setPeriod p).raise .compositionStart).activateMap m).startFader t).tables = v.tables ∧
      ((((v.setPeriod p).raise .compositionStart).activateMap m).startFader t).seq = v.seq := by
    cases t with
    | none => simp [State.startFader]
    | some t => simp [State.startFader]
  have tables := congrArg State.tables (nameActive_rest ((((v.setPeriod p).raise .compositionStart).activateMap m).startFader t) a).rest
  exact currentComposition_congr (congrArg Tables.composition (tables.trans before.1)) ((nameActive_seq _ a).trans before.2)

/-- A boundary's work on a presented frame, before its due cues (R41). -/
def presented (m : Mix) (s : State) : State :=
  (((((if s.seq.frame = 0 then s.startComposition else s).updSeq fun q => { q with frame := s.seq.frame + 1 }).present
    s.seq.frame).frameBlock m s.seq.frame).subtitleWork s.seq.frame)

theorem playFrame_eq (m : Mix) (s : State) : s.playFrame m = (presented m s).cueWork s.seq.frame := rfl

section
variable {A : Flag → Prop} {R : State → State → Prop} (hR : AlikeStart A R) {s u : State} (h : R s u)
include hR h

theorem AlikeStart.startFader (target : Option Nat) (ok : FaderValuesOk s.tables → ∀ t, target = some t → t ≤ 32768) :
    R (s.startFader target) (u.startFader target) := by
  cases target with
  | none => exact h
  | some t =>
    refine hR.fader (fun f => { f with target := t }) (fun values x hx => ?_) (fun x y e => e) h
    obtain ⟨value, -, saved, rate⟩ := hx
    exact ⟨value, ok values t rfl, saved, rate⟩

/-- The start of a composition. What a start changes before its sheet leaves the current composition's entry alone. -/
theorem AlikeStart.startComposition (start : A .compositionStart) (wrap : A .logWrap) : R s.startComposition u.startComposition := by
  have bare := (hR.agree h).currentBare
  have rate : u.currentComposition.rateCode = s.currentComposition.rateCode := (congrArg Composition.rateCode bare :)
  have map : u.currentComposition.map = s.currentComposition.map := (congrArg Composition.map bare :)
  have fader : u.currentComposition.fader = s.currentComposition.fader := (congrArg Composition.fader bare :)
  have subtitle : u.currentComposition.subtitle = s.currentComposition.subtitle := (congrArg Composition.subtitle bare :)
  have r1 := hR.map s.currentComposition.map (hR.raise .compositionStart start
    (hR.period (samplesPerFrame s.currentComposition.rateCode) h))
  have r2 := hR.nameActive (hR.startFader r1 s.currentComposition.fader fun values t ht =>
    currentComposition_fader (s := s) (by simpa using values) ht) s.currentComposition.subtitle
  have r3 := hR.sheet r2
  rw [startsBefore, startsBefore] at r3
  unfold State.startComposition State.openRecord
  dsimp only
  rw [rate, map, fader, subtitle, (hR.agree r3).newRecord]
  exact hR.joinLog r3 wrap _

theorem AlikeStart.presented (wide : ∀ f, f ≠ .showState → A f) (m : Mix) : R (presented m s) (presented m u) := by
  have started : R (if s.seq.frame = 0 then s.startComposition else s) (if s.seq.frame = 0 then u.startComposition else u) := by
    split
    · exact hR.startComposition h (wide _ (by simp)) (wide _ (by simp))
    · exact h
  have shown := hR.present (hR.seq (fun q => { q with frame := s.seq.frame + 1 }) (fun _ => rfl) started) (wide _ (by simp))
    (wide _ (by simp)) s.seq.frame
  unfold Safety.presented
  rw [(hR.agree h).seq]
  exact hR.subtitleWork (hR.frameBlock shown (wide _ (by simp)) (wide _ (by simp)) m s.seq.frame) s.seq.frame

end
end Sys2Proof.Safety
end

-- ==== two runs side by side: cues and the frame boundary ====
section
/-! PROOFS. Two runs side by side: the cue engine, the frame boundary, the show commands, the latch and the inputs. -/

namespace Sys2Proof.Safety

open Sys2Proof.Machine

/-! ### Taking cues -/

/-- A FADER cue's target and rate within their ranges. -/
def CueOk (c : Cue) : Prop := ∀ x k, c = .fader x k → x ≤ 32768 ∧ k ≤ 65535

theorem cueEntry_ok {s : State} (h : FaderValuesOk s.tables) (i : Nat) : CueOk (s.cueEntry i).cue := by
  intro x k e
  rw [State.cueEntry, List.getD_eq_getElem?_getD] at e
  cases hc : s.tables.cue[i]? with
  | none => rw [hc] at e; cases e
  | some c => rw [hc] at e; exact h.2.1 c (List.mem_of_getElem? hc) x k e

/-- As `AlikeStart`, and closed under the effects of an entry taken (R130 to R133). -/
structure AlikeTake (A : Flag → Prop) (R : State → State → Prop) : Prop extends AlikeStart A R where
  mark  : ∀ {s u} n, R s u → R (s.updCue fun c => { c with lastMark := n }) (u.updCue fun c => { c with lastMark := n })
  hold  : ∀ {s u}, R s u → R (s.updCue fun c => { c with pendingHold := true }) (u.updCue fun c => { c with pendingHold := true })
  booth : ∀ {s u} b, b.cueLevels.length = s.booth.cueLevels.length → b.generators.length = s.booth.generators.length →
    b.inputs.length = s.booth.inputs.length → R s u → R { s with booth := b } { u with booth := b }

section
variable {A : Flag → Prop} {R : State → State → Prop} (hR : AlikeTake A R) {s u : State} (h : R s u)
include hR h

theorem AlikeTake.setGenerators (l : List Generator) (hl : l.length = s.booth.generators.length) :
    R (s.setGenerators l) (u.setGenerators l) := by
  have := hR.booth { s.booth with generators := l } rfl hl rfl h
  rw [State.setGenerators, State.setGenerators, (hR.agree h).booth]
  exact this

theorem AlikeTake.setCueLevel (line : Nat) (level : Level) : R (s.setCueLevel line level) (u.setCueLevel line level) := by
  have := hR.booth { s.booth with cueLevels := s.booth.cueLevels.set line level } List.length_set rfl rfl h
  rw [State.setCueLevel, State.setCueLevel, (hR.agree h).booth]
  exact this

theorem AlikeTake.linePulse (g line : Nat) (mode : PulseMode) (count pulse space : Nat) :
    R (s.linePulse g line mode count pulse space) (u.linePulse g line mode count pulse space) := by
  unfold State.linePulse
  rw [(hR.agree h).booth]
  split
  · exact h
  · exact hR.setGenerators h _ (by simp)

theorem AlikeTake.faderCue {x k : Nat} (ok : FaderValuesOk s.tables → x ≤ 32768 ∧ k ≤ 65535) :
    R (s.faderCue x k) (u.faderCue x k) := by
  unfold State.faderCue
  rw [(hR.agree h).muted, (hR.agree h).seq]
  split
  · exact hR.fader (fun f => { f with saved := x })
      (fun values _ ⟨value, target, _, rate⟩ => ⟨value, target, (ok values).1, rate⟩) (fun _ _ e => e) h
  · exact hR.fader (fun f => { f with target := x, rate := k })
      (fun values _ ⟨value, _, saved, _⟩ => ⟨value, (ok values).1, saved, (ok values).2⟩) (fun _ _ e => e) h

theorem AlikeTake.takeCue (marked : A .cueMark) {expand : Nat → Nat → State → State}
    (he : ∀ a b {s u}, R s u → R (expand a b s) (expand a b u)) (c : Cue) (ok : FaderValuesOk s.tables → CueOk c) :
    R (s.takeCue expand c) (u.takeCue expand c) := by
  cases c with
  | empty => exact h
  | lineLevel line level => exact hR.setCueLevel h line level
  | linePulse g line mode count pulse space => exact hR.linePulse h g line mode count pulse space
  | pulseStop g =>
    unfold State.takeCue State.pulseStop
    dsimp only
    rw [(hR.agree h).booth]
    exact hR.setGenerators h _ (List.length_modify ..)
  | fader x k => exact hR.faderCue h fun values => ok values x k rfl
  | route map => exact hR.map map h
  | subtitles track => exact hR.nameActive h track
  | callMacro first length => exact he first length h
  | mark tag => exact hR.raise _ marked (hR.mark tag h)
  | holdShow => exact hR.hold h

theorem AlikeTake.takeFlat (marked : A .cueMark) (nest : A .cueNest) (c : Option Cue)
    (ok : FaderValuesOk s.tables → ∀ d, c = some d → CueOk d) : R (takeFlat s c) (takeFlat u c) := by
  cases c with
  | none => exact hR.raise _ nest h
  | some c => exact hR.takeCue h marked (fun _ _ {_ _} h => h) c fun values => ok values c rfl

end

/-- As `AlikeTake`, of two states with the same cue engine, and closed under its changes. -/
structure AlikeCue (A : Flag → Prop) (R : State → State → Prop) : Prop extends AlikeTake A R where
  engine : ∀ {s u}, R s u → u.cue = s.cue
  cue    : ∀ {s u} f, R s u → R (s.updCue f) (u.updCue f)

section
variable {A : Flag → Prop} {R : State → State → Prop} (hR : AlikeCue A R) (wide : ∀ f, f ≠ .showState → A f)
include hR wide

theorem AlikeCue.runEntries {expand : ReturnPoint → Nat → Nat → State → State}
    (he : ∀ r a b {s u}, R s u → R (expand r a b s) (expand r a b u)) (left i : Nat) {s u : State} (h : R s u) :
    R (State.runEntries expand left i s) (State.runEntries expand left i u) := by
  induction left generalizing i s u with
  | zero => exact h
  | succ left ih =>
    unfold State.runEntries
    rw [(hR.agree h).cueEntry]
    exact ih (i + 1) (hR.takeCue h (wide _ (by simp)) (he _) _ fun values => cueEntry_ok values i)

theorem AlikeCue.expandMacro (n : Nat) (r : ReturnPoint) (a b : Nat) {s u : State} (h : R s u) :
    R (State.expandMacro n r a b s) (State.expandMacro n r a b u) := by
  induction n generalizing r a b s u with
  | zero => exact hR.raise _ (wide _ (by simp)) h
  | succ n ih =>
    exact hR.cue (fun c => { c with stack := c.stack.tail }) (hR.runEntries wide (fun r a b {_ _} h => ih r a b h) b a
      (hR.cue (fun c => { c with stack := r :: c.stack }) h))

theorem AlikeCue.sheetWork (f n : Nat) {s u : State} (h : R s u) : R (State.sheetWork f n s) (State.sheetWork f n u) := by
  induction n generalizing s u with
  | zero => exact h
  | succ n ih =>
    unfold State.sheetWork
    rw [hR.engine h]
    cases s.cue.cursor with
    | none => exact h
    | some k =>
      dsimp only
      rw [(hR.agree h).cueEntry]
      split
      · exact ih (hR.takeCue (hR.cue _ h) (wide _ (by simp)) (fun a b {_ _} h => hR.expandMacro wide _ _ a b h) _
          fun values => cueEntry_ok values k.next)
      · exact h

theorem AlikeCue.cueWork (f : Nat) {s u : State} (h : R s u) : R (s.cueWork f) (u.cueWork f) := hR.sheetWork wide f 512 h

omit wide in
theorem AlikeCue.endExpansion {s u : State} (h : R s u) : R s.endExpansion u.endExpansion := by
  have step := hR.cue (fun c => { c with stack := [], pendingHold := false }) h
  unfold State.endExpansion
  rw [hR.engine h]
  dsimp only
  split
  · unfold State.holdShow
    rw [(hR.agree step).seq]
    split
    · exact hR.enterHolding step
    · exact step
  · exact step

theorem AlikeCue.inputMacro (first length : Nat) {s u : State} (h : R s u) : R (s.inputMacro first length) (u.inputMacro first length) :=
  hR.endExpansion (hR.runEntries wide (fun r a b {_ _} h => hR.expandMacro wide _ r a b h) length first
    (hR.cue (fun c => { c with stack := [], pendingHold := false }) h))

/-! ### The boundary's work -/

theorem AlikeCue.playFrame (m : Mix) {s u : State} (h : R s u) : R (s.playFrame m) (u.playFrame m) := by
  rw [playFrame_eq, playFrame_eq, (hR.agree h).seq]
  exact hR.cueWork wide _ (hR.presented h wide m)

theorem AlikeCue.afterAdvance (m : Mix) {s u : State} (h : R s u) : R (s.afterAdvance m) (u.afterAdvance m) := by
  unfold State.afterAdvance
  rw [(hR.agree h).seq, (hR.agree h).ready]
  split
  · exact hR.silentBlock (hR.enterEnded h)
  · split
    · exact hR.playFrame wide m
        (hR.seq (fun q => { q with state := .playing, prerollTimer := none, stallTimer := none }) (fun _ => rfl) h)
    · exact hR.silentBlock (hR.enterPreroll h)

theorem AlikeCue.endBoundary (m : Mix) {s u : State} (h : R s u) : R (s.endBoundary m) (u.endBoundary m) := by
  unfold State.endBoundary
  rw [(hR.agree h).seq]
  exact hR.afterAdvance wide m (hR.advancePosition (hR.raise _ (wide _ (by simp)) (hR.closeRecord (hR.cueWork wide _ h)))
    (wide _ (by simp)) (wide _ (by simp)))

theorem AlikeCue.playBoundary (m : Mix) {s u : State} (h : R s u) : R (s.playBoundary m) (u.playBoundary m) := by
  have duration : u.currentComposition.duration = s.currentComposition.duration :=
    (congrArg Composition.duration (hR.agree h).currentBare :)
  unfold State.playBoundary
  rw [(hR.agree h).seq, duration]
  split
  · exact hR.playFrame wide m h
  · exact hR.endBoundary wide m h

theorem AlikeCue.prerollBoundary (m : Mix) {s u : State} (h : R s u) : R (s.prerollBoundary m) (u.prerollBoundary m) := by
  have entered := hR.seq (fun q => { q with state := .playing, cleared := true, prerollTimer := none }) (fun _ => rfl) h
  unfold State.prerollBoundary
  rw [(hR.agree h).ready, (hR.agree h).seq, (hR.agree h).licenceCheck (hR.agree h).currentBare]
  split
  · dsimp only
    split
    · exact hR.playBoundary wide m entered
    · split
      · exact hR.playBoundary wide m entered
      · exact hR.afterAdvance wide m
          (hR.advancePosition (hR.writeBarred h (wide _ (by simp)) (wide _ (by simp)) _) (wide _ (by simp)) (wide _ (by simp)))
  · exact hR.silentBlock h

theorem AlikeCue.stalledBoundary (m : Mix) {s u : State} (h : R s u) : R (s.stalledBoundary m) (u.stalledBoundary m) := by
  unfold State.stalledBoundary
  rw [(hR.agree h).ready]
  split
  · exact hR.playBoundary wide m
      (hR.resumeEvent (hR.seq (fun q => { q with state := .playing, stallTimer := none }) (fun _ => rfl) h))
  · exact hR.silentBlock (hR.send .hold h)

theorem AlikeCue.boundaryWork (m : Mix) {s u : State} (h : R s u) : R (s.boundaryWork m) (u.boundaryWork m) := by
  unfold State.boundaryWork
  rw [(hR.agree h).seq]
  split
  · exact hR.prerollBoundary wide m h
  · exact hR.playBoundary wide m h
  · exact hR.stalledBoundary wide m h
  · exact hR.silentBlock (hR.send .hold h)
  all_goals exact hR.silentBlock h

end

end Sys2Proof.Safety
end

-- ==== two runs side by side: show commands, the latch, inputs and timers ====
section
/-! PROOFS. Two runs side by side: the show commands, the emergency latch, the inputs and the timers. -/

namespace Sys2Proof.Safety

open Sys2Proof.Machine

theorem LaneOk.cut {x : Lane} (h : LaneOk x) {b l : List Int} (hb : ∀ y ∈ b, In24 y) (hl : ∀ y ∈ l, In24 y) :
    LaneOk { x with block := b, line := l } := by
  obtain ⟨⟨out, -, -⟩, meters⟩ := h
  exact ⟨⟨out, hb, hl⟩, meters⟩

section
variable {A : Flag → Prop} {R : State → State → Prop} (hR : AlikeCue A R) {s u : State} (h : R s u)
include hR h

/-! ### The emergency latch -/

theorem AlikeCue.emergencyShow : R s.emergencyShow u.emergencyShow := by
  unfold State.emergencyShow
  rw [(hR.agree h).seq]
  split
  · exact hR.send _ h
  · exact hR.seq (fun q => { q with reason := .emergency }) (fun _ => rfl) (hR.send .black h)
  all_goals exact hR.enterStopped h _

theorem AlikeCue.muteSound : R s.muteSound u.muteSound := by
  refine hR.mapLanes (hR.fader (fun f => { f with value := 0, target := 0, muted := true })
    (fun _ _ ⟨_, _, saved, rate⟩ => ⟨Nat.zero_le _, Nat.zero_le _, saved, rate⟩) (fun _ _ _ => rfl) h)
    fun _ x ok => ok.cut (fun y hy => ?_) fun y hy => nomatch hy
  obtain ⟨_, -, rfl⟩ := List.mem_map.mp hy
  exact in24_zero

theorem AlikeCue.setLatch (wide : ∀ f, f ≠ .showState → A f) : R s.setLatch u.setLatch := by
  unfold State.setLatch
  rw [(hR.agree h).booth]
  split
  · exact h
  · have muted := hR.muteSound (hR.emergencyShow h)
    have stopped : R s.emergencyShow.muteSound.stopGenerators u.emergencyShow.muteSound.stopGenerators := by
      unfold State.stopGenerators
      rw [(hR.agree muted).booth]
      exact hR.setGenerators muted _ (List.length_map _)
    have latched := hR.booth { s.emergencyShow.muteSound.stopGenerators.booth with latch := true } rfl rfl rfl stopped
    dsimp only
    rw [(hR.agree stopped).booth]
    exact hR.raise _ (wide _ (by simp)) latched

/-! ### Show commands -/

theorem AlikeCue.endBySkip (wide : ∀ f, f ≠ .showState → A f) : R s.endBySkip u.endBySkip := by
  have closed : R (if s.seq.state.onAir = true then s.closeRecord.raise .compositionEnd else s)
      (if s.seq.state.onAir = true then u.closeRecord.raise .compositionEnd else u) := by
    split
    · exact hR.raise _ (wide _ (by simp)) (hR.closeRecord h)
    · exact h
  have timed := hR.seq (fun q => { q with prerollTimer := none, stallTimer := none }) (fun _ => rfl) closed
  unfold State.endBySkip
  rw [(hR.agree h).seq]
  dsimp only
  split
  · exact hR.resumeEvent timed
  · exact timed

theorem AlikeCue.inputAction (wide : ∀ f, f ≠ .showState → A f) (a : InputAction) : R (s.inputAction a) (u.inputAction a) := by
  have refused := hR.raise .inputRefused (wide _ (by simp)) h
  have seq := (hR.agree h).seq
  cases a with
  | nothing => exact h
  | start =>
    unfold State.inputAction State.startShow
    dsimp only
    rw [seq]
    split
    · exact hR.enterPreroll h
    · exact refused
  | hold =>
    unfold State.inputAction State.holdShow
    dsimp only
    rw [seq]
    split
    · exact hR.enterHolding h
    · exact refused
  | resume =>
    unfold State.inputAction State.resumeShow
    dsimp only
    rw [seq]
    split
    · exact hR.resumeEvent (hR.seq (fun q => { q with state := .playing }) (fun _ => rfl) h)
    · exact refused
  | stop =>
    unfold State.inputAction State.stopShow
    dsimp only
    rw [seq]
    split
    · exact hR.enterStopped h _
    · exact refused
  | skip =>
    have advanced := hR.advancePosition (hR.endBySkip h wide) (wide _ (by simp)) (wide _ (by simp))
    unfold State.inputAction State.skipShow
    dsimp only
    rw [seq, (hR.agree advanced).seq]
    split
    · dsimp only [Option.getD_some]
      split
      · exact hR.enterEnded advanced
      · exact hR.enterPreroll advanced
    · exact refused
  | runMacro first length => exact hR.inputMacro wide first length h
  | emergency => exact h

/-! ### Accepted changes -/

theorem AlikeCue.updInput (i : Nat) (f : Input → Input) : R (s.updInput i f) (u.updInput i f) := by
  have := hR.booth { s.booth with inputs := s.booth.inputs.modify i f } rfl rfl (List.length_modify ..) h
  rw [State.updInput, State.updInput, (hR.agree h).booth]
  exact this

theorem AlikeCue.acceptChange (wide : ∀ f, f ≠ .showState → A f) (i : Nat) : R (s.acceptChange i) (u.acceptChange i) := by
  have taken := hR.updInput h i fun k => { k with debounced := k.raw, waiting := none }
  have input : u.input i = s.input i := by rw [State.input, State.input, (hR.agree h).booth]
  unfold State.acceptChange
  rw [(hR.agree h).inputEntry, input]
  dsimp only
  split
  · split
    · split
      · exact hR.setLatch taken wide
      · exact taken
    · split
      · exact hR.inputAction taken wide _
      · exact taken
  · exact taken

/-! ### Timers -/

theorem AlikeCue.countTimers : R s.countTimers u.countTimers := by
  unfold State.countTimers
  rw [(hR.agree h).seq, (hR.agree h).settings]
  split
  · have timed := hR.seq (fun q => { q with prerollTimer := some (s.seq.prerollTimer.getD 0 + 1) }) (fun _ => rfl) h
    dsimp only
    split
    · exact hR.enterStopped timed _
    · exact timed
  · have timed := hR.seq (fun q => { q with stallTimer := some (s.seq.stallTimer.getD 0 + 1) }) (fun _ => rfl) h
    dsimp only
    split
    · exact hR.enterStopped timed _
    · exact timed
  all_goals exact h

end

end Sys2Proof.Safety
end

-- ==== two runs side by side: parcels ====
section
/-! PROOFS. Two runs side by side: the unpacker's work on a parcel. -/

namespace Sys2Proof.Safety

open Sys2Proof.Machine

/-! ### The schedule's order -/

theorem mem_insertItem {i j : Item} {l : List Item} : j ∈ insertItem i l ↔ j = i ∨ j ∈ l := by
  induction l with
  | nil => simp [insertItem]
  | cons x l ih =>
    unfold insertItem
    split
    · simp [ih]; tauto
    · simp

theorem insertItem_length (i : Item) (l : List Item) : (insertItem i l).length = l.length + 1 := by
  induction l with
  | nil => rfl
  | cons x l ih =>
    unfold insertItem
    split
    · simp [ih]
    · simp

/-- An item takes its place behind the items of its in-frame and before (R105). -/
theorem insertItem_ordered (i : Item) {l : List Item} (h : l.Pairwise fun a b => a.inFrame ≤ b.inFrame) :
    (insertItem i l).Pairwise fun a b => a.inFrame ≤ b.inFrame := by
  induction l with
  | nil => exact List.pairwise_singleton ..
  | cons x l ih =>
    obtain ⟨first, rest⟩ := List.pairwise_cons.mp h
    unfold insertItem
    split
    · rename_i before
      refine List.pairwise_cons.mpr ⟨fun j hj => ?_, ih rest⟩
      rcases mem_insertItem.mp hj with rfl | hj
      · exact before
      · exact first j hj
    · refine List.pairwise_cons.mpr ⟨fun j hj => ?_, h⟩
      rcases List.mem_cons.mp hj with rfl | hj
      · omega
      · exact (first j hj).trans' (by omega)

section
variable {A : Flag → Prop} {R : State → State → Prop} (hR : Alike A R) {s u : State} (h : R s u)
include hR h

/-! ### Offers, damage and completion -/

theorem Alike.offerItem (drop : A .subDrop) (i : Item) : R (s.offerItem i) (u.offerItem i) := by
  have frame : u.itemFrame i.track = s.itemFrame i.track := by
    simp only [State.itemFrame, (hR.agree h).seq, (hR.agree h).trackEntry]
  unfold State.offerItem
  rw [frame, (hR.agree h).sub]
  split
  · exact hR.returnCells (hR.sub { s.sub with stale := satInc s.sub.stale } id h) _ _
  · split
    · rename_i room
      refine hR.sub _ (fun ok => ⟨?_, insertItem_ordered i ok.2⟩) h
      rw [insertItem_length]
      exact room
    · exact hR.raise _ drop (hR.returnCells (hR.sub { s.sub with refused := satInc s.sub.refused } id h) _ _)

theorem Alike.assembly (t : Nat) : u.assembly t = s.assembly t := by rw [State.assembly, State.assembly, (hR.agree h).trackState]

theorem Alike.damage (t : Nat) : R (s.damage t) (u.damage t) := by
  unfold State.damage
  rw [hR.assembly h]
  cases s.assembly t with
  | none => exact h
  | some a =>
    dsimp only
    split
    · exact h
    · exact hR.updWindow (hR.setAssembly (hR.returnCells h _ _) _ _) _ _

theorem Alike.damageCounted (t : Nat) : R (s.damageCounted t) (u.damageCounted t) := by
  have intact : u.intact t = s.intact t := by rw [State.intact, State.intact, hR.assembly h]
  unfold State.damageCounted
  rw [intact]
  split
  · exact hR.count (hR.damage h t) _ _
  · exact h

theorem Alike.leaveIfLast (t : Nat) (last : Bool) : R (s.leaveIfLast t last) (u.leaveIfLast t last) := by
  unfold State.leaveIfLast
  split
  · exact hR.setAssembly h _ _
  · exact h

theorem Alike.endAssembly (t : Nat) : R (s.endAssembly t) (u.endAssembly t) := hR.setAssembly (hR.damageCounted h t) _ _

theorem Alike.overrun (full : A .overrun) (t : Nat) (last : Bool) : R (s.overrun t last) (u.overrun t last) :=
  hR.leaveIfLast (hR.raise _ full (hR.count (hR.damage h t) _ _)) _ _

theorem Alike.completeSound (t : Nat) (a : Assembly) : R (s.completeSound t a) (u.completeSound t a) := by
  have rate : (u.composition (s.trackEntry t).slot).rateCode = (s.composition (s.trackEntry t).slot).rateCode :=
    (congrArg Composition.rateCode ((hR.agree h).bare _) :)
  have left := hR.setAssembly h t none
  unfold State.completeSound
  rw [(hR.agree h).trackEntry, (hR.agree h).trackState]
  dsimp only
  rw [rate]
  split
  · exact hR.count (hR.returnCells left _ _) _ _
  · split
    · exact hR.count (hR.returnCells left _ _) _ _
    · exact hR.count (hR.updTrack left _ _) _ _

theorem Alike.completeSubtitle (drop : A .subDrop) (t : Nat) (a : Assembly) :
    R (s.completeSubtitle t a) (u.completeSubtitle t a) := by
  have left := hR.setAssembly h t none
  unfold State.completeSubtitle
  rw [(hR.agree h).trackState]
  dsimp only
  split
  · exact hR.count (hR.returnCells left _ _) _ _
  · split
    · exact hR.count (hR.returnCells left _ _) _ _
    · exact hR.offerItem (hR.count (hR.updTrack left _ _) _ _) drop _

/-! ### Payload -/

theorem Alike.grantSucceeds (t n : Nat) : u.grantSucceeds t n = s.grantSucceeds t n := by
  simp only [State.grantSucceeds, (hR.agree h).cells, (hR.agree h).trackState, (hR.agree h).trackEntry]

theorem Alike.takeSound (full : A .overrun) (t : Nat) (a : Assembly) (p : Parcel) :
    R (s.takeSound t a p) (u.takeSound t a p) := by
  have stored := hR.setAssembly (hR.grantCells h t (soundCellsNeeded a.bytes.length a.cells p.payload.length)) t
    (some { a with bytes := a.bytes ++ p.payload
                   cells := a.cells + soundCellsNeeded a.bytes.length a.cells p.payload.length })
  unfold State.takeSound
  dsimp only
  rw [hR.grantSucceeds h]
  split
  · split
    · exact hR.completeSound stored _ _
    · exact stored
  · exact hR.overrun h full _ _

theorem Alike.takeSubtitle (drop : A .subDrop) (t : Nat) (a : Assembly) (p : Parcel) :
    R (s.takeSubtitle t a p) (u.takeSubtitle t a p) := by
  have stored := hR.setAssembly h t (some { a with bytes := a.bytes ++ p.payload })
  unfold State.takeSubtitle
  split
  · exact hR.leaveIfLast (hR.damage (hR.count h _ _) _) _ _
  · dsimp only
    split
    · exact hR.completeSubtitle stored drop _ _
    · exact stored

theorem Alike.startSubtitle (full : A .overrun) (drop : A .subDrop) (t : Nat) (p : Parcel) :
    R (s.startSubtitle t p) (u.startSubtitle t p) := by
  have begun := hR.setAssembly h t (some (newAssembly p))
  unfold State.startSubtitle
  dsimp only
  rw [hR.grantSucceeds begun]
  split
  · exact hR.takeSubtitle (hR.setAssembly (hR.grantCells begun _ _) _ _) drop _ _ _
  · exact hR.overrun begun full _ _

theorem Alike.differing (t : Nat) (last : Bool) {harm : State → Nat → State}
    (hh : ∀ {s u}, R s u → R (harm s t) (harm u t)) : R (s.differing t last harm) (u.differing t last harm) := by
  unfold State.differing
  rw [hR.assembly h]
  cases s.assembly t with
  | none => exact hR.count h _ _
  | some a => exact hR.leaveIfLast (hR.count (hh h) _ _) _ _

theorem Alike.continueUnit (t : Nat) (p : Parcel) {take : State → Nat → Assembly → Parcel → State}
    (ht : ∀ a, R (take s t a p) (take u t a p)) : R (s.continueUnit t p take) (u.continueUnit t p take) := by
  have differs := hR.differing h t p.last (harm := State.damageCounted) fun h => hR.damageCounted h t
  unfold State.continueUnit
  rw [hR.assembly h]
  cases s.assembly t with
  | none => exact differs
  | some a =>
    dsimp only
    split
    · exact differs
    · exact ht a

/-! ### Picture -/

theorem Alike.completePicture (t : Nat) (p : Parcel) : R (s.completePicture t p) (u.completePicture t p) := by
  unfold State.completePicture
  split
  · exact hR.setAssembly (hR.count (hR.updWindow h _ _) _ _) _ _
  · exact h

theorem Alike.firstPicture (loss : A .pictureLoss) (t : Nat) (p : Parcel) : R (s.firstPicture t p) (u.firstPicture t p) := by
  have ended := hR.endAssembly h t
  unfold State.firstPicture
  dsimp only
  rw [(hR.agree ended).trackState]
  cases ((s.endAssembly t).track t).window with
  | none => exact ended
  | some w =>
    dsimp only
    split
    · split
      · exact hR.count ended _ _
      · exact hR.completePicture (hR.send _ (hR.setAssembly (hR.updWindow ended _ _) _ _)) _ _
    · exact hR.raise _ loss (hR.count ended _ _)

theorem Alike.continuePicture (loss : A .pictureLoss) (t : Nat) (p : Parcel) :
    R (s.continuePicture t p) (u.continuePicture t p) := by
  have differs := hR.differing h t p.last (harm := State.damageCounted) fun h => hR.damageCounted h t
  unfold State.continuePicture
  rw [(hR.agree h).trackState]
  cases (s.track t).window with
  | none => exact h
  | some w =>
    dsimp only
    split
    · rw [hR.assembly h]
      cases s.assembly t with
      | none => exact differs
      | some a =>
        dsimp only
        split
        · exact differs
        · exact hR.completePicture (hR.send _ h) _ _
    · exact hR.differing (hR.raise _ loss (hR.count h _ _)) _ _ fun h => hR.damage h t

/-! ### Essence parcels -/

theorem Alike.fragment (full : A .overrun) (loss : A .pictureLoss) (drop : A .subDrop) (p : Parcel) :
    R (s.fragment p) (u.fragment p) := by
  have sound : ∀ {v w : State}, R v w → R
      (if p.first = true then ((v.endAssembly p.track).setAssembly p.track (some (newAssembly p))).takeSound p.track (newAssembly p) p
        else v.continueUnit p.track p State.takeSound)
      (if p.first = true then ((w.endAssembly p.track).setAssembly p.track (some (newAssembly p))).takeSound p.track (newAssembly p) p
        else w.continueUnit p.track p State.takeSound) := fun h => by
    split
    · exact hR.takeSound (hR.setAssembly (hR.endAssembly h _) _ _) full _ _ _
    · exact hR.continueUnit h _ _ fun a => hR.takeSound h full _ a _
  unfold State.fragment
  dsimp only
  rw [(hR.agree h).trackEntry]
  split
  · split
    · exact hR.firstPicture h loss _ _
    · exact hR.continuePicture h loss _ _
  · split
    · exact hR.startSubtitle (hR.endAssembly h _) full drop _ _
    · exact hR.continueUnit h _ _ fun a => hR.takeSubtitle h drop _ a _
  · exact sound h
  · exact sound h

theorem Alike.acceptParcel (full : A .overrun) (loss : A .pictureLoss) (drop : A .subDrop) (p : Parcel) :
    R (s.acceptParcel p) (u.acceptParcel p) := by
  have counted := hR.count (hR.updTrack h p.track fun k => { k with expected := some ((p.sequence + 1) % 65536) }) p.track
    fun c => { c with accepted := satInc c.accepted }
  have content : ∀ {v w : State}, R v w → w.contentOk p = v.contentOk p := fun {v w} h => by
    have duration : (w.composition (v.trackEntry p.track).slot).duration = (v.composition (v.trackEntry p.track).slot).duration :=
      (congrArg Composition.duration ((hR.agree h).bare _) :)
    have eyes : (w.composition (v.trackEntry p.track).slot).eyes = (v.composition (v.trackEntry p.track).slot).eyes :=
      (congrArg Composition.eyes ((hR.agree h).bare _) :)
    simp only [State.contentOk, (hR.agree h).trackEntry, duration, eyes]
  unfold State.acceptParcel
  dsimp only
  rw [content counted]
  split
  · exact hR.fragment counted full loss drop p
  · exact hR.damageCounted (hR.count counted _ _) _

theorem Alike.essence (full : A .overrun) (loss : A .pictureLoss) (drop : A .subDrop) (p : Parcel) :
    R (s.essence p) (u.essence p) := by
  unfold State.essence
  dsimp only
  rw [(hR.agree h).scheduled, (hR.agree h).trackState]
  split
  · split
    · exact hR.acceptParcel h full loss drop p
    · exact hR.count h _ _
    · exact hR.acceptParcel (hR.damageCounted (hR.count h _ _) _) full loss drop p
  · exact hR.count h _ _

end

end Sys2Proof.Safety
end

-- ==== every step: properties that each change keeps ====
section
/-! PROOFS. A property of states that every change of one component keeps is kept by every step; the sound ranges, the schedule, the
sizes, the playlist and the cue store are such properties (R35, R88, R91, R92, R100, R101, R105, R123, R124). -/

namespace Sys2Proof.Safety

open Sys2Proof.Machine

/-! ### Properties closed under the changes of an event -/

/-- A property that every change that an event's work makes to one component keeps; of the flags it allows those of `A`. -/
structure Closed (A : Flag → Prop) (P : State → Prop) : Prop where
  raise   : ∀ {s} f, A f → P s → P (s.raise f)
  send    : ∀ {s} r, P s → P (s.send r)
  tracks  : ∀ {s} l, l.length = s.tracks.length → P s → P { s with tracks := l }
  cells   : ∀ {s} n, P s → P { s with freeCells := n }
  sub     : ∀ {s} x, (ItemsOk s.sub.schedule → ItemsOk x.schedule) → P s → P { s with sub := x }
  seq     : ∀ {s} f, (∀ q : Sequencer, (f q).playlist = q.playlist) → P s → P (s.updSeq f)
  period  : ∀ {s} p, P s → P (s.setPeriod p)
  repeats : ∀ {s} n, P s → P { s with repeats := n }
  lanes   : ∀ {s} l, l.length = s.snd.lanes.length → (LanesOk s.snd.lanes → LanesOk l) → P s →
    P { s with snd := { s.snd with lanes := l } }
  acct    : ∀ {s} a, P s → P { s with acct := a }
  licence : ∀ {s} i, P s → P (s.useLicence i)
  fader   : ∀ {s} f, (FaderValuesOk s.tables → ∀ x, FaderOk x → FaderOk (f x)) → P s → P (s.updFader f)
  map     : ∀ {s} m, P s → P (s.activateMap m)
  booth   : ∀ {s} b, b.cueLevels.length = s.booth.cueLevels.length → b.generators.length = s.booth.generators.length →
    b.inputs.length = s.booth.inputs.length → P s → P { s with booth := b }
  cue     : ∀ {s} f, P s → P (s.updCue f)

/-- Two equal runs. -/
theorem Closed.alike {A : Flag → Prop} {P : State → Prop} (h : Closed A P) : AlikeCue A fun s u => u = s ∧ P s where
  agree := by rintro s _ ⟨rfl, -⟩; exact .refl _
  raise := by rintro s _ f hf ⟨rfl, hp⟩; exact ⟨rfl, h.raise f hf hp⟩
  send := by rintro s _ r ⟨rfl, hp⟩; exact ⟨rfl, h.send r hp⟩
  tracks := by rintro s _ l hl ⟨rfl, hp⟩; exact ⟨rfl, h.tracks l hl hp⟩
  cells := by rintro s _ n ⟨rfl, hp⟩; exact ⟨rfl, h.cells n hp⟩
  sub := by rintro s _ x hx ⟨rfl, hp⟩; exact ⟨rfl, h.sub x hx hp⟩
  seq := by rintro s _ f hf ⟨rfl, hp⟩; exact ⟨rfl, h.seq f hf hp⟩
  period := by rintro s _ p ⟨rfl, hp⟩; exact ⟨rfl, h.period p hp⟩
  repeats := by rintro s _ n ⟨rfl, hp⟩; exact ⟨rfl, h.repeats n hp⟩
  lanes := by rintro s _ l hl ok ⟨rfl, hp⟩; exact ⟨rfl, h.lanes l hl ok hp⟩
  acct := by rintro s _ a ⟨rfl, hp⟩; exact ⟨rfl, h.acct a hp⟩
  licence := by rintro s _ i ⟨rfl, hp⟩; exact ⟨rfl, h.licence i hp⟩
  cursor := by rintro s _ ⟨rfl, hp⟩; exact ⟨rfl, h.cue (fun c => { c with cursor := none }) hp⟩
  fader := by rintro s _ f ok - ⟨rfl, hp⟩; exact ⟨rfl, h.fader f ok hp⟩
  map := by rintro s _ m ⟨rfl, hp⟩; exact ⟨rfl, h.map m hp⟩
  sheet := by rintro s _ ⟨rfl, hp⟩; exact ⟨rfl, h.cue _ hp⟩
  mark := by rintro s _ n ⟨rfl, hp⟩; exact ⟨rfl, h.cue (fun c => { c with lastMark := n }) hp⟩
  hold := by rintro s _ ⟨rfl, hp⟩; exact ⟨rfl, h.cue (fun c => { c with pendingHold := true }) hp⟩
  booth := by rintro s _ b h1 h2 h3 ⟨rfl, hp⟩; exact ⟨rfl, h.booth b h1 h2 h3 hp⟩
  engine := by rintro s _ ⟨rfl, -⟩; rfl
  cue := by rintro s _ f ⟨rfl, hp⟩; exact ⟨rfl, h.cue f hp⟩

/-- The fader steps within its range (R92). -/
theorem faderStep_le {f0 t k n : Nat} (h0 : f0 ≤ n) (ht : t ≤ n) (hk : k ≤ 65535) : faderStep f0 t k ≤ n := by
  unfold faderStep
  dsimp only
  split
  · rcases Nat.le_total f0 t with h | h
    · have up : ((k : Int) * ((t : Int) - f0)).tdiv 65536 ≤ (t : Int) - f0 := by
        rw [Int.tdiv_eq_ediv_of_nonneg (by nlinarith)]
        exact (Int.ediv_le_ediv (by norm_num) (by nlinarith : (k : Int) * ((t : Int) - f0) ≤ 65536 * ((t : Int) - f0))).trans
          (by omega)
      omega
    · have down : ((k : Int) * ((t : Int) - f0)).tdiv 65536 ≤ 0 := by
        have flipped : (k : Int) * ((t : Int) - f0) = -((k : Int) * ((f0 : Int) - t)) := by ring
        have positive := Int.tdiv_nonneg (a := (k : Int) * ((f0 : Int) - t)) (b := 65536) (by nlinarith) (by norm_num)
        rw [flipped, Int.neg_tdiv]
        omega
      omega
  · split
    · omega
    · split
      · omega
      · exact h0

/-! ### Properties closed under every step -/

/-- The values of a decoded entry that a step hands to the sound path and the cue engine, in their ranges. -/
def EntryOk : Entry → Prop
  | .composition c => ∀ t ∈ c.fader, t ≤ 32768
  | .cue e => CueOk e.cue ∧ e.trigger ≤ 16777215 ∧ (e.cue = .empty → e.trigger = 0)
  | .settings e => e.resumeRate ≤ 65535
  | .track _ => True
  | .licence _ => True
  | .routing _ => True
  | .lane _ => True
  | .line _ => True
  | .input _ => True

theorem decodeEntry_ok {table : Nat} {b : Bytes} {e : Entry} (h : decodeEntry table b = .ok e) : EntryOk e := by
  have range := decodedEntriesInRange table b e h
  cases e with
  | composition c =>
    rcases range with rfl | ⟨-, -, -, -, -, -, -, -, -, -, fader⟩
    · intro t ht; cases ht
    · exact fader
  | cue e =>
    obtain ⟨trigger, kind⟩ := range
    refine ⟨fun x k hx => ?_, trigger, fun hx => ?_⟩
    · rw [hx] at kind; exact ⟨kind.1, kind.2.2⟩
    · rwa [hx] at kind
  | settings e =>
    obtain ⟨-, -, -, -, -, -, -, -, -, rate, -⟩ := range
    exact rate
  | track _ => trivial
  | licence _ => trivial
  | routing _ => trivial
  | lane _ => trivial
  | line _ => trivial
  | input _ => trivial

/-- An accepted entry is one that its bytes hold. -/
theorem decodeEntry_of_judgeEntry {s : State} {table i : Nat} {b : Bytes} {e : Entry} (h : s.judgeEntry table i b = .ok e) :
    decodeEntry table b = .ok e := by
  unfold State.judgeEntry at h
  split at h
  · cases h
  · cases hd : decodeEntry table b with
    | error r => rw [hd] at h; cases h
    | ok x =>
      rw [hd] at h
      dsimp only at h
      split at h
      · cases h
      · cases h; rfl

/-- A property that an event's work keeps, and that the resets, the requests and the clock keep. -/
structure StepClosed (P : State → Prop) : Prop extends Closed (fun _ => True) P where
  mgmt    : ∀ {s} m, P s → P { s with mgmt := m }
  clock   : ∀ {s} c, P s → P { s with clk := c }
  port    : ∀ {s} p, P s → P { s with port := p }
  pending : ∀ {s} l, P s → P { s with pending := l }
  store   : ∀ {s} i e, EntryOk e → P s → P { s with tables := s.tables.store i e }
  clear   : ∀ {s}, P s → P { s with seq := Sequencer.reset }
  arm     : ∀ {s} slots, s.armFailure slots = none → P s → P { s with seq := ⟨.armed, slots, 1, 0, false, none, none, .none⟩ }
  warm    : ∀ {s}, P s → P s.warm
  powerOn : ∀ {s} raw link pending held, raw.length = s.booth.inputs.length → P s →
    P { State.powerOn raw link pending with link := link, inReset := held } ∧ P (State.powerOn raw link pending)

section
variable {P : State → Prop} (hP : StepClosed P) {s : State} (h : P s)
include hP

/-- The two runs of a property. -/
theorem StepClosed.alike : AlikeCue (fun _ => True) fun s u => u = s ∧ P s := hP.toClosed.alike

include h

theorem StepClosed.flowReport : P s.flowReport := hP.mgmt _ h

theorem StepClosed.arbitrate : P s.arbitrate := by
  rw [State.arbitrate_eq]; exact hP.mgmt _ h

theorem StepClosed.reportChange (q : ShowState) : P (s.reportChange q) := by
  rw [State.reportChange_eq]; exact hP.mgmt _ h

omit h in
theorem StepClosed.event {work : State → State} (hw : P (work s)) : P (Machine.event work s) :=
  hP.arbitrate (hP.reportChange hw _)

theorem StepClosed.frameBoundary : P s.frameBoundary := by
  have both := hP.alike
  have stepped : P s.stepFader := hP.fader (fun f => { f with value := faderStep f.value f.target f.rate })
    (fun _ _ ⟨value, target, saved, rate⟩ => ⟨faderStep_le value target rate, target, saved, rate⟩) h
  have worked := (both.endExpansion (both.boundaryWork (fun _ _ => trivial) s.mix
    (s := s.stepFader.startExpansion) ⟨rfl, hP.cue (fun c => { c with stack := [], pendingHold := false }) stepped⟩)).2
  have loaded := hP.clock (s := (State.boundaryWork s.mix s.stepFader.startExpansion).endExpansion)
    { (State.boundaryWork s.mix s.stepFader.startExpansion).endExpansion.clk with
      countdown := (State.boundaryWork s.mix s.stepFader.startExpansion).endExpansion.clk.period } worked
  unfold State.frameBoundary State.countFlow
  split
  · split
    · exact hP.flowReport loaded
    · exact hP.mgmt _ loaded
  · exact loaded

theorem StepClosed.acceptEdge (i : Nat) : P (s.acceptEdge i) :=
  hP.event (hP.alike.acceptChange ⟨rfl, h⟩ (fun _ _ => trivial) i).2

theorem StepClosed.updInput (i : Nat) (f : Input → Input) : P (s.updInput i f) :=
  hP.booth { s.booth with inputs := s.booth.inputs.modify i f } rfl rfl (List.length_modify ..) h

theorem StepClosed.changeInput (i : Nat) (level : InLevel) : P (s.changeInput i level) := by
  have raw := hP.updInput h i fun k => { k with raw := level }
  unfold State.changeInput
  split
  · exact h
  · dsimp only
    split
    · exact hP.updInput raw _ _
    · split
      · exact hP.acceptEdge raw _
      · exact hP.updInput raw _ _

theorem StepClosed.millisecondTick (order : List (Fin 8)) : P (s.millisecondTick order) := by
  have ticked : P s.tickLines := hP.clock (s := { s with booth := { s.booth with
      generators := s.booth.generators.map Generator.tick
      inputs := s.booth.inputs.map fun k => { k with waiting := k.waiting.map (· + 1) } } }) { s.clk with msDivider := 0 }
    (hP.booth _ rfl (List.length_map _) (List.length_map _) h)
  unfold State.millisecondTick
  generalize s.dueInputs order = l
  generalize s.tickLines = u at ticked
  induction l generalizing u with
  | nil => exact ticked
  | cons i l ih => exact ih _ (hP.acceptEdge ticked i)

theorem StepClosed.secondTick : P s.secondTick :=
  (hP.alike.countTimers (s := { s with clk := s.clk.second }) ⟨rfl, hP.clock _ h⟩).2

theorem StepClosed.samplePeriod : P s.samplePeriod := by
  have sampled : LanesOk s.snd.lanes → LanesOk (s.snd.lanes.map Lane.sample) := fun ok x hx => by
    obtain ⟨l, hl, rfl⟩ := List.mem_map.mp hx
    obtain ⟨⟨-, block, line⟩, peak, clips⟩ := ok l hl
    have entered : ∀ y ∈ (l.block.headD 0 :: l.line).take Config.delayLineSamples, In24 y := fun y hy => by
      rcases List.mem_cons.mp (List.mem_of_mem_take hy) with rfl | hy
      · cases hb : l.block with
        | nil => exact in24_zero
        | cons z b => exact block z (hb ▸ List.mem_cons_self)
      · exact line y hy
    have out : In24 l.sample.out := by
      have e : l.sample.out = ((l.block.headD 0 :: l.line).take Config.delayLineSamples).getD l.delay 0 := rfl
      rw [e, List.getD_eq_getElem?_getD]
      cases ho : ((l.block.headD 0 :: l.line).take Config.delayLineSamples)[l.delay]? with
      | none => exact in24_zero
      | some y => exact entered y (List.mem_of_getElem? ho)
    refine ⟨⟨out, fun y hy => block y (List.mem_of_mem_tail hy), entered⟩, ?_, clips⟩
    have magnitude : l.sample.out.natAbs ≤ 8388608 := by unfold In24 at out; omega
    exact Nat.max_le.mpr ⟨peak, magnitude⟩
  unfold State.samplePeriod
  split
  · exact h
  · exact hP.clock (s := { s with snd := { s.snd with lanes := s.snd.lanes.map Lane.sample } }) _
      (hP.lanes _ (List.length_map _) sampled h)

/-! ### Requests -/

omit h in
theorem StepClosed.storeAll (es : List Entry) (ok : ∀ e ∈ es, EntryOk e) (i : Nat) {s : State} (h : P s) :
    P { s with tables := s.tables.storeAll i es } := by
  induction es generalizing i s with
  | nil => exact h
  | cons e es ih =>
    exact ih (fun x hx => ok x (List.mem_cons_of_mem _ hx)) (i + 1)
      (s := { s with tables := s.tables.store i e }) (hP.store i e (ok e List.mem_cons_self) h)

omit h in
theorem StepClosed.storeEffects (b : State) (es : List Entry) {s : State} (i : Nat) (h : P s) :
    P (State.storeEffects b s i es) := by
  have both := hP.alike
  induction es generalizing s i with
  | nil => exact h
  | cons e es ih =>
    refine ih (i + 1) ?_
    cases e with
    | line e => exact (both.setCueLevel ⟨rfl, h⟩ i e.idle).2
    | input e =>
      unfold State.storeEffect
      dsimp only
      split
      · exact (both.setLatch ⟨rfl, h⟩ fun _ _ => trivial).2
      · exact h
    | settings e => exact hP.period _ h
    | track _ => exact h
    | composition _ => exact h
    | licence _ => exact h
    | routing _ => exact h
    | lane _ => exact h
    | cue _ => exact h

theorem StepClosed.writeEntries (table index count : Nat) (entries : Bytes) : P (s.writeEntries table index count entries).1 := by
  unfold State.writeEntries
  split
  · exact h
  split
  · exact h
  split
  · exact h
  split
  · exact h
  split
  · exact h
  · rename_i es hj
    obtain ⟨hl, accepted⟩ := judgeEntries_ok hj
    refine hP.storeEffects s es index (hP.storeAll es (fun e he => ?_) index h)
    obtain ⟨j, hj, rfl⟩ := List.mem_iff_getElem.mp he
    exact decodeEntry_ok (decodeEntry_of_judgeEntry
      (accepted j _ _ (List.getElem?_eq_getElem (hl ▸ hj)) (List.getElem?_eq_getElem hj)))

theorem StepClosed.readEntries (table index count : Nat) : P (s.readEntries table index count).1 := by
  have restarted : ∀ n m, P (s.restartMeters n m) := fun n m => by
    refine hP.lanes _ List.length_mapIdx (lanesOk_mapIdx fun j x ok => ?_) h
    split
    · obtain ⟨samples, -, -⟩ := ok
      exact ⟨samples, Nat.zero_le _, Nat.zero_le _⟩
    · exact ok
  unfold State.readEntries
  split
  · exact h
  · split
    · exact h
    · split
      · exact h
      · dsimp only
        split
        · exact restarted _ _
        · exact h

theorem StepClosed.armShow (slots : List Nat) : P (s.armShow slots).1 := by
  have both := hP.alike
  unfold State.armShow
  split
  · exact h
  · split
    · exact h
    · rename_i fine
      exact (both.scheduleSlot (both.scheduleSlot ⟨rfl, hP.arm slots fine h⟩ _) _).2

theorem StepClosed.showCommand {u : State} (c : ShowCommand) (hu : s.showCommand c = some u) : P u := by
  have both := hP.alike
  have same : (fun s u => u = s ∧ P s) s s := ⟨rfl, h⟩
  have taken : ∀ {q : Prop} [Decidable q] {v : State}, (if q then some v else none) = some u → P v → P u :=
    fun {q} _ {v} e hv => by
      split at e
      · cases e; exact hv
      · cases e
  cases c with
  | start => exact taken hu (both.enterPreroll same).2
  | hold => exact taken hu (both.enterHolding same).2
  | resume => exact taken hu (both.resumeEvent (both.seq (fun q => { q with state := .playing }) (fun _ => rfl) same)).2
  | stop => exact taken hu (both.enterStopped same _).2
  | skip =>
    have advanced := both.advancePosition (both.endBySkip same fun _ _ => trivial) trivial trivial
    refine taken hu ?_
    split
    · exact (both.enterEnded advanced).2
    · exact (both.enterPreroll advanced).2
  | clear =>
    exact taken hu (hP.cue (fun c => { c with cursor := none }) (hP.repeats 0 (hP.period _ (hP.clear (both.unscheduleAll same).2))))

theorem StepClosed.releaseLatch {u : State} (hu : s.releaseLatch = some u) : P u := by
  unfold State.releaseLatch at hu
  split at hu
  · cases hu
    exact hP.booth (s := s.unmuteSound) { s.booth with latch := false } rfl rfl rfl
      (hP.fader (fun f => { f with muted := false }) (fun _ _ ok => ok) h)
  · cases hu

theorem StepClosed.perform (r : Request) : P (s.perform r).1 := by
  cases r with
  | writeTable tag table index count entries => exact hP.writeEntries h ..
  | readTable tag table index count => exact hP.readEntries h ..
  | arm tag slots => exact hP.armShow h _
  | showCommand tag c =>
    unfold State.perform
    dsimp only
    split
    · rename_i u hu; exact hP.showCommand h c hu
    · exact h
  | releaseEmergency tag =>
    unfold State.perform
    dsimp only
    split
    · rename_i u hu; exact hP.releaseLatch h hu
    · exact h
  | setClock tag seconds => exact hP.clock _ h
  | queryStatus tag => exact h
  | fetchShowings tag n => exact h
  | trimShowings tag n => exact hP.acct _ h
  | setEventEnables tag m => exact hP.mgmt _ h
  | clearEvents tag m => exact hP.mgmt _ h
  | warmReset tag => exact hP.warm h
  | malformed payload => exact h

theorem StepClosed.execRequest (r : Request) : P (s.execRequest r) := by
  have performed := hP.perform (hP.mgmt { s.mgmt with reserved := true } h) r
  unfold State.execRequest
  dsimp only
  refine hP.arbitrate (hP.mgmt _ ?_)
  split
  · exact performed
  · exact hP.reportChange performed _

omit h in
theorem StepClosed.serve (n : Nat) {s : State} (h : P s) : P (State.serve n s) := by
  induction n generalizing s with
  | zero => exact h
  | succ n ih =>
    unfold State.serve
    split
    · split
      · rename_i r rest _ _
        exact ih (hP.execRequest (hP.mgmt { s.mgmt with requests := rest } h) r)
      · exact h
    · exact h

theorem StepClosed.submit (r : Request) : P (s.submit r) := by
  unfold State.submit
  split
  · exact hP.serve _ (hP.mgmt _ h)
  · exact hP.arbitrate (hP.raise _ trivial h)

/-! ### Commands -/

theorem StepClosed.receive (b : Bytes) : P (s.receive b) := by
  have both := hP.alike
  unfold State.receive
  split
  · exact hP.port _ h
  · exact hP.port _ h
  · unfold State.route
    split
    · exact hP.port _ h
    · split
      · exact hP.submit (both.count ⟨rfl, h⟩ 0 _).2 _
      · exact hP.port _ h
    · split
      · exact hP.arbitrate (both.essence ⟨rfl, h⟩ trivial trivial trivial _).2
      · exact hP.port _ h
    · exact hP.port _ h

theorem StepClosed.exec (c : Instr) {t : State} (ht : exec c s = .next t) : P t := by
  have both := hP.alike
  have same : (fun s u => u = s ∧ P s) s s := ⟨rfl, h⟩
  have run : ∀ work, Machine.exec c s = Machine.run work s → P (work s) → P t := fun work e hw => by
    rw [e, Machine.run] at ht
    cases ht
    split
    · exact h
    · exact hw
  have guarded : ∀ (q : Prop) [Decidable q] (u : State), P u → P (if q then u else s) := fun q _ u hu => by
    split
    · exact hu
    · exact h
  cases hr : requestOf c with
  | some r => exact run (fun s => s.submit r) (exec_request hr s) (hP.submit h r)
  | none =>
    cases c with
    | powerOnReset => cases ht; exact (hP.powerOn s.rawLevels s.link s.pending false (List.length_map _) h).2
    | resetAsserted => cases ht; exact (hP.powerOn s.rawLevels s.link s.pending true (List.length_map _) h).1
    | parcelComplete bytes =>
      refine run (fun s => s.endMark bytes) rfl ?_
      unfold State.endMark
      split
      · exact h
      · split
        · exact hP.port _ (hP.port { s.port with framing := .hunting } h)
        · exact hP.receive (hP.port _ h) bytes
    | frameBoundary => exact run _ rfl (hP.event (hP.frameBoundary h))
    | millisecondTick order => exact run (fun s => s.millisecondTick order) rfl (hP.millisecondTick h order)
    | secondTick => exact run _ rfl (hP.event (hP.secondTick h))
    | prerollTimeout => exact run _ rfl (hP.event (guarded _ _ (both.enterStopped same _).2))
    | stallTimeout => exact run _ rfl (hP.event (guarded _ _ (both.enterStopped same _).2))
    | stallTrigger => exact run _ rfl (hP.event (guarded _ _ (both.enterStalled same trivial).2))
    | flowInterval => exact run _ rfl (hP.event (guarded _ _ (hP.flowReport h)))
    | phaseEnd g => exact run _ rfl (hP.event (both.setGenerators same _ (List.length_modify ..)).2)
    | inputLevelChange i level =>
      cases ht
      split
      · exact hP.updInput h _ _
      · exact hP.changeInput h _ _
    | acceptedEdge i => exact run _ rfl (guarded _ _ (hP.acceptEdge h i.val))
    | transmissionEnd =>
      refine run _ rfl ?_
      unfold State.endTransmission
      split
      · exact hP.serve _ (hP.arbitrate (hP.mgmt { s.mgmt with lane := none } h))
      · exact h
    | startMark =>
      refine run _ rfl ?_
      unfold State.beginParcel
      split
      · exact hP.port _ h
      · exact hP.port _ h
    | oversizeParcel =>
      refine run _ rfl ?_
      unfold State.oversize
      split
      · exact h
      · exact hP.port _ (hP.port { s.port with framing := .hunting } h)
    | samplePeriod => exact run _ rfl (hP.samplePeriod h)
    | _ => cases hr

theorem StepClosed.step {t : State} (ht : Machine.step s = .next t) : P t := by
  unfold Machine.step at ht
  split at ht
  · exact hP.exec (hP.pending _ h) _ ht
  · cases ht; exact h

end

end Sys2Proof.Safety
end

-- ==== every step: ranges, orders and sizes ====
section
/-! PROOFS. The sound ranges, the schedule, the sizes, the playlist and the cue store, read from the parts of the state that they
speak of, are kept by every step. -/

namespace Sys2Proof.Safety

open Sys2Proof.Machine

/-- The parts of the state that the ranges, orders and sizes speak of. -/
structure Parts where
  tables     : Tables
  fader      : Fader
  lanes      : List Lane
  schedule   : List Item
  playlist   : List Nat
  tracks     : Nat
  cueLevels  : Nat
  generators : Nat
  inputs     : Nat

/-- These parts of a state. -/
def partsOf (s : State) : Parts :=
  { tables := s.tables, fader := s.snd.fader, lanes := s.snd.lanes, schedule := s.sub.schedule, playlist := s.seq.playlist
    tracks := s.tracks.length, cueLevels := s.booth.cueLevels.length, generators := s.booth.generators.length
    inputs := s.booth.inputs.length }

/-- These parts when power-on reset ends. -/
def partsOfReset (inputs : Nat) : Parts :=
  { tables := Tables.powerOn, fader := Fader.powerOn false, lanes := List.replicate 24 Lane.powerOn, schedule := [], playlist := []
    tracks := 32, cueLevels := 16, generators := 4, inputs := inputs }

/-- No slot stands at two consecutive places (R35). -/
def Alternating (l : List Nat) : Prop := ∀ x ∈ l.zip l.tail, x.1 ≠ x.2

/-- A property of the parts that every change of them keeps. -/
structure PartsClosed (Q : Parts → Prop) : Prop where
  schedule : ∀ {p} l, (ItemsOk p.schedule → ItemsOk l) → Q p → Q { p with schedule := l }
  lanes    : ∀ {p} l, l.length = p.lanes.length → (LanesOk p.lanes → LanesOk l) → Q p → Q { p with lanes := l }
  licence  : ∀ {p : Parts} i, Q p →
    Q { p with tables := { p.tables with licence := p.tables.licence.modify i fun l => { l with used := l.used + 1 } } }
  fader    : ∀ {p : Parts} f, (FaderValuesOk p.tables → FaderOk p.fader → FaderOk f) → Q p → Q { p with fader := f }
  store    : ∀ {p : Parts} i e, EntryOk e → Q p → Q { p with tables := p.tables.store i e }
  playlist : ∀ {p : Parts} l, Alternating l → Q p → Q { p with playlist := l }
  sizes    : ∀ {p}, Q p → Q { p with tracks := 32, cueLevels := p.tables.line.length, generators := 4 }
  powerOn  : ∀ {p} latch, Q p → Q { partsOfReset p.inputs with fader := Fader.powerOn latch }

/-- A playlist that ARM accepts (R35, check 3). -/
theorem alternating_of_firstFailing {s : State} (slots : List Nat) {before : Option Nat} {p : Nat}
    (h : s.firstFailing before p slots = none) : Alternating slots := by
  induction slots generalizing before p with
  | nil => intro x hx; cases hx
  | cons a rest ih =>
    rw [State.firstFailing] at h
    split at h
    · cases rest with
      | nil => intro x hx; cases hx
      | cons b rest =>
        have second : s.armSlotOk (some a) b = true := by
          rw [State.firstFailing] at h
          split at h
          · assumption
          · cases h
        intro x hx
        rcases List.mem_cons.mp hx with rfl | hx
        · exact fun e => (armSlot_of_armSlotOk second).differs (congrArg some e)
        · exact ih h x hx
    · cases h

theorem alternating_of_armFailure {s : State} {slots : List Nat} (h : s.armFailure slots = none) : Alternating slots := by
  unfold State.armFailure at h
  split at h
  · cases h
  · exact alternating_of_firstFailing slots h

/-- A lane after a warm reset (R74, R100, R101). -/
theorem LaneOk.restarted {x : Lane} (ok : LaneOk x) (n d : Nat) :
    LaneOk { x with block := List.replicate n 0, delay := d, line := [], peak := 0, clips := 0 } := by
  obtain ⟨⟨out, -, -⟩, -, -⟩ := ok
  exact ⟨⟨out, in24_replicate, fun y hy => nomatch hy⟩, Nat.zero_le _, Nat.zero_le _⟩

/-- These parts after a warm reset that leaves this fader and these lanes. -/
def warmParts (p : Parts) (fader : Fader) (lanes : List Lane) : Parts :=
  { p with fader := fader, lanes := lanes, schedule := [], playlist := [], tracks := 32, cueLevels := p.tables.line.length
           generators := 4 }

theorem PartsClosed.warm {Q : Parts → Prop} (hQ : PartsClosed Q) {p : Parts} {fader : Fader} {lanes : List Lane}
    (hf : FaderOk p.fader → FaderOk fader) (hl : lanes.length = p.lanes.length) (ok : LanesOk p.lanes → LanesOk lanes)
    (h : Q p) : Q (warmParts p fader lanes) := by
  have cut := hQ.fader (p := { p with lanes := lanes }) fader (fun _ => hf) (hQ.lanes lanes hl ok h)
  have emptied := hQ.schedule [] (fun _ => ⟨Nat.zero_le _, List.Pairwise.nil⟩) cut
  exact hQ.sizes (hQ.playlist [] (fun x hx => nomatch hx) emptied)

/-- A property of the parts is kept by every step. -/
theorem PartsClosed.stepClosed {Q : Parts → Prop} (hQ : PartsClosed Q) : StepClosed fun s => Q (partsOf s) where
  raise f _ h := by rw [State.raise_eq]; exact h
  send _ h := h
  tracks l hl h := by
    have e : ∀ s : State, l.length = s.tracks.length → partsOf { s with tracks := l } = partsOf s := fun s hl => by
      rw [partsOf, partsOf, hl]
    rw [e _ hl]; exact h
  cells _ h := h
  sub x hx h := hQ.schedule x.schedule hx h
  seq f hf h := by
    have e : ∀ s : State, partsOf (s.updSeq f) = partsOf s := fun s => by
      rw [partsOf, partsOf, State.updSeq, hf]
    rw [e]; exact h
  period _ h := h
  repeats _ h := h
  lanes l hl ok h := hQ.lanes l hl ok h
  acct _ h := h
  licence i h := hQ.licence i h
  fader f ok h := hQ.fader _ (fun values => ok values _) h
  map _ h := h
  booth b h1 h2 h3 h := by
    have e : ∀ s : State, b.cueLevels.length = s.booth.cueLevels.length → b.generators.length = s.booth.generators.length →
        b.inputs.length = s.booth.inputs.length → partsOf { s with booth := b } = partsOf s := fun s h1 h2 h3 => by
      rw [partsOf, partsOf, h1, h2, h3]
    rw [e _ h1 h2 h3]; exact h
  cue _ h := h
  mgmt _ h := h
  clock _ h := h
  port _ h := h
  pending _ h := h
  store i e ok h := hQ.store i e ok h
  clear h := hQ.playlist [] (fun x hx => nomatch hx) h
  arm slots fine h := hQ.playlist slots (alternating_of_armFailure fine) h
  warm {s} h := by
    have cleared : Q (partsOf (s.emptyRegions fun _ => true)) := by
      have only := (State.emptyRegions_spec s fun _ => true)
      have rest := only.1.rest
      have sub := only.2.1
      have length := only.1.length
      generalize s.emptyRegions (fun _ => true) = v at rest sub length
      have e : partsOf v = partsOf s := by
        rw [rest, partsOf, partsOf, sub, length]
      rw [e]; exact h
    generalize hv : s.emptyRegions (fun _ => true) = v at cleared
    have silent := hQ.warm (fader := { v.snd.fader with value := 0, target := 0 })
      (lanes := v.snd.lanes.mapIdx fun j l => { l with
        block := List.replicate v.idlePeriod 0, delay := (v.laneSetting j).delay, line := [], peak := 0, clips := 0 })
      (fun ⟨_, _, saved, rate⟩ => ⟨Nat.zero_le _, Nat.zero_le _, saved, rate⟩) List.length_mapIdx
      (lanesOk_mapIdx fun j x ok => ok.restarted _ _) cleared
    have e : partsOf s.warm = { warmParts (partsOf v) { v.snd.fader with value := 0, target := 0 }
        (v.snd.lanes.mapIdx fun j l => { l with
          block := List.replicate v.idlePeriod 0, delay := (v.laneSetting j).delay, line := [], peak := 0, clips := 0 })
        with cueLevels := (v.tables.line.map LineSetting.idle).length } := by
      rw [← hv]; rfl
    rw [List.length_map] at e
    rw [e]
    exact silent
  powerOn raw link pending held hl h := by
    have e : ∀ s : State, raw.length = s.booth.inputs.length →
        partsOf (State.powerOn raw link pending) =
          { partsOfReset (partsOf s).inputs with fader := Fader.powerOn (Booth.powerOn raw).latch } := fun s hl => by
      have inputs : (partsOf s).inputs = (raw.map Input.powerOn).length := by rw [List.length_map, hl]; rfl
      rw [inputs]; rfl
    exact ⟨by rw [show partsOf { State.powerOn raw link pending with link := link, inReset := held } =
        partsOf (State.powerOn raw link pending) from rfl, e _ hl]; exact hQ.powerOn _ h, by rw [e _ hl]; exact hQ.powerOn _ h⟩

/-! ### The five properties -/

theorem faderValuesOk_store {t : Tables} {i : Nat} {e : Entry} (h : FaderValuesOk t) (ok : EntryOk e) :
    FaderValuesOk (t.store i e) := by
  obtain ⟨starts, cues, resume⟩ := h
  cases e with
  | composition c =>
    refine ⟨fun x hx => ?_, cues, resume⟩
    rcases List.mem_or_eq_of_mem_set hx with hx | rfl
    · exact starts x hx
    · exact ok
  | cue c =>
    refine ⟨starts, fun x hx => ?_, resume⟩
    rcases List.mem_or_eq_of_mem_set hx with hx | rfl
    · exact cues x hx
    · exact ok.1
  | settings c => exact ⟨starts, cues, ok⟩
  | track _ => exact ⟨starts, cues, resume⟩
  | licence _ => exact ⟨starts, cues, resume⟩
  | routing _ => exact ⟨starts, cues, resume⟩
  | lane _ => exact ⟨starts, cues, resume⟩
  | line _ => exact ⟨starts, cues, resume⟩
  | input _ => exact ⟨starts, cues, resume⟩

def SoundParts (p : Parts) : Prop := FaderOk p.fader ∧ p.lanes.length = 24 ∧ LanesOk p.lanes ∧ FaderValuesOk p.tables

theorem soundParts_closed : PartsClosed SoundParts where
  schedule _ _ h := h
  lanes l hl ok := fun ⟨fader, length, lanes, values⟩ => ⟨fader, hl.trans length, ok lanes, values⟩
  licence _ h := h
  fader f ok := fun ⟨fader, length, lanes, values⟩ => ⟨ok values fader, length, lanes, values⟩
  store i e ok := fun ⟨fader, length, lanes, values⟩ => ⟨fader, length, lanes, faderValuesOk_store values ok⟩
  playlist _ _ h := h
  sizes h := h
  powerOn latch _ := by
    obtain ⟨fader, length, lanes, values⟩ := (soundOk_iff _).mp soundOk_reset
    exact ⟨fader, length, lanes, values⟩

def ScheduleParts (p : Parts) : Prop := ItemsOk p.schedule

theorem scheduleParts_closed : PartsClosed ScheduleParts where
  schedule _ ok h := ok h
  lanes _ _ _ h := h
  licence _ h := h
  fader _ _ h := h
  store _ _ _ h := h
  playlist _ _ h := h
  sizes h := h
  powerOn _ _ := ⟨Nat.zero_le _, List.Pairwise.nil⟩

def PlaylistParts (p : Parts) : Prop := Alternating p.playlist

theorem playlistParts_closed : PartsClosed PlaylistParts where
  schedule _ _ h := h
  lanes _ _ _ h := h
  licence _ h := h
  fader _ _ h := h
  store _ _ _ h := h
  playlist _ ok _ := ok
  sizes h := h
  powerOn _ _ := fun _ hx => nomatch hx

def CueStoreParts (p : Parts) : Prop := ∀ e ∈ p.tables.cue, e.trigger ≤ 16777215 ∧ (e.cue = .empty → e.trigger = 0)

theorem cueStoreParts_closed : PartsClosed CueStoreParts where
  schedule _ _ h := h
  lanes _ _ _ h := h
  licence _ h := h
  fader _ _ h := h
  store i e ok h := by
    cases e with
    | cue c =>
      intro x hx
      rcases List.mem_or_eq_of_mem_set hx with hx | rfl
      · exact h x hx
      · exact ok.2
    | track _ => exact h
    | composition _ => exact h
    | licence _ => exact h
    | routing _ => exact h
    | lane _ => exact h
    | line _ => exact h
    | input _ => exact h
    | settings _ => exact h
  playlist _ _ h := h
  sizes h := h
  powerOn _ _ := fun e he => by
    rw [List.eq_of_mem_replicate (show e ∈ List.replicate 512 CueEntry.blank from he)]
    exact ⟨Nat.zero_le _, fun _ => rfl⟩

/-- The sizes of the tables. -/
def TableSizes (t : Tables) : Prop :=
  t.track.length = 32 ∧ t.composition.length = 8 ∧ t.licence.length = 16 ∧ t.routing.length = 192 ∧ t.lane.length = 24 ∧
  t.cue.length = 512 ∧ t.line.length = 16 ∧ t.input.length = 8

theorem tableSizes_store {t : Tables} (i : Nat) (e : Entry) (h : TableSizes t) : TableSizes (t.store i e) := by
  cases e <;> simpa [TableSizes, Tables.store] using h

def SizeParts (p : Parts) : Prop :=
  TableSizes p.tables ∧ p.tracks = 32 ∧ p.cueLevels = 16 ∧ p.generators = 4 ∧ p.inputs = 8

theorem sizeParts_closed : PartsClosed SizeParts where
  schedule _ _ h := h
  lanes _ _ _ h := h
  licence i := fun ⟨⟨a, b, c, d⟩, sizes⟩ => ⟨⟨a, b, (List.length_modify ..).trans c, d⟩, sizes⟩
  fader _ _ h := h
  store i e _ := fun ⟨tables, sizes⟩ => ⟨tableSizes_store i e tables, sizes⟩
  playlist _ _ h := h
  sizes := fun ⟨tables, _, _, _, inputs⟩ => by
    obtain ⟨-, -, -, -, -, -, line, -⟩ := id tables
    exact ⟨tables, rfl, line, rfl, inputs⟩
  powerOn _ := fun ⟨_, _, _, _, inputs⟩ => ⟨⟨List.length_replicate, List.length_replicate,
    List.length_replicate, List.length_replicate, List.length_replicate, List.length_replicate, List.length_replicate, rfl⟩,
    rfl, rfl, rfl, inputs⟩

theorem sizesOk_iff (s : State) : SizesOk s ↔ SizeParts (partsOf s) :=
  ⟨fun ⟨h1, h2, h3, h4, h5, h6, h7, h8, h9, h10, h11, h12⟩ => ⟨⟨h1, h2, h3, h4, h5, h6, h7, h8⟩, h9, h10, h11, h12⟩,
   fun ⟨⟨h1, h2, h3, h4, h5, h6, h7, h8⟩, h9, h10, h11, h12⟩ => ⟨h1, h2, h3, h4, h5, h6, h7, h8, h9, h10, h11, h12⟩⟩

/-- Settles O60: each of the five is a property of the parts that every change of them keeps. -/
theorem stepsKeepSoundAndSizes : Obligations.StepsKeepSoundAndSizes := by
  refine ⟨fun s t h ht => ?_, fun s t h ht => ?_, fun s t h ht => ?_, fun s t h ht => ?_, fun s t h ht => ?_⟩
  · exact (soundOk_iff t).mpr (soundParts_closed.stepClosed.step ((soundOk_iff s).mp h) ht)
  · exact scheduleParts_closed.stepClosed.step h ht
  · exact (sizesOk_iff t).mpr (sizeParts_closed.stepClosed.step ((sizesOk_iff s).mp h) ht)
  · exact playlistParts_closed.stepClosed.step h ht
  · exact cueStoreParts_closed.stepClosed.step h ht

end Sys2Proof.Safety
end

-- ==== events: every change of show state is reported ====
section
/-! PROOFS. One event taken whole: the flags it raises, the report of a change of show state, and the flow count (R33, R181). -/

namespace Sys2Proof.Safety

open Sys2Proof.Machine

/-- What an event's work raises, however it goes. -/
theorem raised_closed (A : Flag → Prop) (s : State) : Closed A (Raised A s) where
  raise _ hf h := h.raise hf
  send _ h := h.congr rfl
  tracks _ _ h := h.congr rfl
  cells _ h := h.congr rfl
  sub _ _ h := h.congr rfl
  seq _ _ h := h.congr rfl
  period _ h := h.congr rfl
  repeats _ h := h.congr rfl
  lanes _ _ _ h := h.congr rfl
  acct _ h := h.congr rfl
  licence _ h := h.congr rfl
  fader _ _ h := h.congr rfl
  map _ h := h.congr rfl
  booth _ _ _ _ h := h.congr rfl
  cue _ h := h.congr rfl

/-- Every flag but SHOW_STATE, which the report of a change raises. -/
def ownFlags (f : Flag) : Prop := f ≠ .showState

theorem raised_alike (s : State) : AlikeCue ownFlags fun x u => u = x ∧ Raised ownFlags s x := (raised_closed ownFlags s).alike

theorem Raised.refl (A : Flag → Prop) (s : State) : Raised A s s := .of_mgmt rfl

/-- The pair of equal runs that an event starts from. -/
theorem raised_start (s : State) : s = s ∧ Raised ownFlags s s := ⟨rfl, .refl _ s⟩

/-- The boundary's work up to the load of the countdown. -/
def boundaryDone (s : State) : State := (State.boundaryWork s.mix s.stepFader.startExpansion).endExpansion.reloadCountdown

theorem frameBoundary_eq (s : State) : s.frameBoundary = (boundaryDone s).countFlow s.seq.state := rfl

theorem boundaryDone_raised (s : State) : Raised ownFlags s (boundaryDone s) := by
  have both := raised_alike s
  have started : s.stepFader.startExpansion = s.stepFader.startExpansion ∧ Raised ownFlags s s.stepFader.startExpansion :=
    ⟨rfl, .of_mgmt rfl⟩
  exact (both.endExpansion (both.boundaryWork (fun _ h => h) s.mix started)).2.congr rfl

/-! ### The report -/

section
variable {s : State} {work : State → State}

/-- The report of an event that leaves another show state (R33). -/
theorem event_changed (h : Raised ownFlags s (work s)) (hq : (work s).seq.state ≠ s.seq.state) :
    flagSet (event work s).mgmt.flags .showState = true ∧ (event work s).mgmt.flowCount = 0 ∧ FlowQueued s (event work s) := by
  refine ⟨?_, ?_, .of_changed h hq⟩
  · rw [event_flags, if_neg hq]; simp
  · rw [event, State.arbitrate_flowCount', reportChange_flowCount hq]

/-- An event that leaves the show state reports nothing. -/
theorem event_same (hq : (work s).seq.state = s.seq.state) : event work s = (work s).arbitrate := by
  rw [event, State.reportChange_same hq]

/-- A busy lane and what waits for it stay. -/
theorem arbitrate_busy {u : State} (h : u.mgmt.lane ≠ none) : u.arbitrate = u := State.arbitrate_of_idle fun c => absurd c h

theorem arbitrate_kept {A : Flag → Prop} {u : State} (h : Raised A s u) (hA : ¬ A .showState) :
    flagSet u.arbitrate.mgmt.flags .showState = flagSet s.mgmt.flags .showState ∧
    u.arbitrate.mgmt.flowCount = s.mgmt.flowCount ∧ (s.mgmt.lane ≠ none → u.arbitrate.mgmt.slots = s.mgmt.slots) := by
  refine ⟨?_, ?_, fun busy => ?_⟩
  · rw [State.arbitrate_flags']; exact h.others _ hA
  · rw [State.arbitrate_flowCount', h.flowCount]
  · rw [arbitrate_busy (by rw [h.lane]; exact busy), h.slots]

end

/-- What O52 says of a command other than the frame boundary and the FLOW interval. -/
structure ChangeJudged (s t : State) : Prop where
  changed : t.seq.state ≠ s.seq.state → flagSet t.mgmt.flags .showState = true ∧ t.mgmt.flowCount = 0 ∧ FlowQueued s t
  same    : t.seq.state = s.seq.state → flagSet t.mgmt.flags .showState = flagSet s.mgmt.flags .showState ∧
    t.mgmt.flowCount = s.mgmt.flowCount ∧ (s.mgmt.lane ≠ none → t.mgmt.slots = s.mgmt.slots)

theorem ChangeJudged.refl (s : State) : ChangeJudged s s := ⟨fun h => absurd rfl h, fun _ => ⟨rfl, rfl, fun _ => rfl⟩⟩

theorem ChangeJudged.of_event {s : State} {work : State → State} (h : Raised ownFlags s (work s)) :
    ChangeJudged s (event work s) := by
  refine ⟨fun hq => event_changed h (by rwa [event_seq] at hq), fun hq => ?_⟩
  rw [event_same (by rwa [event_seq] at hq)]
  exact arbitrate_kept h fun c => c rfl

/-! ### Parcels -/

/-- A parcel that is no request: the unpacker raises its own flags and leaves the show alone (R10 to R24). -/
theorem parcel_alike (s : State) : Alike ownFlags fun x u => u = x ∧ Raised ownFlags s x ∧ x.seq = s.seq where
  agree := by rintro x _ ⟨rfl, -⟩; exact .refl _
  raise := by rintro x _ f hf ⟨rfl, h, hs⟩; exact ⟨rfl, h.raise hf, by rw [State.raise_seq]; exact hs⟩
  send := by rintro x _ r ⟨rfl, h, hs⟩; exact ⟨rfl, h.congr rfl, hs⟩
  tracks := by rintro x _ l - ⟨rfl, h, hs⟩; exact ⟨rfl, h.congr rfl, hs⟩
  cells := by rintro x _ n ⟨rfl, h, hs⟩; exact ⟨rfl, h.congr rfl, hs⟩
  sub := by rintro x _ y - ⟨rfl, h, hs⟩; exact ⟨rfl, h.congr rfl, hs⟩

theorem ChangeJudged.of_kept {s u : State} (h : Raised ownFlags s u) (hs : u.seq = s.seq) : ChangeJudged s u.arbitrate := by
  refine ⟨fun hq => absurd ?_ hq, fun _ => arbitrate_kept h fun c => c rfl⟩
  rw [State.arbitrate_seq, hs]

/-- Work that leaves the show state, the management block's flags, count and slots alone. -/
theorem ChangeJudged.of_quiet {s u : State} (hm : u.mgmt = s.mgmt) (hs : u.seq = s.seq) : ChangeJudged s u :=
  ⟨fun hq => absurd (by rw [hs]) hq, fun _ => by rw [hm]; exact ⟨rfl, rfl, fun _ => rfl⟩⟩

theorem endMark_judged {s : State} {b : Bytes} (hb : ∀ p, checkParcel b = .good p → p.kind ≠ .mgmt) :
    ChangeJudged s (s.endMark b) := by
  unfold State.endMark
  split
  · exact .refl s
  · split
    · exact .of_quiet rfl rfl
    · unfold State.receive
      split
      · exact .of_quiet rfl rfl
      · exact .of_quiet rfl rfl
      · rename_i p good
        unfold State.route
        split
        · exact .of_quiet rfl rfl
        · rename_i kind
          exact absurd kind (hb p good)
        · split
          · have start : (s.setFraming .hunting) = (s.setFraming .hunting) ∧ Raised ownFlags s (s.setFraming .hunting) ∧
                (s.setFraming .hunting).seq = s.seq := ⟨rfl, .of_mgmt rfl, rfl⟩
            obtain ⟨-, raised, seq⟩ := (parcel_alike s).essence start (by simp [ownFlags]) (by simp [ownFlags])
              (by simp [ownFlags]) p
            exact .of_kept raised seq
          · exact .of_quiet rfl rfl
        · exact .of_quiet rfl rfl

/-! ### The frame boundary -/

/-- The flow count at a boundary that leaves the show state (R181). -/
theorem countFlow_same {u : State} {found : ShowState} (hs : u.seq.state = found) :
    u.countFlow found =
      if found = .preroll ∨ found = .playing ∨ found = .stalled then
        if u.tables.settings.flowInterval ≤ u.mgmt.flowCount + 1 then u.flowReport
        else { u with mgmt := { u.mgmt with flowCount := u.mgmt.flowCount + 1 } }
      else u := by
  unfold State.countFlow
  by_cases c : found = .preroll ∨ found = .playing ∨ found = .stalled
  · rw [if_pos ⟨hs, c⟩, if_pos c]
  · rw [if_neg fun h => c h.2, if_neg c]

theorem countFlow_changed {u : State} {found : ShowState} (hs : u.seq.state ≠ found) : u.countFlow found = u :=
  if_neg fun h => hs h.1

theorem countFlow_seq (u : State) (found : ShowState) : (u.countFlow found).seq = u.seq := by
  unfold State.countFlow
  split
  · split <;> rfl
  · rfl

/-- The settings stand at a boundary. -/
theorem boundaryDone_settings (s : State) : (boundaryDone s).tables.settings = s.tables.settings := by
  have closed : Closed (fun _ => True) fun u : State => u.tables.settings = s.tables.settings :=
    { raise := fun f _ h => by rw [State.raise_tables]; exact h
      send := fun _ h => h, tracks := fun _ _ h => h, cells := fun _ h => h, sub := fun _ _ h => h, seq := fun _ _ h => h
      period := fun _ h => h, repeats := fun _ h => h, lanes := fun _ _ _ h => h, acct := fun _ h => h
      licence := fun _ h => h, fader := fun _ _ h => h, map := fun _ h => h, booth := fun _ _ _ _ h => h
      cue := fun _ h => h }
  exact (closed.alike.endExpansion (closed.alike.boundaryWork (fun _ _ => trivial) s.mix
    (s := s.stepFader.startExpansion) ⟨rfl, rfl⟩)).2

/-- A boundary that leaves another show state makes the report of the change, and no other (R181). -/
theorem frameBoundary_changed {s : State} (hq : (event State.frameBoundary s).seq.state ≠ s.seq.state) :
    flagSet (event State.frameBoundary s).mgmt.flags .showState = true ∧ (event State.frameBoundary s).mgmt.flowCount = 0 ∧
      FlowQueued s (event State.frameBoundary s) := by
  rw [event_seq, frameBoundary_eq, countFlow_seq] at hq
  have work : s.frameBoundary = boundaryDone s := (frameBoundary_eq s).trans (countFlow_changed hq)
  exact event_changed (by rw [work]; exact boundaryDone_raised s) (by rw [work]; exact hq)

/-- A boundary that leaves the show state: its flow count and, at the interval, its report (R181). -/
theorem frameBoundary_same {s : State} (hq : (event State.frameBoundary s).seq.state = s.seq.state) :
    event State.frameBoundary s =
      (if s.seq.state = .preroll ∨ s.seq.state = .playing ∨ s.seq.state = .stalled then
        if s.tables.settings.flowInterval ≤ s.mgmt.flowCount + 1 then (boundaryDone s).flowReport
        else { boundaryDone s with mgmt := { (boundaryDone s).mgmt with flowCount := s.mgmt.flowCount + 1 } }
      else boundaryDone s).arbitrate := by
  rw [event_seq] at hq
  have left := hq
  rw [frameBoundary_eq, countFlow_seq] at left
  rw [event_same hq, frameBoundary_eq, countFlow_same left, boundaryDone_settings, (boundaryDone_raised s).flowCount]

/-- Settles O52: an event raises its own flags, and its end reports the change that it made. -/
theorem stateChangeReported : Obligations.StateChangeReported := by
  intro c s t hr hc ht
  have taken : ∀ work, exec c s = run work s → t = work s := fun work e => by
    rw [e, run_running hr] at ht
    exact (Host.Outcome.next.inj ht).symm
  have both := raised_alike s
  have start := raised_start s
  have guarded : ∀ (q : Prop) [Decidable q] (u : State), Raised ownFlags s u → Raised ownFlags s (if q then u else s) :=
    fun q _ u hu => by
      split
      · exact hu
      · exact .refl _ s
  have raised := boundaryDone_raised s
  by_cases hf : c = .frameBoundary
  · subst hf
    obtain rfl := taken _ rfl
    refine ⟨frameBoundary_changed, fun hq => ?_⟩
    have kept := arbitrate_kept raised fun c => c rfl
    have same := frameBoundary_same hq
    refine ⟨?_, fun _ h => absurd rfl h, fun _ => ⟨fun counts due => ?_, fun counts more => ?_, fun rests => ?_⟩⟩
    · rw [same]
      split
      · split
        · rw [State.arbitrate_flags']; exact raised.others _ fun c => c rfl
        · rw [State.arbitrate_flags']; exact raised.others _ fun c => c rfl
      · exact kept.1
    · rw [same, if_pos counts, if_pos due, State.arbitrate_flowCount']
      exact ⟨rfl, .of_raised raised⟩
    · rw [same, if_pos counts, if_neg (by omega), State.arbitrate_flowCount']
      refine ⟨rfl, fun busy => ?_⟩
      rw [arbitrate_busy (by exact raised.lane ▸ busy)]
      exact raised.slots
    · rw [same, if_neg rests]
      exact kept.2
  by_cases hi : c = .flowInterval
  · subst hi
    obtain rfl := taken _ rfl
    have state : ∀ u : State, (u = s ∨ u = s.flowReport) → u.seq.state = s.seq.state ∧ u.mgmt.flags = s.mgmt.flags := by
      rintro u (rfl | rfl) <;> exact ⟨rfl, rfl⟩
    obtain ⟨seq, flags⟩ := state (if s.seq.state = .preroll ∨ s.seq.state = .playing ∨ s.seq.state = .stalled then s.flowReport
      else s) (by split <;> simp)
    refine ⟨fun hq => absurd ?_ hq, fun _ => ⟨?_, fun h => absurd rfl h, fun h => by cases h⟩⟩
    · rw [event_seq]; exact seq
    · rw [event_flags, if_pos seq, flags]
  · have judged : ChangeJudged s t := by
      rcases hc with hc | ⟨g, rfl⟩ | ⟨i, rfl⟩ | ⟨b, rfl, hb⟩
      · simp only [List.mem_cons, hf, hi, List.not_mem_nil, or_false, false_or] at hc
        rcases hc with rfl | rfl | rfl | rfl
        · obtain rfl := taken _ rfl
          have ticked : { s with clk := s.clk.second } = { s with clk := s.clk.second } ∧
            Raised ownFlags s { s with clk := s.clk.second } := ⟨rfl, .of_mgmt rfl⟩
          exact .of_event (both.countTimers ticked).2
        · obtain rfl := taken _ rfl
          exact .of_event (guarded _ _ (both.enterStopped start .prerollTimeout).2)
        · obtain rfl := taken _ rfl
          exact .of_event (guarded _ _ (both.enterStopped start .starved).2)
        · obtain rfl := taken _ rfl
          exact .of_event (guarded _ _ (both.enterStalled start (by simp [ownFlags])).2)
      · obtain rfl := taken _ rfl
        exact .of_event (.of_mgmt rfl)
      · obtain rfl := taken _ rfl
        split
        · exact .of_event (both.acceptChange start (fun _ h => h) i.val).2
        · exact .refl s
      · obtain rfl := taken (fun s => s.endMark b) rfl
        exact endMark_judged hb
    exact ⟨judged.changed, fun hq => ⟨(judged.same hq).1, fun _ _ => (judged.same hq).2, fun e => absurd e hf⟩⟩

end Sys2Proof.Safety
end

-- ==== boundaries: the report, and boundaries at rest ====
section
/-! PROOFS. What a frame boundary leaves beside its work (R33, R181), and the boundaries at which no frame is presented (R26, R39, R46,
R66, R69, R72, R77, R92). -/

namespace Sys2Proof.Safety

open Sys2Proof.Machine

/-! ### The end of every boundary -/

/-- What the end of a frame boundary adds to its work: the flow count and the report, in the management block alone. -/
structure BoundaryReported (s t : State) : Prop where
  rest     : t = { boundaryDone s with mgmt := t.mgmt }
  flags    : ∀ x, x ≠ .showState → flagSet t.mgmt.flags x = flagSet (boundaryDone s).mgmt.flags x
  enables  : t.mgmt.enables = s.mgmt.enables
  requests : t.mgmt.requests = s.mgmt.requests
  changed  : t.seq.state ≠ s.seq.state → flagSet t.mgmt.flags .showState = true ∧ t.mgmt.flowCount = 0
  same     : t.seq.state = s.seq.state → flagSet t.mgmt.flags .showState = flagSet s.mgmt.flags .showState

theorem countFlow_eq (u : State) (found : ShowState) : u.countFlow found = { u with mgmt := (u.countFlow found).mgmt } := by
  unfold State.countFlow
  split
  · split <;> rfl
  · rfl

theorem countFlow_mgmt (u : State) (found : ShowState) : (u.countFlow found).mgmt.flags = u.mgmt.flags ∧
    (u.countFlow found).mgmt.enables = u.mgmt.enables ∧ (u.countFlow found).mgmt.requests = u.mgmt.requests := by
  unfold State.countFlow
  split
  · split <;> exact ⟨rfl, rfl, rfl⟩
  · exact ⟨rfl, rfl, rfl⟩

theorem boundary_exec {s : State} (h : s.inReset = false) :
    exec .frameBoundary s = .next (event State.frameBoundary s) := run_running h

theorem boundary_reported {s : State} (h : s.inReset = false) : BoundaryReported s (event State.frameBoundary s) := by
  have raised := boundaryDone_raised s
  obtain ⟨flags, enables, requests⟩ := countFlow_mgmt (boundaryDone s) s.seq.state
  have keeps := reportChange_keeps s.frameBoundary s.seq.state
  have judged := stateChangeReported .frameBoundary s _ h (.inl List.mem_cons_self) (boundary_exec h)
  refine ⟨?_, fun x hx => ?_, ?_, ?_, fun hq => ?_, fun hq => (judged.2 hq).1⟩
  · rw [event, State.arbitrate_eq, State.reportChange_eq, frameBoundary_eq, countFlow_eq]
  · rw [event, State.arbitrate_flags', keeps.1 x hx, frameBoundary_eq, flags]
  · rw [event, State.arbitrate_enables', keeps.2.1, frameBoundary_eq, enables, raised.enables]
  · rw [event, State.arbitrate_requests', keeps.2.2, frameBoundary_eq, requests, raised.requests]
  · exact ⟨(judged.1 hq).1, (judged.1 hq).2.1⟩

/-! ### Boundaries at rest -/

/-- A boundary at which no frame is presented and the show state stays: silence, the fader's step, the countdown, and a HOLD in
HOLDING and STALLED. -/
def rested (s : State) : State :=
  { s with
    clk := { s.clk with countdown := s.clk.period }
    snd := { s.snd with
      fader := { s.snd.fader with value := faderStep s.snd.fader.value s.snd.fader.target s.snd.fader.rate }
      lanes := s.snd.lanes.mapIdx fun j l =>
        { l with block := List.replicate s.clk.period 0, delay := (s.tables.lane.getD j ⟨0, 0⟩).delay } }
    cue := { s.cue with stack := [], pendingHold := false }
    link := if s.seq.state = .holding ∨ s.seq.state = .stalled then s.link ++ [.hold] else s.link }

/-- An expansion that ends with no hold pending hands on nothing (R133). -/
theorem endExpansion_quiet {u : State} (h : u.cue.pendingHold = false) :
    u.endExpansion = u.updCue fun c => { c with stack := [], pendingHold := false } := by
  rw [State.endExpansion, h]
  rfl

/-- A boundary with no work but a silent block, with or without a HOLD before it. -/
theorem silent_done (s : State) (l : List LinkRecord) :
    ({ s.stepFader.startExpansion with link := l }.silentBlock).endExpansion.reloadCountdown =
      { rested s with link := l } := by
  rw [endExpansion_quiet (by rfl)]
  rfl

theorem boundaryDone_rested {s : State} (hq : s.seq.state ≠ .playing)
    (hr : s.seq.state = .preroll ∨ s.seq.state = .stalled → s.ready = false) : boundaryDone s = rested s := by
  have ready : s.stepFader.startExpansion.ready = s.ready := rfl
  have state : s.stepFader.startExpansion.seq.state = s.seq.state := rfl
  have quiet := silent_done s s.link
  have held := silent_done s (s.link ++ [.hold])
  have link : (rested s).link = if s.seq.state = .holding ∨ s.seq.state = .stalled then s.link ++ [.hold] else s.link := rfl
  have rest : ∀ l, l = (rested s).link → { rested s with link := l } = rested s := fun l e => by rw [e]
  unfold boundaryDone State.boundaryWork
  rw [state]
  cases h : s.seq.state with
  | playing => exact absurd h hq
  | preroll =>
    dsimp only
    rw [State.prerollBoundary, ready, hr (.inl h), if_neg (by simp)]
    exact quiet.trans (rest _ (by rw [link, if_neg (by simp [h])]))
  | stalled =>
    dsimp only
    rw [State.stalledBoundary, ready, hr (.inr h), if_neg (by simp)]
    exact held.trans (rest _ (by rw [link, if_pos (.inr h)]))
  | holding => exact held.trans (rest _ (by rw [link, if_pos (.inl h)]))
  | idle => exact quiet.trans (rest _ (by rw [link, if_neg (by simp [h])]))
  | armed => exact quiet.trans (rest _ (by rw [link, if_neg (by simp [h])]))
  | ended => exact quiet.trans (rest _ (by rw [link, if_neg (by simp [h])]))
  | stopped => exact quiet.trans (rest _ (by rw [link, if_neg (by simp [h])]))

theorem event_rested {s : State} (hq : s.seq.state ≠ .playing)
    (hr : s.seq.state = .preroll ∨ s.seq.state = .stalled → s.ready = false) :
    event State.frameBoundary s =
      (if s.seq.state = .preroll ∨ s.seq.state = .playing ∨ s.seq.state = .stalled then
        if s.tables.settings.flowInterval ≤ s.mgmt.flowCount + 1 then (rested s).flowReport
        else { rested s with mgmt := { s.mgmt with flowCount := s.mgmt.flowCount + 1 } }
      else rested s).arbitrate := by
  have done := boundaryDone_rested hq hr
  have stays : (event State.frameBoundary s).seq.state = s.seq.state := by
    rw [event_seq, frameBoundary_eq, countFlow_seq, done]; rfl
  rw [frameBoundary_same stays, done]
  rfl

/-- The first part of O38. -/
theorem resting_boundary {s : State} (h : s.inReset = false) (ok : QueuesOk s) (hq : s.seq.state ≠ .playing)
    (hr : (s.seq.state = .preroll ∨ s.seq.state = .stalled) → s.ready = false) :
    (s.seq.state ≠ .preroll → s.seq.state ≠ .stalled → exec .frameBoundary s = .next (rested s)) ∧
    ((s.seq.state = .preroll ∨ s.seq.state = .stalled) →
      (s.mgmt.flowCount + 1 < s.tables.settings.flowInterval →
        exec .frameBoundary s = .next { rested s with mgmt := { s.mgmt with flowCount := s.mgmt.flowCount + 1 } }) ∧
      (s.tables.settings.flowInterval ≤ s.mgmt.flowCount + 1 → exec .frameBoundary s = exec .flowInterval (rested s))) := by
  rw [boundary_exec h, event_rested hq hr]
  refine ⟨fun h1 h2 => ?_, fun counts => ⟨fun more => ?_, fun due => ?_⟩⟩
  · rw [if_neg (by simp [h1, h2, hq])]
    exact congrArg Host.Outcome.next (State.arbitrate_of_idle (by exact ok.idle))
  · rw [if_pos (by tauto), if_neg (by omega)]
    exact congrArg Host.Outcome.next (State.arbitrate_of_idle (by exact ok.idle))
  · have running : exec .flowInterval (rested s) = .next (event (fun s =>
        if s.seq.state = .preroll ∨ s.seq.state = .playing ∨ s.seq.state = .stalled then s.flowReport else s) (rested s)) :=
      run_running h
    have counting : (rested s).seq.state = .preroll ∨ (rested s).seq.state = .playing ∨ (rested s).seq.state = .stalled := by
      change s.seq.state = .preroll ∨ s.seq.state = .playing ∨ s.seq.state = .stalled
      tauto
    have report : State.reportChange (rested s).seq.state (rested s).flowReport = (rested s).flowReport :=
      State.reportChange_same rfl
    rw [if_pos (by tauto), if_pos due, running, event, if_pos counting, report]

end Sys2Proof.Safety
end

-- ==== boundaries: an advance made at a boundary ====
section
/-! PROOFS. Boundaries at which the position advances (R39, R48, R49): those that present no frame afterwards, and those that present
frame 0 of the composition found. -/

namespace Sys2Proof.Safety

open Sys2Proof.Machine

/-! ### Readiness of two states -/

/-- Readiness reads the tables, the sequencer and the tracks (R37). -/
theorem ready_congr {s u : State} (ht : u.tables = s.tables) (hs : u.seq = s.seq) (hk : ∀ k, u.track k = s.track k) :
    u.ready = s.ready := by
  have current : u.currentComposition = s.currentComposition := currentComposition_congr (congrArg _ ht) hs
  have entry : ∀ k, u.trackEntry k = s.trackEntry k := fun k => by rw [State.trackEntry, State.trackEntry, ht]
  have track : ∀ kind, u.currentTrack kind = s.currentTrack kind := fun kind => by
    simp only [State.currentTrack, State.trackOf, entry, hs]
  have frames : ∀ f, u.readyFrames f = s.readyFrames f := fun f => by rw [State.readyFrames, State.readyFrames, ht, current]
  simp only [State.ready, State.pictureReady, State.soundReady, hs, track, frames, hk]

/-- The tracks of a list are emptied and started in the same way from two states with the same tracks. -/
theorem Rescheduled.tracks_congr {gone fresh : List Nat} {s s' u u' : State} (h : Rescheduled gone fresh s u)
    (h' : Rescheduled gone fresh s' u') (ht : s'.tables = s.tables) (hk : s'.tracks = s.tracks) (k : Nat) :
    u'.track k = u.track k := by
  have was : s'.track k = s.track k := State.track_congr hk k
  by_cases hg : k ∈ gone
  · by_cases hf : k ∈ fresh
    · rw [h.started k hg hf, h'.started k hg hf, startedTrack_congr ht (congrArg Track.counters was)]
    · rw [h.emptied k hg hf, h'.emptied k hg hf, was]
  · rw [h.kept k hg, h'.kept k hg, was]

/-- Advances from the same position of the same show find the same composition, as ready; the logs before them do not matter. -/
theorem Advanced.ready_congr {s w a b : State} (hs : Advanced s a) (hw : Advanced w b) (same : SameShow s w)
    (position : w.seq.position = s.seq.position) (tracks : w.tracks = s.tracks) (ok : PlaylistOk s) (hk : s.tracks.length = 32) :
    b.ready = a.ready := by
  have atables : a.tables = s.tables := (congrArg State.tables hs.rest :)
  have btables : b.tables = w.tables := (congrArg State.tables hw.rest :)
  have aseq := hs.seq
  have bseq := hw.seq
  obtain ⟨-, cleared⟩ := same.ahead position
  obtain ⟨touches, ahead⟩ := same.lists position
  have moved := hw.tracks (same.playlistOk ok) (tracks ▸ hk)
  rw [touches, ahead] at moved
  have track := (hs.tracks ok hk).tracks_congr moved same.tables tracks
  -- Readiness reads the playlist, the position and the frame of the sequencer.
  have playlist : b.seq.playlist = a.seq.playlist := by rw [bseq, aseq]; exact same.playlist
  have here : b.seq.position = a.seq.position := by rw [bseq, aseq]; exact cleared
  have frame : b.seq.frame = a.seq.frame := by rw [bseq, aseq]
  have tables : b.tables = a.tables := by rw [btables, atables, same.tables]
  have moved := Safety.ready_congr (s := a) (u := { b with seq := a.seq }) tables rfl track
  rw [← moved]
  have slot : b.seq.currentSlot = a.seq.currentSlot := by rw [Sequencer.currentSlot, Sequencer.currentSlot, Sequencer.slotAt,
    Sequencer.slotAt, playlist, here]
  simp only [State.ready, State.pictureReady, State.soundReady, State.currentTrack, State.readyFrames, State.currentComposition,
    State.trackOf, slot, frame]
  rfl

/-! ### No frame presented -/

/-- A boundary's work up to an advance: the record and the flags of the composition that leaves, and the sound path's and the cue
engine's parts of it. -/
structure LeavesAtBoundary (s base w : State) : Prop where
  rest  : w = { s with
    seq := { s.seq with state := w.seq.state, stallTimer := w.seq.stallTimer }
    snd := { s.snd with
      fader := if s.seq.state = .stalled ∧ s.snd.fader.muted = false then
          { s.snd.fader with value := 0, target := s.snd.fader.saved, rate := s.tables.settings.resumeRate }
        else { s.snd.fader with value := faderStep s.snd.fader.value s.snd.fader.target s.snd.fader.rate } }
    cue := { s.cue with stack := [], pendingHold := false }
    acct := base.acct
    mgmt := w.mgmt }
  state : w.seq.state = .preroll ↔ s.seq.state = .preroll
  flags : ∀ f, flagSet w.mgmt.flags f = (flagSet s.mgmt.flags f ||
    match f with
    | .compositionEnd => decide (s.seq.state ≠ .preroll)
    | .barred => decide (s.seq.state = .preroll)
    | .logWrap => decide (s.seq.state = .preroll) && decide (64 < 1 + s.acct.log.length)
    | _ => false)
  same  : SameShow s base
  here  : base.seq.position = s.seq.position

theorem afterAdvance_rests {a : State} (m : Mix) (h : a.seq.position = 0 ∨ a.ready = false) :
    a.afterAdvance m = (enterAhead a).silentBlock := by
  unfold State.afterAdvance enterAhead
  by_cases past : a.seq.position = 0
  · rw [if_pos past, if_pos past]
  · rw [if_neg past, if_neg past, h.resolve_left past, if_neg (by simp)]

/-- A boundary that makes an advance and presents no frame. -/
theorem advancedAtBoundary {s base w : State} (hr : s.inReset = false)
    (hq : s.seq.state = .preroll ∨ s.seq.state = .playing ∨ s.seq.state = .stalled) (leaves : LeavesAtBoundary s base w)
    (hl : base.acct.log.length ≤ 64) (hd : base.acct.drops ≤ 65535) (ok : PlaylistOk s) (hk : s.tracks.length = 32)
    (done : boundaryDone s = (w.advancePosition.afterAdvance s.mix).endExpansion.reloadCountdown)
    (rests : clearedAhead s = 0 ∨ w.advancePosition.ready = false) :
    AdvancedAtBoundary s base (event State.frameBoundary s) := by
  have reported := boundary_reported hr
  generalize event State.frameBoundary s = t at reported ⊢
  have wacct : w.acct = base.acct := (congrArg State.acct leaves.rest :)
  have wseq : w.seq = { s.seq with state := w.seq.state, stallTimer := w.seq.stallTimer } := (congrArg State.seq leaves.rest :)
  have position : w.seq.position = s.seq.position := by rw [wseq]
  have shown : SameShow s w := ⟨(congrArg State.tables leaves.rest :), (congrArg State.clk leaves.rest :), by rw [wseq]⟩
  obtain ⟨barred, cleared⟩ := shown.ahead position
  obtain ⟨touches, ahead⟩ := shown.lists position
  have adv := advancePosition_advanced (s := w) (wacct ▸ hl) (wacct ▸ hd)
  generalize w.advancePosition = a at adv done rests
  have apos : a.seq.position = clearedAhead s := by rw [adv.seq, cleared]
  have astate : a.seq.state = w.seq.state := by rw [adv.seq]
  have atables : a.tables = s.tables := ((congrArg State.tables adv.rest).trans shown.tables :)
  have aclk : a.clk = s.clk := ((congrArg State.clk adv.rest).trans shown.clk :)
  have acue : a.cue = { s.cue with cursor := none, stack := [], pendingHold := false } :=
    ((congrArg State.cue adv.rest).trans (congrArg (fun u : State => { u.cue with cursor := none }) leaves.rest) :)
  have asnd : a.snd = w.snd := (congrArg State.snd adv.rest :)
  have arepeats : a.repeats = 0 := (congrArg State.repeats adv.rest :)
  have same : ∀ {α : Type} (f : State → α), f a = f { w with
      seq := a.seq, acct := a.acct, mgmt := a.mgmt, tracks := a.tracks, freeCells := a.freeCells, sub := a.sub,
      link := a.link, cue := { w.cue with cursor := none }, repeats := 0 } := fun f => congrArg f adv.rest
  have enters := enterAhead_eq a
  rw [apos] at enters
  have pending : (enterAhead a).silentBlock.cue.pendingHold = false := by
    change (enterAhead a).cue.pendingHold = false
    rw [enters]
    dsimp only
    split <;> rw [acue]
  rw [afterAdvance_rests s.mix (by rw [apos]; exact rests), endExpansion_quiet pending] at done
  generalize enterAhead a = e at enters done
  have period : e.clk.period = if clearedAhead s = 0 then s.idlePeriod else s.clk.period := by
    rw [enters, aclk, State.idlePeriod, atables]
    dsimp only
    split <;> rfl
  have etables : e.tables = s.tables := (congrArg State.tables enters).trans atables
  have left : ∀ {α : Type} (f : State → α), f t = f { boundaryDone s with mgmt := t.mgmt } := fun f => congrArg f reported.rest
  rw [done] at left
  have tmgmt : ∀ x, x ≠ .showState → flagSet t.mgmt.flags x = flagSet a.mgmt.flags x := fun x hx => by
    rw [reported.flags x hx, done]
    exact (congrArg (fun u : State => flagSet u.mgmt.flags x) enters :)
  have seq : t.seq = _ := (left State.seq).trans (congrArg State.seq enters :)
  have found : t.seq.state = if clearedAhead s = 0 then .ended else .preroll := congrArg Sequencer.state seq
  refine ⟨?_, ?_, ⟨_, rfl, ?_, ?_⟩, ?_, ?_, ?_, ⟨?_, ?_, ?_, ?_, ?_, reported.enables, reported.requests⟩, fun f => ?_⟩
  · rw [seq, adv.seq, wseq, cleared]
    simp
  · exact adv.recorded.congr ⟨shown.tables.trans leaves.same.tables.symm, shown.clk.trans leaves.same.clk.symm,
      shown.playlist.trans leaves.same.playlist.symm⟩ (position.trans leaves.here.symm) wacct
      ((left State.acct).trans (congrArg State.acct enters :))
  · rw [left State.clk, ← period]
    have eclk : e.clk = { s.clk with period := e.clk.period } := by
      rw [enters]
      dsimp only
      split <;> rw [aclk]
    exact congrArg (fun c : Clock => { c with countdown := e.clk.period }) eclk
  · rw [left State.snd, ← period]
    have esnd : e.snd = w.snd := (congrArg State.snd enters).trans asnd
    have wsnd : w.snd = _ := (congrArg State.snd leaves.rest :)
    have block : e.silentBlock.snd = { e.snd with lanes := e.snd.lanes.mapIdx fun j l =>
      { l with block := List.replicate e.clk.period 0, delay := (e.tables.lane.getD j LaneSetting.off).delay } } := rfl
    refine block.trans ?_
    rw [etables, esnd, wsnd]
  · have moved := adv.tracks (shown.playlistOk ok) (by rw [show w.tracks = s.tracks from (congrArg State.tracks leaves.rest :), hk])
    rw [touches, ahead] at moved
    have after : (a.seq.state = .preroll ∧ clearedAhead s ≠ 0) = (s.seq.state = .preroll ∧ clearedAhead s ≠ 0) := by
      rw [astate, leaves.state]
    refine tracksAdvance_of_rescheduled (moved.of_view (by rw [leaves.rest]; rfl) rfl)
      ((left State.tracks).trans (congrArg State.tracks enters :)) ((left State.sub).trans (congrArg State.sub enters :))
      ((left State.link).trans ((congrArg State.link enters).trans ?_))
    simp only [after]
  · rw [left State.cue]
    have ecue : e.cue = a.cue := by
      rw [enters]
      dsimp only
      split <;> rw [acue]
    exact congrArg (fun c : CueEngine => { c with stack := [], pendingHold := false }) (ecue.trans acue)
  · refine (left State.repeats).trans ((congrArg State.repeats enters).trans ?_)
    simp [arepeats]
  · exact (left State.tables).trans etables
  · exact (left State.port).trans (((congrArg State.port enters).trans (same State.port)).trans (congrArg State.port leaves.rest :))
  · exact (left State.booth).trans (((congrArg State.booth enters).trans (same State.booth)).trans (congrArg State.booth leaves.rest :))
  · exact (left State.inReset).trans
      (((congrArg State.inReset enters).trans (same State.inReset)).trans (congrArg State.inReset leaves.rest :))
  · exact (left State.pending).trans
      (((congrArg State.pending enters).trans (same State.pending)).trans (congrArg State.pending leaves.rest :))
  · by_cases hf : f = .showState
    · subst hf
      by_cases stays : s.seq.state = .preroll ∧ clearedAhead s ≠ 0
      · rw [reported.same (by rw [found, if_neg stays.2, stays.1])]
        simp [stays]
      · rw [(reported.changed (by rw [found]; grind)).1]
        simp [stays]
    · rw [tmgmt f hf, adv.flags, leaves.flags, barred, wacct]
      have full : Config.logRecords = 64 := rfl
      rw [Bool.or_assoc]
      congr 1
      cases f <;> simp [full, Bool.or_comm] at hf ⊢

end Sys2Proof.Safety
end

-- ==== boundaries: the sound path and the cue engine beside the show's work ====
section
/-! PROOFS. The show's work at a boundary reads neither the fader's value nor the return stack (R26, R125), so it is the same work
before and after the fader's step (R72). -/

namespace Sys2Proof.Safety

open Sys2Proof.Machine

/-- The same part with another fader and with the cue engine at the start of an expansion. -/
def dressed (f : Fader) (a : State) : State :=
  { a with snd := { a.snd with fader := f }, cue := { a.cue with stack := [], pendingHold := false } }

/-- The fader after its step. -/
def fadedStep (s : State) : Fader := { s.snd.fader with value := faderStep s.snd.fader.value s.snd.fader.target s.snd.fader.rate }

theorem dressed_ready (f : Fader) (a : State) : (dressed f a).ready = a.ready := rfl

theorem dressed_raise (f : Fader) (a : State) (x : Flag) : (dressed f a).raise x = dressed f (a.raise x) := by
  have flags : (dressed f a).mgmt = a.mgmt := rfl
  unfold State.raise
  rw [flags]
  split
  · rfl
  · dsimp only
    split <;> rfl

theorem dressed_alike (f : Fader) :
    AlikeShow (fun _ => True) fun a b => b = dressed f a ∧ f.muted = a.snd.fader.muted where
  agree := by
    rintro a _ ⟨rfl, muted⟩
    exact { Agree.refl a with muted := muted }
  raise := by
    rintro a _ x - ⟨rfl, muted⟩
    exact ⟨dressed_raise f a x, by rw [State.raise_snd]; exact muted⟩
  send := by rintro a _ r ⟨rfl, muted⟩; exact ⟨rfl, muted⟩
  tracks := by rintro a _ l - ⟨rfl, muted⟩; exact ⟨rfl, muted⟩
  cells := by rintro a _ n ⟨rfl, muted⟩; exact ⟨rfl, muted⟩
  sub := by rintro a _ x - ⟨rfl, muted⟩; exact ⟨rfl, muted⟩
  seq := by rintro a _ g - ⟨rfl, muted⟩; exact ⟨rfl, muted⟩
  period := by rintro a _ p ⟨rfl, muted⟩; exact ⟨rfl, muted⟩
  repeats := by rintro a _ n ⟨rfl, muted⟩; exact ⟨rfl, muted⟩
  lanes := by rintro a _ l - - ⟨rfl, muted⟩; exact ⟨rfl, muted⟩
  acct := by rintro a _ x ⟨rfl, muted⟩; exact ⟨rfl, muted⟩
  licence := by rintro a _ i ⟨rfl, muted⟩; exact ⟨rfl, muted⟩
  cursor := by rintro a _ ⟨rfl, muted⟩; exact ⟨rfl, muted⟩

/-! ### The work in each show state -/

theorem boundaryDone_eq (s : State) :
    boundaryDone s = (State.boundaryWork s.mix (dressed (fadedStep s) s)).endExpansion.reloadCountdown := rfl

section
variable {s : State} {m : Mix}

theorem boundaryWork_preroll (h : s.seq.state = .preroll) : s.boundaryWork m = s.prerollBoundary m := by
  rw [State.boundaryWork, h]

theorem boundaryWork_playing (h : s.seq.state = .playing) : s.boundaryWork m = s.playBoundary m := by
  rw [State.boundaryWork, h]

theorem boundaryWork_stalled (h : s.seq.state = .stalled) : s.boundaryWork m = s.stalledBoundary m := by
  rw [State.boundaryWork, h]

theorem playBoundary_shows (h : s.seq.frame < s.currentComposition.duration) : s.playBoundary m = s.playFrame m := if_pos h

theorem playBoundary_ends (h : s.currentComposition.duration ≤ s.seq.frame) : s.playBoundary m = s.endBoundary m :=
  if_neg (Nat.not_lt.mpr h)

theorem prerollBoundary_starts (ready : s.ready = true)
    (clear : s.seq.cleared = true ∨ s.licenceCheck s.currentComposition = none) :
    s.prerollBoundary m =
      (s.updSeq fun q => { q with state := .playing, cleared := true, prerollTimer := none }).playBoundary m := by
  unfold State.prerollBoundary
  rw [if_pos ready]
  cases h : s.seq.cleared with
  | true => rfl
  | false => rw [clear.resolve_left (by simp [h])]; rfl

theorem prerollBoundary_barred (ready : s.ready = true) (clear : s.seq.cleared = false) {reason : BarReason}
    (bar : s.licenceCheck s.currentComposition = some reason) :
    s.prerollBoundary m = ((s.writeBarred reason).advancePosition).afterAdvance m := by
  unfold State.prerollBoundary
  rw [if_pos ready, clear, bar]
  rfl

theorem stalledBoundary_ready (ready : s.ready = true) : s.stalledBoundary m =
    ((s.updSeq fun q => { q with state := .playing, stallTimer := none }).resumeEvent).playBoundary m := if_pos ready

theorem afterAdvance_found (position : s.seq.position ≠ 0) (ready : s.ready = true) : s.afterAdvance m =
    (s.updSeq fun q => { q with state := .playing, prerollTimer := none, stallTimer := none }).playFrame m := by
  unfold State.afterAdvance
  rw [if_neg position, if_pos ready]

end

/-- A PREROLL boundary that finds frame 0 ready and the licence cleared or passing. -/
theorem boundaryDone_starts {s : State} (hq : s.seq.state = .preroll) (ready : s.ready = true)
    (clear : s.seq.cleared = true ∨ s.licenceCheck s.currentComposition = none)
    (duration : s.seq.frame < s.currentComposition.duration) :
    boundaryDone s = (((dressed (fadedStep s) s).updSeq fun q =>
      { q with state := .playing, cleared := true, prerollTimer := none }).playFrame s.mix).endExpansion.reloadCountdown := by
  have starts := prerollBoundary_starts (s := dressed (fadedStep s) s) (m := s.mix) ready clear
  rw [boundaryDone_eq, boundaryWork_preroll (by exact hq), starts, playBoundary_shows (by exact duration)]

/-- A composition found ready by an advance, with frame 0 next and the licence cleared, starts as at a PREROLL boundary that finds
it. -/
theorem boundaryDone_found {v : State} (frame : v.seq.frame = 0) (cleared : v.seq.cleared = true) (position : v.seq.position ≠ 0)
    (ready : v.ready = true) (duration : 1 ≤ v.currentComposition.duration) :
    boundaryDone { v with seq := { v.seq with state := .preroll, stallTimer := none } } =
      (((dressed (fadedStep v) v).afterAdvance v.mix).endExpansion.reloadCountdown) := by
  have starts := boundaryDone_starts (s := { v with seq := { v.seq with state := .preroll, stallTimer := none } }) rfl ready
    (.inl cleared) (by change v.seq.frame < v.currentComposition.duration; omega)
  have found := afterAdvance_found (s := dressed (fadedStep v) v) (m := v.mix) position ready
  have entered : (dressed (fadedStep { v with seq := { v.seq with state := .preroll, stallTimer := none } })
      { v with seq := { v.seq with state := .preroll, stallTimer := none } }).updSeq (fun q =>
        { q with state := .playing, cleared := true, prerollTimer := none }) =
      (dressed (fadedStep v) v).updSeq fun q => { q with state := .playing, prerollTimer := none, stallTimer := none } := by
    rw [← cleared]
    rfl
  rw [starts, entered, found]
  rfl

/-- A boundary follows from its work and the state found. -/
theorem event_frameBoundary_congr {s u : State} (found : s.seq.state = u.seq.state) (done : boundaryDone s = boundaryDone u) :
    event State.frameBoundary s = event State.frameBoundary u := by
  rw [event, event, frameBoundary_eq, frameBoundary_eq, found, done]

/-- The composition that an advance finds. -/
theorem Advanced.found {s w v : State} (adv : Advanced w v) (shown : SameShow s w) (position : w.seq.position = s.seq.position)
    (ahead : clearedAhead s ≠ 0) : v.seq.frame = 0 ∧ v.seq.cleared = true ∧ v.seq.position ≠ 0 ∧
      v.currentComposition = compositionAt s (clearedAhead s) := by
  obtain ⟨-, cleared⟩ := shown.ahead position
  have seq := adv.seq
  have onward : SameShow s v := ⟨(congrArg State.tables adv.rest).trans shown.tables, (congrArg State.clk adv.rest).trans shown.clk,
    by rw [seq]; exact shown.playlist⟩
  have here : v.seq.position = clearedAhead s := by rw [seq, cleared]
  refine ⟨by rw [seq], by rw [seq, cleared]; simpa using ahead, here ▸ ahead, ?_⟩
  rw [currentComposition_eq, onward.compositionAt, here]

/-! ### A barred PREROLL -/

theorem barred_leaves {s : State} (hq : s.seq.state = .preroll) (hl : s.acct.log.length ≤ 64) (hd : s.acct.drops ≤ 65535)
    (reason : BarReason) :
    LeavesAtBoundary s (barredFirst s reason) (dressed (fadedStep s) (s.writeBarred reason)) := by
  have barred := writeBarred_eq hl hd reason
  obtain ⟨flags, -⟩ := writeBarred_mgmt hl reason
  generalize s.writeBarred reason = w at barred flags
  refine ⟨?_, ?_, fun f => (flags f).trans ?_, ⟨rfl, rfl, rfl⟩, rfl⟩
  · rw [barred, hq]
    rfl
  · rw [barred]
    rfl
  · rw [hq]
    cases f <;> simp

theorem boundaryDone_barred {s : State} (hq : s.seq.state = .preroll) (ready : s.ready = true) (clear : s.seq.cleared = false)
    {reason : BarReason} (bar : s.licenceCheck s.currentComposition = some reason) :
    boundaryDone s = (((dressed (fadedStep s) (s.writeBarred reason)).advancePosition).afterAdvance
      s.mix).endExpansion.reloadCountdown := by
  have written := ((dressed_alike (fadedStep s)).writeBarred ⟨rfl, rfl⟩ trivial trivial reason).1
  rw [boundaryDone_eq, boundaryWork_preroll (by exact hq), prerollBoundary_barred (by exact ready) (by exact clear)
    (by exact bar), written]

/-- A barred PREROLL whose advance finds a ready composition. -/
theorem event_barred_found {s : State} (hq : s.seq.state = .preroll) (ready : s.ready = true) (clear : s.seq.cleared = false)
    {reason : BarReason} (bar : s.licenceCheck s.currentComposition = some reason) {v : State} (sound : v.snd = s.snd)
    (moved : (dressed (fadedStep s) (s.writeBarred reason)).advancePosition = dressed (fadedStep s) v)
    (state : v.seq.state = .preroll) (frame : v.seq.frame = 0) (cleared : v.seq.cleared = true) (position : v.seq.position ≠ 0)
    (readied : v.ready = true) (duration : 1 ≤ v.currentComposition.duration) :
    event State.frameBoundary s = event State.frameBoundary { v with seq := { v.seq with stallTimer := none } } := by
  have starts := boundaryDone_found frame cleared position readied duration
  have step : fadedStep v = fadedStep s := by rw [fadedStep, fadedStep, sound]
  have mix : v.mix = s.mix := by rw [State.mix, State.mix, sound]
  refine event_frameBoundary_congr (hq.trans state.symm) ?_
  rw [boundaryDone_barred hq ready clear bar, moved, ← step, ← mix, ← starts, ← state]

/-- Settles O38: at rest by the work in each show state; a barred PREROLL by the position advance (`Advanced`), which is the same before
and after the fader's step. -/
theorem restingBoundaryIsSilent : Obligations.RestingBoundaryIsSilent := by
  refine ⟨fun s u h ok hq hr hu => hu ▸ resting_boundary h ok hq hr, fun s reason h hq ready clear bar hl hd ok hk => ?_⟩
  have written := writeBarred_eq hl hd reason
  have leaves := barred_leaves hq hl hd reason
  have done := boundaryDone_barred hq ready clear bar
  have sound : (s.writeBarred reason).snd = s.snd := (congrArg State.snd written :)
  have shown : SameShow s (s.writeBarred reason) :=
    ⟨(congrArg State.tables written :), (congrArg State.clk written :), (congrArg (fun u : State => u.seq.playlist) written :)⟩
  have position : (s.writeBarred reason).seq.position = s.seq.position := (congrArg (fun u : State => u.seq.position) written :)
  have state : (s.writeBarred reason).seq.state = s.seq.state := (congrArg (fun u : State => u.seq.state) written :)
  have tracks : (s.writeBarred reason).tracks = s.tracks := (congrArg State.tracks written :)
  have running : (s.writeBarred reason).inReset = s.inReset := (congrArg State.inReset written :)
  have log : (s.writeBarred reason).acct.log.length ≤ 64 := (congrArg (fun u : State => u.acct.log.length) written) ▸ List.length_take_le ..
  have drops : (s.writeBarred reason).acct.drops ≤ 65535 := (congrArg (fun u : State => u.acct.drops) written) ▸ Nat.min_le_right ..
  have moved := ((dressed_alike (fadedStep s)).advancePosition (s := s.writeBarred reason) ⟨rfl, by rw [sound]; rfl⟩ trivial
    trivial).1
  have adv := advancePosition_advanced log drops
  have found := (advancePosition_advanced hl hd).ready_congr adv shown position tracks ok hk
  refine ⟨fun rests => ⟨_, boundary_exec h, ?_⟩, fun ahead readied duration => ⟨_, rfl, ?_⟩⟩
  · refine advancedAtBoundary h (.inl hq) leaves (List.length_take_le ..) (Nat.min_le_right ..) ok hk done
      (rests.imp_right fun r => ?_)
    rw [moved, dressed_ready, found, r]
  · generalize (s.writeBarred reason).advancePosition = v at adv found moved
    obtain ⟨frame, cleared, onward, current⟩ := adv.found shown position ahead
    have vsound : v.snd = s.snd := (congrArg State.snd adv.rest).trans sound
    have vrunning : v.inReset = false := (congrArg State.inReset adv.rest).trans (running.trans h)
    have vstate : v.seq.state = .preroll := by rw [adv.seq]; exact state.trans hq
    rw [boundary_exec h, boundary_exec (by exact vrunning)]
    exact congrArg Host.Outcome.next
      (event_barred_found hq ready clear bar vsound moved vstate frame cleared onward (found.trans readied) (by rw [current]; exact duration))

end Sys2Proof.Safety
end

-- ==== cues: a sheet's entries in a flat run ====
section
/-! PROOFS. The entries that a boundary takes from a sheet are those of a flat run of it, macros in their place (R127, R134, R135). -/

namespace Sys2Proof.Safety

open Sys2Proof.Machine

/-! ### Relations that an entry keeps -/

/-- As `Alike`, and closed under the effects of one entry of a flat run (R130 to R133). -/
structure AlikeEntry (A : Flag → Prop) (R : State → State → Prop) : Prop extends Alike A R where
  fader : ∀ {s u} f, R s u → (∀ x, (f x).muted = x.muted) → R (s.updFader f) (u.updFader f)
  map   : ∀ {s u} m, R s u → R (s.activateMap m) (u.activateMap m)
  mark  : ∀ {s u} n, R s u → R (s.updCue fun c => { c with lastMark := n }) (u.updCue fun c => { c with lastMark := n })
  hold  : ∀ {s u}, R s u → R (s.updCue fun c => { c with pendingHold := true }) (u.updCue fun c => { c with pendingHold := true })
  booth : ∀ {s u} l g, R s u → R { s with booth := { s.booth with cueLevels := l, generators := g } }
    { u with booth := { u.booth with cueLevels := l, generators := g } }

section
variable {A : Flag → Prop} {R : State → State → Prop} (hR : AlikeEntry A R) {s u : State} (h : R s u)
include hR h

theorem AlikeEntry.setGenerators (g : List Generator) : R (s.setGenerators g) (u.setGenerators g) := by
  have := hR.booth s.booth.cueLevels g h
  unfold State.setGenerators
  rw [(hR.agree h).booth] at this ⊢
  exact this

theorem AlikeEntry.takeCue (marked : A .cueMark) {expand : Nat → Nat → State → State}
    (he : ∀ a b {s u}, R s u → R (expand a b s) (expand a b u)) (c : Cue) : R (s.takeCue expand c) (u.takeCue expand c) := by
  have agree := hR.agree h
  cases c with
  | empty => exact h
  | lineLevel line level =>
    have := hR.booth (s.booth.cueLevels.set line level) s.booth.generators h
    unfold State.takeCue State.setCueLevel
    rw [agree.booth] at this ⊢
    exact this
  | linePulse g line mode count pulse space =>
    unfold State.takeCue State.linePulse
    dsimp only
    rw [agree.booth]
    split
    · exact h
    · exact hR.setGenerators h _
  | pulseStop g =>
    unfold State.takeCue State.pulseStop
    dsimp only
    rw [agree.booth]
    exact hR.setGenerators h _
  | fader x k =>
    unfold State.takeCue State.faderCue
    dsimp only
    rw [agree.muted, agree.seq]
    split
    · exact hR.fader _ h fun _ => rfl
    · exact hR.fader _ h fun _ => rfl
  | route map => exact hR.map map h
  | subtitles track => exact hR.nameActive h track
  | callMacro first length => exact he first length h
  | mark tag => exact hR.raise _ marked (hR.mark tag h)
  | holdShow => exact hR.hold h

theorem AlikeEntry.takeFlat (marked : A .cueMark) (nest : A .cueNest) (c : Option Cue) : R (takeFlat s c) (takeFlat u c) := by
  cases c with
  | none => exact hR.raise _ nest h
  | some c => exact hR.takeCue h marked (fun _ _ {_ _} h => h) c

theorem AlikeEntry.takeFlats (marked : A .cueMark) (nest : A .cueNest) (l : List (Option Cue)) :
    R (l.foldl Safety.takeFlat s) (l.foldl Safety.takeFlat u) :=
  alike_foldl R (fun c {_ _} h => hR.takeFlat h marked nest c) l h

end

/-! ### The cursor and the return stack -/

/-- The same part with another cursor and another return stack. -/
def engineAt (k : Option Cursor) (st : List ReturnPoint) (a : State) : State :=
  { a with cue := { a.cue with cursor := k, stack := st } }

theorem engineAt_self (a : State) : engineAt a.cue.cursor a.cue.stack a = a := rfl

/-- No entry of a flat run reads the cursor or the return stack, or changes them. -/
theorem engineAt_alike (k : Option Cursor) (st : List ReturnPoint) :
    AlikeEntry (fun _ => True) fun a b => b = engineAt k st a where
  agree := by rintro a _ rfl; exact { Agree.refl a with }
  raise := by
    rintro a _ x - rfl
    have mgmt : (engineAt k st a).mgmt = a.mgmt := rfl
    unfold State.raise
    rw [mgmt]
    split
    · rfl
    · dsimp only
      split <;> rfl
  send := by rintro a _ r rfl; rfl
  tracks := by rintro a _ l - rfl; rfl
  cells := by rintro a _ n rfl; rfl
  sub := by rintro a _ x - rfl; rfl
  fader := by rintro a _ f rfl -; rfl
  map := by rintro a _ m rfl; rfl
  mark := by rintro a _ n rfl; rfl
  hold := by rintro a _ rfl; rfl
  booth := by rintro a _ l g rfl; rfl

theorem takeFlats_engineAt (k : Option Cursor) (st : List ReturnPoint) (l : List (Option Cue)) (a : State) :
    l.foldl takeFlat (engineAt k st a) = engineAt k st (l.foldl takeFlat a) :=
  (engineAt_alike k st).takeFlats rfl trivial trivial l

/-- A flat run leaves the cursor and the return stack alone. -/
theorem takeFlats_engine (l : List (Option Cue)) (a : State) :
    (l.foldl takeFlat a).cue.cursor = a.cue.cursor ∧ (l.foldl takeFlat a).cue.stack = a.cue.stack := by
  have same := takeFlats_engineAt a.cue.cursor a.cue.stack l a
  rw [engineAt_self] at same
  rw [same]
  exact ⟨rfl, rfl⟩

/-! ### Macros in their place -/

/-- A flat run keeps what each kind of effect keeps. -/
theorem CueClosed.takeFlats {P : State → Prop} (hP : CueClosed P) (l : List (Option Cue)) {a : State} (h : P a) :
    P (l.foldl takeFlat a) := by
  induction l generalizing a with
  | nil => exact h
  | cons c l ih =>
    refine ih ?_
    cases c with
    | none => exact hP.raise a _ h
    | some c => exact hP.takeCue (fun _ _ _ h => h) c h

/-- The tables and the clock stand while entries are taken. -/
theorem takeFlats_kept (l : List (Option Cue)) (a : State) :
    (l.foldl takeFlat a).tables = a.tables ∧ (l.foldl takeFlat a).clk = a.clk := by
  have closed : CueClosed fun u => u.tables = a.tables ∧ u.clk = a.clk :=
    { updCue := fun _ _ h => h, raise := fun u f h => by rw [State.raise_tables, State.raise_clk]; exact h
      setCueLevel := fun _ _ _ h => h, generators := fun _ _ h => h, updFader := fun _ _ h => h, activateMap := fun _ _ h => h
      nameActive := fun u t h => by rw [(nameActive_rest u t).rest]; exact h }
  exact closed.takeFlats l ⟨rfl, rfl⟩

theorem takeFlats_tables (l : List (Option Cue)) (a : State) : (l.foldl takeFlat a).tables = a.tables := (takeFlats_kept l a).1

theorem flatRun_congr {s u : State} (h : u.tables = s.tables) : flatRun u = flatRun s := by
  have entry : ∀ i, u.cueEntry i = s.cueEntry i := fun i => by rw [State.cueEntry, State.cueEntry, h]
  funext room
  induction room with
  | zero => funext first length; simp only [flatRun, entry]
  | succ room ih => funext first length; simp only [flatRun, entry, ih]

theorem flatRun_engineAt (k : Option Cursor) (st : List ReturnPoint) (a : State) : flatRun (engineAt k st a) = flatRun a :=
  flatRun_congr rfl

theorem flatRun_append (s : State) (room first m n : Nat) :
    flatRun s room first (m + n) = flatRun s room first m ++ flatRun s room (first + m) n := by
  have range : List.range' first (m + n) = List.range' first m ++ List.range' (first + m) n := by
    rw [List.range'_append_1]
  cases room with
  | zero => simp only [flatRun, range, List.map_append]
  | succ room => simp only [flatRun, range, List.flatMap_append]

/-- A run whose entries each do what their flat run does is the flat run of its entries. -/
theorem runEntries_flat {room : Nat} {expand : ReturnPoint → Nat → Nat → State → State}
    (entry : ∀ r i a, a.takeCue (expand r) (a.cueEntry i).cue = (flatRun a room i 1).foldl takeFlat a) (left i : Nat) (a : State) :
    State.runEntries expand left i a = (flatRun a room i left).foldl takeFlat a := by
  induction left generalizing i a with
  | zero => cases room <;> rfl
  | succ left ih =>
    rw [State.runEntries, entry, ih, flatRun_congr (takeFlats_tables _ a), ← List.foldl_append, Nat.add_comm left 1, flatRun_append]

/-- An entry taken with room for return points does what the flat run of it does. -/
theorem takeCue_flat (room : Nat) (r : ReturnPoint) (i : Nat) (a : State) :
    a.takeCue (State.expandMacro room r) (a.cueEntry i).cue = (flatRun a room i 1).foldl takeFlat a := by
  induction room generalizing r i a with
  | zero =>
    simp only [flatRun, List.range'_one, List.map_cons, List.map_nil, List.foldl_cons, List.foldl_nil]
    cases (a.cueEntry i).cue <;> rfl
  | succ room ih =>
    have pushed : ∀ b : State, b.pushReturn r = engineAt b.cue.cursor (r :: b.cue.stack) b := fun b => rfl
    have expanded : ∀ inner n, State.expandMacro (room + 1) r inner n a = (flatRun a room inner n).foldl takeFlat a := fun inner n => by
      obtain ⟨cursor, stack⟩ := takeFlats_engine (flatRun a room inner n) a
      have run := runEntries_flat (fun r i a => ih r i a) n inner (a.pushReturn r)
      rw [pushed, flatRun_engineAt, takeFlats_engineAt] at run
      rw [State.expandMacro, pushed, run, ← cursor, ← stack]
      rfl
    simp only [flatRun, List.range'_one, List.flatMap_cons, List.flatMap_nil, List.append_nil]
    cases hc : (a.cueEntry i).cue with
    | callMacro inner n => exact expanded inner n
    | _ => rfl

/-! ### A sheet's entries -/

/-- The sheet with at most `n` entries from the cursor on. -/
def Cursor.cut (k : Cursor) (n : Nat) : Cursor := { k with stop := min k.stop (k.next + n) }

theorem dueEntries_congr {s u : State} (h : u.tables = s.tables) : dueEntries u = dueEntries s := by
  have entry : ∀ i, u.cueEntry i = s.cueEntry i := fun i => by rw [State.cueEntry, State.cueEntry, h]
  funext k f
  simp only [dueEntries, entry]

theorem dueEntries_cut (s : State) (k : Cursor) (n f : Nat) : dueEntries s (Cursor.cut k n) f =
    (List.range' k.next (min (k.stop - k.next) n)).takeWhile fun i => decide ((s.cueEntry i).trigger ≤ f) := by
  have length : min k.stop (k.next + n) - k.next = min (k.stop - k.next) n := by omega
  rw [← length]
  rfl

/-- The first entry of a sheet that is due, and those after it. -/
theorem dueEntries_cons {s : State} {k : Cursor} {f n : Nat} (h : k.next < k.stop) (due : (s.cueEntry k.next).trigger ≤ f) :
    dueEntries s (Cursor.cut k (n + 1)) f = k.next :: dueEntries s (Cursor.cut { k with next := k.next + 1 } n) f := by
  have length : min (k.stop - k.next) (n + 1) = min (k.stop - (k.next + 1)) n + 1 := by omega
  rw [dueEntries_cut, dueEntries_cut, length, List.range'_succ, List.takeWhile_cons_of_pos (by simpa using due)]

/-- A sheet at its end, or before an entry that is not due. -/
theorem dueEntries_nil {s : State} {k : Cursor} {f n : Nat} (h : ¬ (k.next < k.stop ∧ (s.cueEntry k.next).trigger ≤ f)) :
    dueEntries s (Cursor.cut k n) f = [] := by
  rw [dueEntries_cut]
  cases hn : min (k.stop - k.next) n with
  | zero => rfl
  | succ m =>
    have inside : k.next < k.stop := by omega
    rw [List.range'_succ, List.takeWhile_cons_of_neg]
    simpa using fun c => h ⟨inside, c⟩

/-- The cue work of a boundary, as the flat run of at most `n` due entries (R127). -/
theorem sheetWork_flat (f n : Nat) {a : State} {k : Cursor} (hk : a.cue.cursor = some k) :
    State.sheetWork f n a = engineAt (some { k with next := k.next + (dueEntries a (Cursor.cut k n) f).length }) a.cue.stack
      (((dueEntries a (Cursor.cut k n) f).flatMap fun i => flatRun a Config.macroDepth i 1).foldl takeFlat a) := by
  induction n generalizing a k with
  | zero =>
    have none_due : dueEntries a (Cursor.cut k 0) f = [] := by
      rw [dueEntries_cut, Nat.min_zero]
      rfl
    rw [none_due]
    exact (congrArg (fun c => engineAt c a.cue.stack a) hk :)
  | succ n ih =>
    unfold State.sheetWork
    rw [hk]
    dsimp only
    split
    · rename_i due
      obtain ⟨inside, trigger⟩ := due
      have moved : (a.updCue fun c => { c with cursor := some { k with next := k.next + 1 } }) =
          engineAt (some { k with next := k.next + 1 }) a.cue.stack a := rfl
      have taken := takeCue_flat Config.macroDepth .sheet k.next (engineAt (some { k with next := k.next + 1 }) a.cue.stack a)
      rw [flatRun_engineAt, takeFlats_engineAt] at taken
      rw [moved, show a.cueEntry k.next = (engineAt (some { k with next := k.next + 1 }) a.cue.stack a).cueEntry k.next from rfl,
        taken, ih (k := { k with next := k.next + 1 }) rfl, dueEntries_cons inside trigger]
      have tables : (engineAt (some { k with next := k.next + 1 }) a.cue.stack
          ((flatRun a Config.macroDepth k.next 1).foldl takeFlat a)).tables = a.tables := takeFlats_tables _ a
      rw [dueEntries_congr tables, flatRun_congr tables, takeFlats_engineAt, List.flatMap_cons, List.foldl_append, List.length_cons,
        ← Nat.add_assoc, Nat.add_right_comm k.next]
      rfl
    · rename_i none_due
      rw [dueEntries_nil none_due]
      exact (congrArg (fun c => engineAt c a.cue.stack a) hk :)

/-- A boundary takes the due entries of its sheet (R127). -/
theorem cueWork_due {a : State} {k : Cursor} (hk : a.cue.cursor = some k) (hl : k.stop ≤ k.next + 512) (f : Nat) :
    a.cueWork f = takeDue a k f := by
  have cut : Cursor.cut k 512 = k := by rw [Cursor.cut, Nat.min_eq_left hl]
  obtain ⟨-, stack⟩ := takeFlats_engine ((dueEntries a k f).flatMap fun i => flatRun a Config.macroDepth i 1) a
  rw [State.cueWork, sheetWork_flat f 512 hk, cut, ← stack]
  rfl

theorem cueWork_none {a : State} (h : a.cue.cursor = none) (f : Nat) : a.cueWork f = a := by
  rw [State.cueWork, State.sheetWork, h]

/-- With no entry due nothing is taken. -/
theorem cueWork_quiet {a : State} {f : Nat} (h : NoCueDue a f) : a.cueWork f = a := by
  cases hk : a.cue.cursor with
  | none => exact cueWork_none hk f
  | some k =>
    rw [State.cueWork, State.sheetWork, hk]
    exact if_neg fun due => absurd (h k hk due.1) (by omega)

end Sys2Proof.Safety
end

-- ==== boundaries: the work on a presented frame ====
section
/-! PROOFS. What the work on a presented frame leaves (R41, R57, R60 to R63, R65): the verdict's record, its marker, the repeat count
and the stall, the window, the units taken, and overlay records. -/

namespace Sys2Proof.Safety

open Sys2Proof.Machine

/-- The flags outside `A` stand. -/
def FlagsBut (A : Flag → Prop) (s u : State) : Prop := ∀ x, ¬ A x → flagSet u.mgmt.flags x = flagSet s.mgmt.flags x

theorem FlagsBut.of_mgmt {A : Flag → Prop} {s u : State} (h : u.mgmt = s.mgmt) : FlagsBut A s u := fun _ _ => by rw [h]

theorem FlagsBut.trans {A : Flag → Prop} {s u v : State} (h : FlagsBut A s u) (g : FlagsBut A u v) : FlagsBut A s v :=
  fun x hx => (g x hx).trans (h x hx)

theorem FlagsBut.mono {A B : Flag → Prop} {s u : State} (h : FlagsBut A s u) (hab : ∀ x, A x → B x) : FlagsBut B s u :=
  fun x hx => h x fun c => hx (hab x c)

theorem FlagsBut.raise {A : Flag → Prop} (s : State) {f : Flag} (hf : A f) : FlagsBut A s (s.raise f) := fun x hx => by
  rw [State.raise_flags, flagSet_withFlag]
  have : x ≠ f := fun e => hx (e ▸ hf)
  simp [this]

/-! ### Units taken -/

/-- Units have been taken from queues: queues, cells and SOUND_GAP (R75, R76). -/
structure UnitsTaken (s u : State) : Prop where
  rest    : u = { s with tracks := u.tracks, freeCells := u.freeCells, mgmt := u.mgmt }
  windows : ∀ k, (u.track k).window = (s.track k).window
  flags   : FlagsBut (· = .soundGap) s u

theorem UnitsTaken.refl (s : State) : UnitsTaken s s := ⟨rfl, fun _ => rfl, .of_mgmt rfl⟩

theorem UnitsTaken.trans {s u v : State} (h : UnitsTaken s u) (g : UnitsTaken u v) : UnitsTaken s v := by
  refine ⟨?_, fun k => (g.windows k).trans (h.windows k), h.flags.trans g.flags⟩
  have e := g.rest
  rw [h.rest] at e
  exact e

theorem unitsTaken_dropped (s : State) (t n : Nat) (l : List SoundUnit) :
    UnitsTaken s ((s.updTrack t fun k => { k with queue := l }).returnCells t n) := by
  refine ⟨rfl, fun k => ?_, .of_mgmt rfl⟩
  have queued : ((s.updTrack t fun k => { k with queue := l }).track k).window = (s.track k).window := by
    rw [State.track_updTrack]
    split
    · rename_i here
      rw [here.1]
    · rfl
  rw [State.track_returnCells]
  split
  · rename_i here
    rw [here.1] at queued ⊢
    exact queued
  · exact queued

theorem UnitsTaken.gap {s u : State} (h : UnitsTaken s u) : UnitsTaken s (u.raise .soundGap) :=
  h.trans ⟨by rw [State.raise_tracks, State.raise_freeCells]; exact State.raise_eq u .soundGap,
    fun k => by rw [State.raise_track], .raise u rfl⟩

theorem takeUnit_taken (s : State) (t f : Nat) : UnitsTaken s (s.takeUnit t f).1 := by
  unfold State.takeUnit
  dsimp only
  split
  · split
    · exact unitsTaken_dropped s t _ _
    · exact (unitsTaken_dropped s t _ _).gap
  · exact (unitsTaken_dropped s t _ _).gap

theorem takeTrack_taken (s : State) (t : Option Nat) (f : Nat) : UnitsTaken s (s.takeTrack t f).1 := by
  cases t with
  | none => exact .refl s
  | some t => exact takeUnit_taken s t f

/-- The sound block of a frame has been formed (R72, R75, R88). -/
structure BlockFormed (s u : State) : Prop where
  rest    : u = { s with tracks := u.tracks, freeCells := u.freeCells, mgmt := u.mgmt, snd := { s.snd with lanes := u.snd.lanes } }
  windows : ∀ k, (u.track k).window = (s.track k).window
  flags   : FlagsBut (fun x => x = .soundGap ∨ x = .clip) s u

theorem frameBlock_formed (s : State) (m : Mix) (f : Nat) : BlockFormed s (s.frameBlock m f) := by
  have taken := (takeTrack_taken s (s.currentTrack .soundMain) f).trans
    (takeTrack_taken _ (s.currentTrack .soundAux) f)
  have flags := taken.flags.mono (B := fun x => x = .soundGap ∨ x = .clip) fun _ => .inl
  have silent : ∀ v, UnitsTaken s v → FlagsBut (fun x => x = .soundGap ∨ x = .clip) s v → BlockFormed s v.silentBlock :=
    fun v taken flags => ⟨by have e := taken.rest; rw [e]; rfl, taken.windows, flags⟩
  have mixed : ∀ v l, UnitsTaken s v → FlagsBut (fun x => x = .soundGap ∨ x = .clip) s v → BlockFormed s (v.soundBlock m l) :=
    fun v l taken flags => by
      unfold State.soundBlock
      dsimp only
      split
      · refine ⟨?_, fun k => by rw [State.raise_track]; exact taken.windows k, flags.trans (.raise _ (.inr rfl))⟩
        rw [State.raise_eq, taken.rest]
        rfl
      · exact ⟨by have e := taken.rest; rw [e]; rfl, taken.windows, flags⟩
  unfold State.frameBlock
  dsimp only
  split
  · exact silent _ taken flags
  · exact mixed _ _ taken flags

/-! ### Overlay records -/

/-- The subtitle engine has worked: cells held, free cells, its own part of the state, and overlay records on the link. -/
structure Overlaid (s u : State) : Prop where
  only   : OnlySubtitles s u
  active : u.sub.active = s.sub.active
  link   : ∃ rest : List LinkRecord, (∀ x ∈ rest, overlay x = true) ∧ u.link = s.link ++ rest

theorem Overlaid.of_quiet {s u : State} (h : OnlySubtitles s u) (ha : u.sub.active = s.sub.active) (hl : u.link = s.link) :
    Overlaid s u := ⟨h, ha, [], fun _ m => absurd m List.not_mem_nil, by rw [hl, List.append_nil]⟩

theorem Overlaid.refl (s : State) : Overlaid s s := .of_quiet (.refl s) rfl rfl

theorem Overlaid.trans {s u v : State} (h : Overlaid s u) (g : Overlaid u v) : Overlaid s v := by
  obtain ⟨a, ha, la⟩ := h.link
  obtain ⟨b, hb, lb⟩ := g.link
  refine ⟨h.only.trans g.only, g.active.trans h.active, a ++ b, fun x hx => ?_, by rw [lb, la, List.append_assoc]⟩
  rcases List.mem_append.mp hx with m | m
  · exact ha x m
  · exact hb x m

theorem Overlaid.foldl {α : Type} {g : State → α → State} (hg : ∀ s a, Overlaid s (g s a)) (l : List α) (s : State) :
    Overlaid s (l.foldl g s) := by
  induction l generalizing s with
  | nil => exact .refl s
  | cons a l ih => exact (hg s a).trans (ih _)

theorem send_overlaid (s : State) {r : LinkRecord} (h : overlay r = true) : Overlaid s (s.send r) :=
  ⟨⟨rfl, rfl, fun _ => rfl⟩, rfl, [r], fun x hx => by rw [List.mem_singleton.mp hx]; exact h, rfl⟩

theorem emptyRegions_overlaid (s : State) (test : Item → Bool) : Overlaid s (s.emptyRegions test) := by
  obtain ⟨only, sub, -, -, link⟩ := State.emptyRegions_spec s test
  refine ⟨only, (congrArg Subtitles.active sub :), _, fun x hx => ?_, link⟩
  obtain ⟨r, -, rfl⟩ := List.mem_map.mp hx
  rfl

theorem setRegion_overlaid (s : State) (r : Nat) (x : Option Shown) : Overlaid s (s.setRegion r x) :=
  .of_quiet ⟨rfl, rfl, fun _ => rfl⟩ rfl rfl

theorem admitItem_overlaid (f : Nat) (s : State) (i : Item) : Overlaid s (State.admitItem f s i) := by
  unfold State.admitItem
  split
  · rename_i x _
    have counted : Overlaid s { s with sub := { s.sub with preempted := satInc s.sub.preempted } } :=
      .of_quiet ⟨rfl, rfl, fun _ => rfl⟩ rfl rfl
    exact (counted.trans (.of_quiet (State.returnCells_only _ x.item.track itemCells) rfl rfl)).trans (setRegion_overlaid _ _ _)
  · exact setRegion_overlaid _ _ _

theorem sendAdmission_overlaid (before : List (Option Shown)) (s : State) (r : Nat) :
    Overlaid s (State.sendAdmission before s r) := by
  have first : Overlaid s (if (before.getD r none).isSome = true then s.send (.clearRegion r) else s) := by
    split
    · exact send_overlaid s rfl
    · exact .refl s
  unfold State.sendAdmission
  dsimp only
  split
  · exact first.trans (send_overlaid _ rfl)
  · exact first

theorem refreshRegion_overlaid (f : Nat) (s : State) (r : Nat) : Overlaid s (State.refreshRegion f s r) := by
  unfold State.refreshRegion
  split
  · split
    · exact .refl s
    · exact (setRegion_overlaid _ _ _).trans (send_overlaid _ rfl)
  · exact .refl s

theorem subtitleWork_overlaid (s : State) (f : Nat) : Overlaid s (s.subtitleWork f) := by
  unfold State.subtitleWork
  split
  · exact .refl s
  · have emptied := emptyRegions_overlaid s fun i => decide (i.outFrame ≤ f)
    have admitted : ∀ u : State, Overlaid u (u.admitItems f) := fun u => by
      have left : Overlaid u { u with sub := { u.sub with schedule := u.sub.schedule.filter fun i => !u.itemDue f i } } :=
        .of_quiet ⟨rfl, rfl, fun _ => rfl⟩ rfl rfl
      exact (left.trans (.foldl (admitItem_overlaid f) _ _)).trans (.foldl (sendAdmission_overlaid _) _ _)
    have dropped : ∀ (u : State) test, Overlaid u (u.dropItems test) := fun u test => by
      obtain ⟨only, link, sub⟩ := State.dropItems_spec u test
      exact .of_quiet only (congrArg Subtitles.active sub :) link
    exact ((emptied.trans (admitted _)).trans (dropped _ _)).trans (.foldl (refreshRegion_overlaid f) _ _)

/-! ### The verdict -/

/-- The record after the judgement of its count (R164). -/
def judgedRecord (time : Option Nat) (r : Record) : Record :=
  if r.impaired = false then { r with counted := true, countTime := time } else r

/-- The open record after the verdict on frame `f` of composition `c`, and after the judgement of the count (R163, R164). -/
def verdictRecord (c : Composition) (f : Nat) (shown : Bool) (time : Option Nat) (r : Record) : Record :=
  if f = c.countFrame then judgedRecord time (r.verdict c f shown) else r.verdict c f shown

/-- Accounting has taken the verdict on frame `f`. -/
structure VerdictTaken (f : Nat) (shown : Bool) (s u : State) : Prop where
  rest   : u = { s with tables := { s.tables with licence := u.tables.licence }, acct := { s.acct with log := u.acct.log },
                        mgmt := u.mgmt }
  flags  : FlagsBut (· = .counted) s u
  record : ∀ r, s.acct.openRecord? = some r →
    u.acct.log = verdictRecord s.currentComposition f shown s.clk.booth r :: s.acct.log.tail
  quiet  : f ≠ s.currentComposition.countFrame → u.tables = s.tables

theorem verdict_outcome (r : Record) (c : Composition) (f : Nat) (shown : Bool) : (r.verdict c f shown).outcome = r.outcome := by
  unfold Record.verdict
  split <;> rfl

theorem openRecord_cons {a : Accounting} {r : Record} {l : List Record} (h : r.outcome = .opened) :
    Accounting.openRecord? { a with log := r :: l } = some r := if_pos h

theorem openRecord_outcome {a : Accounting} {r : Record} (h : a.openRecord? = some r) : r.outcome = .opened := by
  unfold Accounting.openRecord? at h
  split at h
  · split at h
    · cases h; assumption
    · cases h
  · cases h

theorem openRecord_log {a : Accounting} {r : Record} (h : a.openRecord? = some r) : a.log = r :: a.log.tail := by
  unfold Accounting.openRecord? at h
  split at h
  · rename_i x rest hl
    split at h
    · cases h; rw [hl]; rfl
    · cases h
  · cases h

/-- The count of an open record is judged (R164). -/
theorem judgeCount_some {s : State} {r : Record} (h : s.acct.openRecord? = some r) :
    s.judgeCount = { s with
      tables := { s.tables with licence := s.judgeCount.tables.licence }
      acct := { s.acct with log := judgedRecord s.clk.booth r :: s.acct.log.tail }
      mgmt := s.judgeCount.mgmt } ∧ FlagsBut (· = .counted) s s.judgeCount := by
  have raised : ∀ v : State, v = { s with
        tables := { s.tables with licence := v.tables.licence }
        acct := { s.acct with log := judgedRecord s.clk.booth r :: s.acct.log.tail } } →
      v.raise .counted = { s with
        tables := { s.tables with licence := (v.raise .counted).tables.licence }
        acct := { s.acct with log := judgedRecord s.clk.booth r :: s.acct.log.tail }
        mgmt := (v.raise .counted).mgmt } ∧ FlagsBut (· = .counted) s (v.raise .counted) := fun v hv => by
    have mgmt : v.mgmt = s.mgmt := (congrArg State.mgmt hv :)
    refine ⟨?_, (FlagsBut.of_mgmt mgmt).trans (.raise v rfl)⟩
    rw [State.raise_eq]
    exact congrArg (fun u : State => { u with mgmt := (v.raise .counted).mgmt }) hv
  unfold State.judgeCount
  rw [h]
  dsimp only
  cases hi : r.impaired with
  | true =>
    have kept : judgedRecord s.clk.booth r = r := if_neg (by simp [hi])
    rw [if_pos rfl, kept, ← openRecord_log h]
    exact ⟨rfl, .of_mgmt rfl⟩
  | false =>
    have counted : judgedRecord s.clk.booth r = { r with counted := true, countTime := s.clk.booth } := if_pos hi
    rw [if_neg (by simp), Accounting.updOpen_some h, ← counted]
    cases r.licence with
    | none => exact raised _ rfl
    | some i => exact raised _ rfl

theorem accountVerdict_taken (s : State) (f : Nat) (shown : Bool) : VerdictTaken f shown s (s.accountVerdict f shown) := by
  unfold State.accountVerdict
  dsimp only
  cases open_ : s.acct.openRecord? with
  | none =>
    have unjudged : s.judgeCount = s := by rw [State.judgeCount, open_]
    rw [Accounting.updOpen_none open_]
    change VerdictTaken f shown s (if f = s.currentComposition.countFrame then s.judgeCount else s)
    rw [unjudged, ite_self]
    exact ⟨rfl, .of_mgmt rfl, fun r hr => (nomatch hr.symm.trans open_), fun _ => rfl⟩
  | some r =>
    rw [Accounting.updOpen_some open_]
    have log : ∀ x, s.acct.openRecord? = some x → x = r := fun x hx => Option.some.inj (hx.symm.trans open_)
    split
    · rename_i counts
      obtain ⟨rest, flags⟩ := judgeCount_some
        (s := { s with acct := { s.acct with log := r.verdict s.currentComposition f shown :: s.acct.log.tail } })
        (openRecord_cons ((verdict_outcome ..).trans (openRecord_outcome open_)))
      refine ⟨?_, flags, fun x hx => ?_, fun c => absurd counts c⟩
      · rw [rest]
      · rw [log x hx, rest]
        rw [verdictRecord, if_pos counts]
        rfl
    · rename_i counts
      refine ⟨rfl, .of_mgmt rfl, fun x hx => ?_, fun _ => rfl⟩
      rw [log x hx, verdictRecord, if_neg counts]

/-! ### The repeat count and the stall -/

/-- The repeat count after the verdict on frame `f`, before a stall clears it (R62). -/
def repeatsAfter (s : State) (f : Nat) : Nat := if s.verdict f then 0 else s.repeats + 1

/-- The verdict on frame `f` raises the stall trigger (R63). -/
def StallsAt (s : State) (f : Nat) : Prop := s.tables.settings.stallLimit < repeatsAfter s f

/-- The fader after the hold event (R95). -/
def heldFader (f : Fader) : Fader := if f.muted then f else { f with saved := f.target, value := 0, target := 0 }

/-- What the end of a verdict's work leaves in the show and the fader: the stall, or nothing but the repeat count. -/
structure ShowAfter (f : Nat) (s u : State) : Prop where
  stalled : StallsAt s f → u.seq = { s.seq with state := .stalled, stallTimer := some 0 } ∧ u.repeats = 0 ∧
    u.snd.fader = heldFader s.snd.fader ∧ flagSet u.mgmt.flags .stall = true
  goes    : ¬ StallsAt s f → u.seq = s.seq ∧ u.repeats = repeatsAfter s f ∧ u.snd.fader = s.snd.fader ∧
    flagSet u.mgmt.flags .stall = flagSet s.mgmt.flags .stall

theorem countRepeat_stalls {s : State} {shown : Bool} (h : s.tables.settings.stallLimit < if shown then 0 else s.repeats + 1) :
    s.countRepeat shown = { s with
      seq := { s.seq with state := .stalled, stallTimer := some 0 }, repeats := 0
      snd := { s.snd with fader := heldFader s.snd.fader }, mgmt := (s.countRepeat shown).mgmt } ∧
    FlagsBut (· = .stall) s (s.countRepeat shown) ∧ flagSet (s.countRepeat shown).mgmt.flags .stall = true := by
  have stalls : s.countRepeat shown = ({ s with repeats := if shown then 0 else s.repeats + 1 }).enterStalled := if_pos h
  have mgmt : ∀ v : State, v.enterStalled.mgmt = ((v.updSeq fun q =>
      { q with state := .stalled, stallTimer := some 0 }).raise .stall).mgmt := fun v => rfl
  rw [stalls]
  refine ⟨?_, fun x hx => ?_, ?_⟩
  · unfold State.enterStalled
    rw [State.raise_eq]
    rfl
  · rw [mgmt]
    exact FlagsBut.raise (A := (· = .stall)) _ rfl x hx
  · rw [mgmt, State.raise_flags, flagSet_withFlag]
    simp

theorem countRepeat_goes {s : State} {shown : Bool} (h : ¬ s.tables.settings.stallLimit < if shown then 0 else s.repeats + 1) :
    s.countRepeat shown = { s with repeats := if shown then 0 else s.repeats + 1 } := if_neg h

/-! ### A presented frame -/

/-- The marker of a frame's verdict (R65). -/
def verdictMark (s : State) (f : Nat) : LinkRecord :=
  if s.verdict f then .showFrame ((s.currentTrack .picture).getD 0) f else .repeatFrame ((s.currentTrack .picture).getD 0) f

/-- The work on a presented frame `f`: Frame Presentation, the sound block and the subtitle engine's work (R41). -/
def frameWork (m : Mix) (f : Nat) (s : State) : State := ((s.present f).frameBlock m f).subtitleWork f

/-- What the work on a presented frame leaves. -/
structure FrameShown (f : Nat) (s u : State) : Prop where
  rest   : u = { s with
    tables := { s.tables with licence := u.tables.licence }
    tracks := u.tracks, freeCells := u.freeCells, seq := u.seq, repeats := u.repeats
    snd := { s.snd with lanes := u.snd.lanes, fader := u.snd.fader }
    sub := u.sub, acct := { s.acct with log := u.acct.log }, mgmt := u.mgmt, link := u.link }
  show_  : ShowAfter f s u
  record : ∀ r, s.acct.openRecord? = some r →
    u.acct.log = verdictRecord s.currentComposition f (s.verdict f) s.clk.booth r :: s.acct.log.tail
  quiet  : f ≠ s.currentComposition.countFrame → u.tables = s.tables
  window : ∀ k w, s.currentTrack .picture = some k → k < s.tracks.length → (s.track k).window = some w →
    (u.track k).window = some (w.advance f)
  link   : ∃ rest : List LinkRecord, (∀ x ∈ rest, overlay x = true) ∧ u.link = s.link ++ [verdictMark s f] ++ rest
  active : u.sub.active = s.sub.active
  flags  : FlagsBut (fun x => x = .stall ∨ x = .counted ∨ x = .soundGap ∨ x = .clip) s u

theorem advanceWindows_rest (s : State) (f : Nat) : s.advanceWindows f = { s with tracks := (s.advanceWindows f).tracks } := by
  unfold State.advanceWindows
  split <;> rfl

theorem advanceWindows_window {s : State} {k : Nat} {w : Window} (f : Nat) (hk : s.currentTrack .picture = some k)
    (hl : k < s.tracks.length) (hw : (s.track k).window = some w) : ((s.advanceWindows f).track k).window = some (w.advance f) := by
  unfold State.advanceWindows State.updWindow
  rw [hk]
  dsimp only
  rw [State.track_updTrack_same _ hl, hw]
  rfl

theorem currentTrack_congr {s u : State} (ht : u.tables.track = s.tables.track) (hs : u.seq.currentSlot = s.seq.currentSlot)
    (kind : TrackKind) : u.currentTrack kind = s.currentTrack kind := by
  have entry : ∀ k, u.trackEntry k = s.trackEntry k := fun k => by rw [State.trackEntry, State.trackEntry, ht]
  simp only [State.currentTrack, State.trackOf, entry, hs]

/-- The repeat count has followed a verdict on frame `f` of `s`, in a state with the show and the fader of `s`. -/
theorem countRepeat_after {s v : State} {f : Nat} (settings : v.tables.settings = s.tables.settings) (seq : v.seq = s.seq)
    (repeats : v.repeats = s.repeats) (sound : v.snd = s.snd)
    (stall : flagSet v.mgmt.flags .stall = flagSet s.mgmt.flags .stall) {u : State} (hu : u = v.countRepeat (s.verdict f)) :
    u = { v with seq := u.seq, repeats := u.repeats, snd := { v.snd with fader := u.snd.fader }, mgmt := u.mgmt } ∧
    ShowAfter f s u ∧ u.seq.currentSlot = s.seq.currentSlot ∧ FlagsBut (· = .stall) v u := by
  subst hu
  by_cases stalls : StallsAt s f
  · obtain ⟨rest, flags, raised⟩ := countRepeat_stalls (s := v) (shown := s.verdict f) (by rw [settings, repeats]; exact stalls)
    generalize v.countRepeat (s.verdict f) = u at rest flags raised
    have useq : u.seq = { s.seq with state := .stalled, stallTimer := some 0 } := seq ▸ (congrArg State.seq rest :)
    have urepeats : u.repeats = 0 := (congrArg State.repeats rest :)
    have ufader : u.snd.fader = heldFader s.snd.fader := sound ▸ (congrArg (fun u : State => u.snd.fader) rest :)
    refine ⟨?_, ⟨fun _ => ⟨useq, urepeats, ufader, raised⟩, fun c => absurd stalls c⟩, by rw [useq]; rfl, flags⟩
    rw [useq, urepeats, ufader, ← seq, ← sound]
    exact rest
  · have goes := countRepeat_goes (s := v) (shown := s.verdict f) (by rw [settings, repeats]; exact stalls)
    rw [goes]
    refine ⟨rfl, ⟨fun c => absurd c stalls, fun _ => ⟨seq, ?_, by rw [← sound], stall⟩⟩, by rw [seq], .of_mgmt rfl⟩
    rw [repeatsAfter, repeats]

/-- Frame Presentation's own part (R61). -/
theorem present_shown (s : State) (f : Nat) : FrameShown f s (s.present f) ∧ (s.present f).sub = s.sub ∧
    (s.present f).link = s.link ++ [verdictMark s f] := by
  have mark : s.sendVerdict f (s.verdict f) = s.send (verdictMark s f) := rfl
  have verdict := accountVerdict_taken (s.send (verdictMark s f)) f (s.verdict f)
  unfold State.present
  dsimp only
  rw [mark]
  generalize (s.send (verdictMark s f)).accountVerdict f (s.verdict f) = v at verdict
  obtain ⟨rest, show_, slot, flags⟩ := countRepeat_after (s := s) (v := v) (f := f)
    (congrArg (fun u : State => u.tables.settings) verdict.rest :) (congrArg State.seq verdict.rest :)
    (congrArg State.repeats verdict.rest :) (congrArg State.snd verdict.rest :) (verdict.flags .stall (by simp)) rfl
  generalize v.countRepeat (s.verdict f) = u at rest show_ slot flags
  have entries : v.tables.track = s.tables.track := (congrArg (fun u : State => u.tables.track) verdict.rest :)
  have current := currentTrack_congr (s := s) (u := u) ((congrArg (fun u : State => u.tables.track) rest).trans entries) slot
  have taken : v.tracks = s.tracks := (congrArg State.tracks verdict.rest :)
  have tracks : u.tracks = s.tracks := (congrArg State.tracks rest).trans taken
  have window := fun k w hk hl hw => advanceWindows_window (s := u) (k := k) (w := w) f ((current .picture).trans hk)
    (by rw [tracks]; exact hl) ((congrArg Track.window (State.track_congr tracks k)).trans hw)
  have advanced := advanceWindows_rest u f
  generalize u.advanceWindows f = p at advanced window
  obtain ⟨passed, rfl⟩ : ∃ l, p = { u with tracks := l } := ⟨_, advanced⟩
  obtain ⟨licence, log, mv, hv⟩ : ∃ licence log m, v = { s.send (verdictMark s f) with
    tables := { s.tables with licence := licence }, acct := { s.acct with log := log }, mgmt := m } := ⟨_, _, _, verdict.rest⟩
  obtain ⟨seq, repeats, fader, mu, hu⟩ : ∃ seq repeats fader m, u = { v with
    seq := seq, repeats := repeats, snd := { v.snd with fader := fader }, mgmt := m } := ⟨_, _, _, _, rest⟩
  subst hu hv
  exact ⟨⟨rfl, ⟨show_.stalled, show_.goes⟩, verdict.record, verdict.quiet, window, ⟨[], by simp, by simp [State.send]⟩, rfl,
    ((verdict.flags.mono fun x h => .inr (.inl h)).trans (flags.mono fun x h => .inl h))⟩, rfl, rfl⟩

theorem frameWork_shown (m : Mix) (f : Nat) (s : State) : FrameShown f s (frameWork m f s) := by
  obtain ⟨shown, -, link⟩ := present_shown s f
  unfold frameWork
  have block := frameBlock_formed (s.present f) m f
  generalize s.present f = p at shown block link
  generalize p.frameBlock m f = b at block
  have laid := subtitleWork_overlaid b f
  generalize b.subtitleWork f = u at laid
  have windows : ∀ k, (u.track k).window = (p.track k).window := fun k => by rw [laid.only.tracks k]; exact block.windows k
  have flags : FlagsBut (fun x => x = .soundGap ∨ x = .clip) p u := block.flags.trans (.of_mgmt (congrArg State.mgmt laid.only.rest :))
  obtain ⟨tracks, cells, mgmt, lanes, hb⟩ : ∃ tracks cells m lanes, b = { p with
    tracks := tracks, freeCells := cells, mgmt := m, snd := { p.snd with lanes := lanes } } := ⟨_, _, _, _, block.rest⟩
  obtain ⟨tracks', cells', sub, records, hu⟩ : ∃ tracks cells sub link, u = { b with
    tracks := tracks, freeCells := cells, sub := sub, link := link } := ⟨_, _, _, _, laid.only.rest⟩
  obtain ⟨rest, overlays, last⟩ := laid.link
  subst hu hb
  refine ⟨?_, ⟨fun h => ?_, fun h => ?_⟩, shown.record, shown.quiet, fun k w hk hl hw => (windows k).trans (shown.window k w hk hl hw),
    ⟨rest, overlays, last.trans (congrArg (· ++ rest) link)⟩, laid.active.trans shown.active,
    shown.flags.trans (flags.mono fun x h => h.elim (fun h => .inr (.inr (.inl h))) fun h => .inr (.inr (.inr h)))⟩
  · exact congrArg (fun v : State => { v with
      tracks := tracks', freeCells := cells', sub := sub, link := records, mgmt := mgmt, snd := { v.snd with lanes := lanes } })
      shown.rest
  · obtain ⟨seq, repeats, fader, stall⟩ := shown.show_.stalled h
    exact ⟨seq, repeats, fader, (flags .stall (by simp)).trans stall⟩
  · obtain ⟨seq, repeats, fader, stall⟩ := shown.show_.goes h
    exact ⟨seq, repeats, fader, (flags .stall (by simp)).trans stall⟩

end Sys2Proof.Safety
end

-- ==== boundaries: the sheet's cues after the work on a frame ====
section
/-! PROOFS. A boundary that presents a frame does what it does without a cue sheet, and then takes the due entries (R127); a pending
hold is handed on after them (R133). -/

namespace Sys2Proof.Safety

open Sys2Proof.Machine

theorem presented_eq (m : Mix) (s : State) : presented m s = frameWork m s.seq.frame
    ((if s.seq.frame = 0 then s.startComposition else s).updSeq fun q => { q with frame := s.seq.frame + 1 }) := rfl

/-! ### The work on a frame reads no sheet -/

theorem map_bare (l : List Composition) : (l.map fun c => { c with sheet := none }).map Composition.bare = l.map Composition.bare := by
  rw [List.map_map]; rfl

/-- Without sheets the cursor stays none at a composition start (R126). -/
theorem withoutSheets_sheet (a : State) : (withoutSheets a).currentComposition.sheet = none := by
  have stripped : ∀ n, ((withoutSheets a).composition n).sheet = none := fun n => by
    have e : ((a.tables.composition.map Composition.bare).getD n Composition.invalid).sheet = none := by
      rw [List.getD_eq_getElem?_getD, List.getElem?_map]
      cases a.tables.composition[n]? <;> rfl
    exact e
  unfold State.currentComposition
  split
  · exact stripped _
  · rfl

/-- Two runs, with the sheets and without. -/
theorem withoutSheets_alike : AlikeStart (fun _ => True) fun a b => b = withoutSheets a where
  agree := by rintro a _ rfl; exact { Agree.refl a with composition := map_bare _ }
  raise := by
    rintro a _ x - rfl
    have mgmt : (withoutSheets a).mgmt = a.mgmt := rfl
    unfold State.raise
    rw [mgmt]
    split
    · rfl
    · dsimp only
      split <;> rfl
  send := by rintro a _ r rfl; rfl
  tracks := by rintro a _ l - rfl; rfl
  cells := by rintro a _ n rfl; rfl
  sub := by rintro a _ x - rfl; rfl
  seq := by rintro a _ g - rfl; rfl
  period := by rintro a _ p rfl; rfl
  repeats := by rintro a _ n rfl; rfl
  lanes := by rintro a _ l - - rfl; rfl
  acct := by rintro a _ x rfl; rfl
  licence := by rintro a _ i rfl; rfl
  cursor := by rintro a _ rfl; rfl
  fader := by rintro a _ f - - rfl; rfl
  map := by rintro a _ m rfl; rfl
  sheet := by
    rintro a _ rfl
    rw [withoutSheets_sheet]
    rfl

/-! ### Entries taken beside the end of another boundary -/

/-- The same part with another cursor, another countdown and another management block. -/
def besideBoundary (k : Option Cursor) (n : Nat) (m : Mgmt) (a : State) : State :=
  { a with cue := { a.cue with cursor := k }, clk := { a.clk with countdown := n }, mgmt := m }

/-- No entry of a flat run reads them, and it raises the same flags. -/
theorem besideBoundary_alike (k : Option Cursor) (n : Nat) :
    AlikeEntry (fun _ => True) fun a b => ∃ m, b = besideBoundary k n m a ∧
      ∀ x, x ≠ .showState → flagSet m.flags x = flagSet a.mgmt.flags x where
  agree := by
    rintro a _ ⟨m, rfl, -⟩
    exact { Agree.refl a with }
  raise := by
    rintro a _ f - ⟨m, rfl, flags⟩
    refine ⟨((besideBoundary k n m a).raise f).mgmt, ?_, fun x hx => ?_⟩
    · rw [State.raise_eq, State.raise_eq a]
      rfl
    · rw [State.raise_flags, State.raise_flags, flagSet_withFlag, flagSet_withFlag]
      exact congrArg (· || decide (x = f)) (flags x hx)
  send := by rintro a _ r ⟨m, rfl, flags⟩; exact ⟨m, rfl, flags⟩
  tracks := by rintro a _ l - ⟨m, rfl, flags⟩; exact ⟨m, rfl, flags⟩
  cells := by rintro a _ x ⟨m, rfl, flags⟩; exact ⟨m, rfl, flags⟩
  sub := by rintro a _ x - ⟨m, rfl, flags⟩; exact ⟨m, rfl, flags⟩
  fader := by rintro a _ f ⟨m, rfl, flags⟩ -; exact ⟨m, rfl, flags⟩
  map := by rintro a _ x ⟨m, rfl, flags⟩; exact ⟨m, rfl, flags⟩
  mark := by rintro a _ x ⟨m, rfl, flags⟩; exact ⟨m, rfl, flags⟩
  hold := by rintro a _ ⟨m, rfl, flags⟩; exact ⟨m, rfl, flags⟩
  booth := by rintro a _ l g ⟨m, rfl, flags⟩; exact ⟨m, rfl, flags⟩

theorem takeDue_besideBoundary {a : State} {m : Mgmt} (k : Option Cursor) (n : Nat)
    (flags : ∀ x, x ≠ .showState → flagSet m.flags x = flagSet a.mgmt.flags x) (c : Cursor) (f : Nat) :
    ∃ m', takeDue (besideBoundary k n m a) c f = { takeDue a c f with
        clk := { (takeDue a c f).clk with countdown := n }, mgmt := m' } ∧
      ∀ x, x ≠ .showState → flagSet m'.flags x = flagSet (takeDue a c f).mgmt.flags x := by
  obtain ⟨m', e, flags⟩ := (besideBoundary_alike k n).takeFlats ⟨m, rfl, flags⟩ trivial trivial
    ((dueEntries a c f).flatMap fun i => flatRun a Config.macroDepth i 1)
  refine ⟨m', ?_, flags⟩
  have due : dueEntries (besideBoundary k n m a) = dueEntries a := dueEntries_congr rfl
  have run : flatRun (besideBoundary k n m a) = flatRun a := flatRun_congr rfl
  unfold takeDue
  rw [due, run]
  dsimp only
  rw [e]
  rfl

/-- The end of an expansion reads neither the clock nor the management block, and leaves them alone (R133). -/
theorem endExpansion_mgmt (a : State) : a.endExpansion.mgmt = a.mgmt ∧ a.endExpansion.clk = a.clk := by
  unfold State.endExpansion State.holdShow
  dsimp only
  split
  · split <;> exact ⟨rfl, rfl⟩
  · exact ⟨rfl, rfl⟩

theorem endExpansion_beside (a : State) (c : Clock) (m : Mgmt) :
    State.endExpansion { a with clk := c, mgmt := m } = { a.endExpansion with clk := c, mgmt := m } := by
  unfold State.endExpansion State.holdShow
  have seq : (({ a with clk := c, mgmt := m } : State).updCue fun c => { c with stack := [], pendingHold := false }).seq.state =
    (a.updCue fun c => { c with stack := [], pendingHold := false }).seq.state := rfl
  dsimp only
  split
  · rw [seq]
    split <;> rfl
  · rfl

/-- The clock stands while the due entries are taken. -/
theorem takeDue_clk (a : State) (c : Cursor) (f : Nat) : (takeDue a c f).clk = a.clk :=
    (takeFlats_kept _ a).2

/-- A boundary that takes the due entries of a sheet after work that reads no sheet. -/
theorem sheetTaken_of_work {s p : State} {c : Cursor} {f : Nat} (h : s.inReset = false)
    (done : boundaryDone s = (takeDue p c f).endExpansion.reloadCountdown)
    (bare : boundaryDone (withoutSheets s) = (withoutSheets p).endExpansion.reloadCountdown)
    (stack : p.cue.stack = []) (pending : p.cue.pendingHold = false)
    (tables : p.tables = { s.tables with licence := p.tables.licence }) :
    SheetTaken s (event State.frameBoundary s) c f := by
  have reported := boundary_reported h
  have bareReported := boundary_reported (s := withoutSheets s) h
  rw [endExpansion_quiet (by exact pending)] at bare
  have ended : ((withoutSheets p).updCue fun c => { c with stack := [], pendingHold := false }) = withoutSheets p := by
    rw [← stack, ← pending]
    rfl
  rw [ended] at bare
  have rest := bareReported.rest
  have flags := bareReported.flags
  rw [bare] at rest flags
  have ran := boundary_exec (s := withoutSheets s) h
  generalize event State.frameBoundary (withoutSheets s) = t₀ at rest flags ran
  have restored : { t₀ with tables := { s.tables with licence := t₀.tables.licence } } =
      besideBoundary none p.clk.period t₀.mgmt p := by
    have licence : t₀.tables.licence = p.tables.licence := (congrArg (fun u : State => u.tables.licence) rest :)
    rw [licence, ← tables, rest]
    rfl
  obtain ⟨m, taken, takenFlags⟩ := takeDue_besideBoundary (a := p) none p.clk.period (m := t₀.mgmt) flags c f
  have clk := takeDue_clk p c f
  have trest := reported.rest
  have tflags := reported.flags
  obtain ⟨mgmt, eclk⟩ := endExpansion_mgmt (takeDue p c f)
  have loaded : (takeDue p c f).endExpansion.reloadCountdown = { (takeDue p c f).endExpansion with
      clk := { (takeDue p c f).clk with countdown := p.clk.period } } := by
    rw [State.reloadCountdown, eclk, clk]
  rw [done, loaded] at trest tflags
  refine ⟨t₀, _, ran, rfl, ?_, fun x hx => ?_, reported.enables⟩
  · rw [restored, taken, endExpansion_beside]
    exact trest
  · rw [restored, taken, tflags x hx, takenFlags x hx]
    exact congrArg (fun m : Mgmt => flagSet m.flags x) mgmt

end Sys2Proof.Safety
end

-- ==== boundaries: a composition starts ====
section
/-! PROOFS. What the start of a composition leaves (R42, R126, R161, R162), and the cues of the boundary that presents a frame. -/

namespace Sys2Proof.Safety

open Sys2Proof.Machine

/-! ### The start of a composition -/

/-- A record has joined the log, of whatever length (R161). -/
theorem joinLog_joined (s : State) (r : Record) :
    s.joinLog r = { s with acct := (s.joinLog r).acct, mgmt := (s.joinLog r).mgmt } ∧
    (s.joinLog r).acct.log = ({ r with number := s.acct.nextNumber } :: s.acct.log).take 64 ∧
    (s.joinLog r).acct.nextNumber = nextNumber s.acct.nextNumber ∧ (s.joinLog r).acct.lastBarred = s.acct.lastBarred ∧
    FlagsBut (· = .logWrap) s (s.joinLog r) := by
  unfold State.joinLog
  dsimp only
  by_cases room : s.acct.log.length < Config.logRecords
  · rw [if_pos room]
    refine ⟨rfl, (List.take_of_length_le ?_).symm, rfl, rfl, .of_mgmt rfl⟩
    exact Nat.succ_le_of_lt room
  · rw [if_neg room, State.raise_eq]
    refine ⟨rfl, rfl, rfl, rfl, ?_⟩
    exact FlagsBut.raise (A := (· = .logWrap))
      { s with acct := { s.acct with log := s.acct.log.take (Config.logRecords - 1), drops := satInc s.acct.drops } } rfl

/-- The start of composition `c` (R42). -/
structure CompositionStarted (c : Composition) (s u : State) : Prop where
  rest     : u = { s with
    clk := { s.clk with period := samplesPerFrame c.rateCode }
    snd := { s.snd with activeMap := c.map, fader := { s.snd.fader with target := c.fader.getD s.snd.fader.target } }
    cue := { s.cue with cursor := c.sheet.map fun x => ⟨x.1, x.1 + x.2⟩ }
    tracks := u.tracks, freeCells := u.freeCells, sub := u.sub, link := u.link, acct := u.acct, mgmt := u.mgmt }
  length   : u.tracks.length = s.tracks.length
  tracks   : ∀ k, u.track k = { s.track k with cellsHeld := (u.track k).cellsHeld }
  active   : u.sub.active = c.subtitle
  schedule : u.sub.schedule = s.sub.schedule
  link     : u.link = s.link ++ (if s.sub.active = c.subtitle then []
    else (regionNumbers.filter fun r => (s.region r).isSome).map LinkRecord.clearRegion)
  log      : ∃ q : Record, u.acct.log = (q :: s.acct.log).take 64 ∧
    q = { s.newRecord .opened with number := s.acct.nextNumber }
  next     : u.acct.nextNumber = nextNumber s.acct.nextNumber
  barred   : u.acct.lastBarred = s.acct.lastBarred
  started  : flagSet u.mgmt.flags .compositionStart = true
  flags    : FlagsBut (fun x => x = .compositionStart ∨ x = .logWrap) s u

/-- An event names the active track (R115, R116). -/
theorem nameActive_named (s : State) (t : Option Nat) :
    (s.nameActive t).sub.active = t ∧ (s.nameActive t).sub.schedule = s.sub.schedule ∧
    (s.nameActive t).link = s.link ++ (if s.sub.active = t then []
      else (regionNumbers.filter fun r => (s.region r).isSome).map LinkRecord.clearRegion) := by
  unfold State.nameActive
  split
  · rename_i same
    exact ⟨same, rfl, (List.append_nil _).symm⟩
  · obtain ⟨-, sub, -, -, link⟩ := State.emptyRegions_spec { s with sub := { s.sub with active := t } } fun _ => true
    refine ⟨(congrArg Subtitles.active sub :), (congrArg Subtitles.schedule sub :), link.trans ?_⟩
    have held : ∀ r, (({ s with sub := { s.sub with active := t } } : State).region r).any (fun _ => true) =
        (s.region r).isSome := fun r => by
      change (s.region r).any (fun _ => true) = _
      cases s.region r <;> rfl
    simp only [held]

/-- The start before its subtitle track: the period, the flag, the map and the fader's target. -/
def startSound (c : Composition) (s : State) : State :=
  (((s.setPeriod (samplesPerFrame c.rateCode)).raise .compositionStart).activateMap c.map).startFader c.fader

theorem startSound_eq (c : Composition) (s : State) : startSound c s = { s with
    clk := { s.clk with period := samplesPerFrame c.rateCode }
    snd := { s.snd with activeMap := c.map, fader := { s.snd.fader with target := c.fader.getD s.snd.fader.target } }
    mgmt := ((s.setPeriod (samplesPerFrame c.rateCode)).raise .compositionStart).mgmt } := by
  unfold startSound
  rw [State.raise_eq]
  cases c.fader <;> rfl

theorem startComposition_eq (s : State) : s.startComposition =
    (((startSound s.currentComposition s).nameActive s.currentComposition.subtitle).updCue fun k =>
      { k with cursor := s.currentComposition.sheet.map fun x => { next := x.1, stop := x.1 + x.2 } }).openRecord := rfl

theorem startComposition_started (s : State) : CompositionStarted s.currentComposition s s.startComposition := by
  rw [startComposition_eq]
  have sound := startSound_eq s.currentComposition s
  have flags : FlagsBut (· = .compositionStart) s (startSound s.currentComposition s) := fun x hx => by
    rw [sound]
    exact FlagsBut.raise (A := (· = .compositionStart)) (s.setPeriod _) rfl x hx
  have raised : flagSet (startSound s.currentComposition s).mgmt.flags .compositionStart = true := by
    rw [sound]
    simp
  generalize startSound s.currentComposition s = v at sound flags raised
  obtain ⟨active, schedule, link⟩ := nameActive_named v s.currentComposition.subtitle
  have only := nameActive_rest v s.currentComposition.subtitle
  generalize v.nameActive s.currentComposition.subtitle = w at active schedule link only
  have wtables : w.tables = s.tables := by rw [only.rest, sound]
  have wseq : w.seq = s.seq := by rw [only.rest, sound]
  have wbooth : w.clk.booth = s.clk.booth := by rw [only.rest, sound]
  have opens : ∀ g, (w.updCue g).openRecord = (w.updCue g).joinLog (s.newRecord .opened) := fun g => by
    have record : (w.updCue g).newRecord .opened = w.newRecord .opened := rfl
    rw [State.openRecord, record, State.newRecord, State.newRecord, currentComposition_congr (congrArg _ wtables) wseq, wseq,
      wbooth]
  rw [opens]
  obtain ⟨rest, log, next, barred, wrap⟩ := joinLog_joined (w.updCue fun k =>
    { k with cursor := s.currentComposition.sheet.map fun x => ⟨x.1, x.1 + x.2⟩ }) (s.newRecord .opened)
  generalize State.joinLog _ _ = u at rest log next barred wrap
  obtain ⟨tracks, cells, sub, records, hw⟩ : ∃ tracks cells sub link, w = { v with
    tracks := tracks, freeCells := cells, sub := sub, link := link } := ⟨_, _, _, _, only.rest⟩
  obtain ⟨m, hv⟩ : ∃ m, v = { s with
    clk := { s.clk with period := samplesPerFrame s.currentComposition.rateCode }
    snd := { s.snd with
      activeMap := s.currentComposition.map
      fader := { s.snd.fader with target := s.currentComposition.fader.getD s.snd.fader.target } }
    mgmt := m } := ⟨_, sound⟩
  subst hw hv
  obtain ⟨acct, mu, hu⟩ : ∃ acct m, u = { s with
    clk := { s.clk with period := samplesPerFrame s.currentComposition.rateCode }
    snd := { s.snd with
      activeMap := s.currentComposition.map
      fader := { s.snd.fader with target := s.currentComposition.fader.getD s.snd.fader.target } }
    cue := { s.cue with cursor := s.currentComposition.sheet.map fun x => ⟨x.1, x.1 + x.2⟩ }
    tracks := tracks, freeCells := cells, sub := sub, link := records, acct := acct, mgmt := m } := ⟨_, _, rest⟩
  subst hu
  exact ⟨rfl, only.length, only.tracks, active, schedule, link, ⟨_, log, rfl⟩, next, barred,
    (wrap .compositionStart (by simp)).trans raised, (flags.mono fun x h => .inl h).trans (wrap.mono fun x h => .inr h)⟩

/-! ### Cues taken -/

/-- The tracks that have changed had an item in the display set, and no item has entered it. -/
def ItemsLeft (s u : State) : Prop :=
  (∀ k, u.track k = s.track k ∨ ∃ y, some y ∈ s.sub.regions ∧ y.item.track = k) ∧
  ∀ y, some y ∈ u.sub.regions → some y ∈ s.sub.regions

theorem ItemsLeft.refl (s : State) : ItemsLeft s s := ⟨fun _ => .inl rfl, fun _ h => h⟩

theorem ItemsLeft.trans {s u v : State} (h : ItemsLeft s u) (g : ItemsLeft u v) : ItemsLeft s v := by
  refine ⟨fun k => ?_, fun y hy => h.2 y (g.2 y hy)⟩
  rcases g.1 k with e | ⟨y, hy, hk⟩
  · exact (h.1 k).imp_left e.trans
  · exact .inr ⟨y, h.2 y hy, hk⟩

theorem emptyRegion_left (test : Item → Bool) (s : State) (r : Nat) : ItemsLeft s (State.emptyRegion test s r) := by
  unfold State.emptyRegion
  cases h : s.region r with
  | none => exact .refl s
  | some x =>
    dsimp only
    split
    · have held : some x ∈ s.sub.regions := by
        rw [State.region, List.getD_eq_getElem?_getD] at h
        cases hx : s.sub.regions[r]? with
        | none => rw [hx] at h; cases h
        | some y => rw [hx] at h; exact List.mem_of_getElem? (hx.trans (congrArg some h))
      refine ⟨fun k => ?_, fun y hy => ?_⟩
      · by_cases hk : x.item.track = k
        · exact .inr ⟨x, held, hk⟩
        · refine .inl ?_
          rw [State.track_returnCells, if_neg fun c => hk c.1.symm]
          rfl
      · exact (List.mem_or_eq_of_mem_set hy).resolve_right (by simp)
    · exact .refl s

theorem emptyRegions_left (s : State) (test : Item → Bool) : ItemsLeft s (s.emptyRegions test) := by
  unfold State.emptyRegions
  generalize regionNumbers = l
  induction l generalizing s with
  | nil => exact .refl s
  | cons r l ih => exact (emptyRegion_left test s r).trans (ih _)

theorem nameActive_left (s : State) (t : Option Nat) : ItemsLeft s (s.nameActive t) := by
  unfold State.nameActive
  split
  · exact .refl s
  · have named : ItemsLeft s { s with sub := { s.sub with active := t } } := ⟨fun _ => .inl rfl, fun _ h => h⟩
    exact named.trans (emptyRegions_left _ _)

/-- What cues leave: the sound path's map and fader, the lines and generators, the subtitle engine with its records, the cue engine,
and the two flags of the cue engine (R130 to R135). -/
structure CuesTaken (s u : State) : Prop where
  rest   : u = { s with
    tracks := u.tracks, freeCells := u.freeCells, sub := u.sub, link := u.link, mgmt := u.mgmt, cue := u.cue
    snd := { s.snd with activeMap := u.snd.activeMap, fader := u.snd.fader }
    booth := { s.booth with cueLevels := u.booth.cueLevels, generators := u.booth.generators } }
  tracks : ∀ k, u.track k = { s.track k with cellsHeld := (u.track k).cellsHeld }
  link   : ∃ rest : List LinkRecord, (∀ x ∈ rest, overlay x = true) ∧ u.link = s.link ++ rest
  left   : ItemsLeft s u
  flags  : FlagsBut (fun x => x = .cueMark ∨ x = .cueNest) s u

/-- What changes none of the tracks, the regions, the link and the flags. -/
theorem CuesTaken.of_quiet {s u : State} (rest : u = { s with
      cue := u.cue
      snd := { s.snd with activeMap := u.snd.activeMap, fader := u.snd.fader }
      booth := { s.booth with cueLevels := u.booth.cueLevels, generators := u.booth.generators } }) : CuesTaken s u := by
  obtain ⟨cue, map, fader, levels, generators, hu⟩ : ∃ cue map fader levels generators, u = { s with
      cue := cue, snd := { s.snd with activeMap := map, fader := fader }
      booth := { s.booth with cueLevels := levels, generators := generators } } := ⟨_, _, _, _, _, rest⟩
  subst hu
  exact ⟨rfl, fun _ => rfl, ⟨[], by simp, (List.append_nil _).symm⟩, ⟨fun _ => .inl rfl, fun _ h => h⟩, .of_mgmt rfl⟩

theorem CuesTaken.refl (s : State) : CuesTaken s s := .of_quiet rfl

theorem CuesTaken.trans {s u v : State} (h : CuesTaken s u) (g : CuesTaken u v) : CuesTaken s v := by
  obtain ⟨a, ha, la⟩ := h.link
  obtain ⟨b, hb, lb⟩ := g.link
  refine ⟨?_, fun k => ?_, ⟨a ++ b, fun x hx => (List.mem_append.mp hx).elim (ha x) (hb x), by rw [lb, la, List.append_assoc]⟩,
    h.left.trans g.left, h.flags.trans g.flags⟩
  · have e := g.rest
    rw [h.rest] at e
    exact e
  · have e := g.tracks k
    rw [h.tracks k] at e
    exact e

theorem raise_taken (s : State) {f : Flag} (hf : f = .cueMark ∨ f = .cueNest) : CuesTaken s (s.raise f) := by
  refine ⟨?_, fun k => by rw [State.raise_track], ⟨[], by simp, by simp⟩, ⟨fun k => .inl (by rw [State.raise_track]), fun y hy => ?_⟩,
    .raise s hf⟩
  · simp only [State.raise_tracks, State.raise_freeCells, State.raise_sub, State.raise_link, State.raise_cue, State.raise_snd,
      State.raise_booth]
    exact State.raise_eq s f
  · rwa [State.raise_sub] at hy

theorem nameActive_taken (s : State) (t : Option Nat) : CuesTaken s (s.nameActive t) := by
  have only := nameActive_rest s t
  obtain ⟨-, -, link⟩ := nameActive_named s t
  refine ⟨?_, only.tracks, ⟨_, fun x hx => ?_, link⟩, nameActive_left s t, .of_mgmt (congrArg State.mgmt only.rest :)⟩
  · rw [only.rest]
  · split at hx
    · cases hx
    · obtain ⟨r, -, rfl⟩ := List.mem_map.mp hx
      rfl

theorem takeFlat_taken (s : State) (c : Option Cue) : CuesTaken s (takeFlat s c) := by
  cases c with
  | none => exact raise_taken s (.inr rfl)
  | some c =>
    cases c with
    | empty => exact .refl s
    | lineLevel line level => exact .of_quiet rfl
    | linePulse g line mode count pulse space =>
      unfold takeFlat State.takeCue State.linePulse
      dsimp only
      split
      · exact .refl s
      · exact .of_quiet rfl
    | pulseStop g => exact .of_quiet rfl
    | fader x k =>
      unfold takeFlat State.takeCue State.faderCue
      dsimp only
      split <;> exact .of_quiet rfl
    | route map => exact .of_quiet rfl
    | subtitles track => exact nameActive_taken s track
    | callMacro first length => exact .refl s
    | mark tag => exact (CuesTaken.of_quiet (s := s) rfl).trans (raise_taken _ (.inl rfl))
    | holdShow => exact .of_quiet rfl

theorem takeFlats_taken (l : List (Option Cue)) (s : State) : CuesTaken s (l.foldl takeFlat s) := by
  induction l generalizing s with
  | nil => exact .refl s
  | cons c l ih => exact (takeFlat_taken s c).trans (ih _)

/-- The cue work of a boundary. -/
theorem cueWork_taken (s : State) (f : Nat) : CuesTaken s (s.cueWork f) := by
  cases hk : s.cue.cursor with
  | none => rw [cueWork_none hk]; exact .refl s
  | some k =>
    rw [State.cueWork, sheetWork_flat f 512 hk]
    exact (takeFlats_taken _ s).trans (.of_quiet rfl)

end Sys2Proof.Safety
end

-- ==== boundaries: a boundary that presents a frame ====
section
/-! PROOFS. A whole boundary that presents a frame: Frame Presentation, the sound block, the subtitle engine's work, the due cues, a
pending hold, the countdown and the report (R26, R41, R127, R133, R181). -/

namespace Sys2Proof.Safety

open Sys2Proof.Machine

/-! ### The end of an expansion -/

/-- An expansion has ended (R133): a pending hold has led from PLAYING to HOLDING, or nothing but the stack and the pending hold has
changed. -/
structure ExpansionEnded (s u : State) : Prop where
  rest  : u = { s with
    seq := { s.seq with state := u.seq.state }
    snd := { s.snd with fader := u.snd.fader }
    cue := { s.cue with stack := [], pendingHold := false } }
  state : u.seq.state = s.seq.state ∨ s.seq.state = .playing ∧ u.seq.state = .holding

theorem endExpansion_ended (s : State) : ExpansionEnded s s.endExpansion := by
  unfold State.endExpansion State.holdShow
  dsimp only
  split
  · split
    · rename_i playing
      exact ⟨rfl, .inr ⟨playing, rfl⟩⟩
    · exact ⟨rfl, .inl rfl⟩
  · exact ⟨rfl, .inl rfl⟩

/-! ### The whole boundary -/

/-- The flags that a boundary that presents a frame may raise, beside those of a composition start. -/
def frameFlags (x : Flag) : Prop :=
  x = .stall ∨ x = .counted ∨ x = .soundGap ∨ x = .clip ∨ x = .cueMark ∨ x = .cueNest ∨ x = .showState

/-- A boundary that answers `t` has presented frame `f` from `y`. -/
structure FramePresented (f : Nat) (y t : State) : Prop where
  rest    : t = { y with
    tables := { y.tables with licence := t.tables.licence }
    tracks := t.tracks, freeCells := t.freeCells, seq := t.seq, repeats := t.repeats
    clk := { y.clk with countdown := y.clk.period }
    snd := { y.snd with lanes := t.snd.lanes, fader := t.snd.fader, activeMap := t.snd.activeMap }
    cue := { t.cue with stack := [], pendingHold := false }
    booth := { y.booth with cueLevels := t.booth.cueLevels, generators := t.booth.generators }
    sub := t.sub, acct := { y.acct with log := t.acct.log }, mgmt := t.mgmt, link := t.link }
  stalled : StallsAt y f → t.seq = { y.seq with state := .stalled, stallTimer := some 0 } ∧ t.repeats = 0 ∧
    flagSet t.mgmt.flags .stall = true
  goes    : ¬ StallsAt y f → (t.seq = y.seq ∨ y.seq.state = .playing ∧ t.seq = { y.seq with state := .holding }) ∧
    t.repeats = repeatsAfter y f
  record  : ∀ r, y.acct.openRecord? = some r →
    t.acct.log = verdictRecord y.currentComposition f (y.verdict f) y.clk.booth r :: y.acct.log.tail
  quiet   : f ≠ y.currentComposition.countFrame → t.tables = y.tables
  window  : ∀ k w, y.currentTrack .picture = some k → k < y.tracks.length → (y.track k).window = some w →
    (t.track k).window = some (w.advance f)
  link    : ∃ rest : List LinkRecord, (∀ x ∈ rest, overlay x = true) ∧ t.link = y.link ++ [verdictMark y f] ++ rest
  flags   : FlagsBut frameFlags y t
  cursor  : ∀ k, y.cue.cursor = some k → k.stop ≤ k.next + 512 →
    t.cue.cursor = some { k with next := k.next + (dueEntries y k f).length }
  calm    : y.cue.cursor = none → t.booth = y.booth ∧ t.cue = { y.cue with stack := [], pendingHold := false } ∧
    t.snd.activeMap = y.snd.activeMap ∧ t.sub.active = y.sub.active

theorem framePresented_of_done {s y : State} {m : Mix} {f : Nat} (h : s.inReset = false)
    (done : boundaryDone s = ((frameWork m f y).cueWork f).endExpansion.reloadCountdown) :
    FramePresented f y (event State.frameBoundary s) := by
  have reported := boundary_reported h
  have trest := reported.rest
  have tflags := reported.flags
  rw [done] at trest tflags
  generalize event State.frameBoundary s = t at trest tflags
  have shown := frameWork_shown m f y
  generalize frameWork m f y = p at shown trest tflags
  have cues := cueWork_taken p f
  have ptables : dueEntries p = dueEntries y := by
    have entry : ∀ i, p.cueEntry i = y.cueEntry i := fun i => by rw [shown.rest]; rfl
    funext k f
    simp only [dueEntries, entry]
  have pcue : p.cue = y.cue := (congrArg State.cue shown.rest :)
  have due : ∀ k, y.cue.cursor = some k → k.stop ≤ k.next + 512 →
      (p.cueWork f).cue.cursor = some { k with next := k.next + (dueEntries y k f).length } := fun k hk hl => by
    rw [cueWork_due (pcue ▸ hk) hl, ← ptables]
    rfl
  have none_due : y.cue.cursor = none → p.cueWork f = p := fun hk => cueWork_none (pcue ▸ hk) f
  generalize p.cueWork f = c at cues due none_due trest tflags
  have ended := endExpansion_ended c
  obtain ⟨mgmt, -⟩ := endExpansion_mgmt c
  generalize c.endExpansion = e at ended mgmt trest tflags
  have flags : FlagsBut frameFlags y t :=
    ((shown.flags.mono fun x h => by unfold frameFlags; tauto).trans (cues.flags.mono fun x h => by unfold frameFlags; tauto)).trans
      fun x hx => (tflags x fun c => hx (by unfold frameFlags; tauto)).trans (congrArg (fun m : Mgmt => flagSet m.flags x) mgmt)
  have stall : flagSet t.mgmt.flags .stall = flagSet p.mgmt.flags .stall :=
    (tflags .stall (by simp)).trans ((congrArg (fun m : Mgmt => flagSet m.flags .stall) mgmt).trans (cues.flags .stall (by simp)))
  obtain ⟨rest, overlays, link⟩ := shown.link
  obtain ⟨more, overlays', link'⟩ := cues.link
  have windows : ∀ k, (c.track k).window = (p.track k).window := fun k => by rw [cues.tracks k]
  have pseq : c.seq = p.seq := (congrArg State.seq cues.rest :)
  obtain ⟨state, fader, he⟩ : ∃ state fader, e = { c with
      seq := { c.seq with state := state }, snd := { c.snd with fader := fader }
      cue := { c.cue with stack := [], pendingHold := false } } := ⟨_, _, ended.rest⟩
  obtain ⟨m', ht⟩ : ∃ m, t = { e.reloadCountdown with mgmt := m } := ⟨_, trest⟩
  obtain ⟨tracks, cells, sub, records, mc, cue, map, fader', levels, generators, hc⟩ :
      ∃ tracks cells sub link m cue map fader levels generators, c = { p with
        tracks := tracks, freeCells := cells, sub := sub, link := link, mgmt := m, cue := cue
        snd := { p.snd with activeMap := map, fader := fader }
        booth := { p.booth with cueLevels := levels, generators := generators } } := ⟨_, _, _, _, _, _, _, _, _, _, cues.rest⟩
  obtain ⟨licence, tracks', cells', seq, repeats, lanes, fader'', sub', log, mp, records', hp⟩ :
      ∃ licence tracks cells seq repeats lanes fader sub log m link, p = { y with
        tables := { y.tables with licence := licence }, tracks := tracks, freeCells := cells, seq := seq, repeats := repeats
        snd := { y.snd with lanes := lanes, fader := fader }, sub := sub, acct := { y.acct with log := log }
        mgmt := m, link := link } := ⟨_, _, _, _, _, _, _, _, _, _, _, shown.rest⟩
  have ran := ended.state
  subst ht he hc hp
  refine ⟨rfl, fun stalls => ?_, fun goes => ?_, shown.record, shown.quiet, fun k w hk hl hw => (windows k).trans (shown.window k w hk hl hw),
    ⟨rest ++ more, fun x hx => (List.mem_append.mp hx).elim (overlays x) (overlays' x), ?_⟩, flags, due,
    fun hk => ?_⟩
  · obtain ⟨left, cleared, -, flag⟩ := shown.show_.stalled stalls
    have left : seq = { y.seq with state := .stalled, stallTimer := some 0 } := left
    subst left
    have stays : state = .stalled := ran.resolve_right fun c => nomatch c.1
    subst stays
    exact ⟨rfl, cleared, stall.trans flag⟩
  · obtain ⟨left, count, -, -⟩ := shown.show_.goes goes
    have left : seq = y.seq := left
    subst left
    refine ⟨ran.imp (fun stays => ?_) fun held => ⟨held.1, ?_⟩, count⟩
    · have stays : state = y.seq.state := stays
      rw [stays]
      rfl
    · have holds : state = .holding := held.2
      rw [holds]
      rfl
  · refine link'.trans ((congrArg (· ++ more) link).trans ?_)
    exact List.append_assoc ..
  · have same := none_due hk
    exact ⟨(congrArg State.booth same :), (congrArg (fun u : State => { u.cue with stack := [], pendingHold := false }) same :),
      (congrArg (fun u : State => u.snd.activeMap) same :), (congrArg (fun u : State => u.sub.active) same :).trans shown.active⟩

/-! ### A boundary in PLAYING or out of a stall -/

/-- The sequencer counts a frame as past (R41). -/
def onward (s : State) : State := s.updSeq fun q => { q with frame := s.seq.frame + 1 }

theorem playFrame_onward {s : State} (m : Mix) (h : 0 < s.seq.frame) :
    s.playFrame m = (frameWork m s.seq.frame (onward s)).cueWork s.seq.frame := by
  rw [playFrame_eq, presented_eq, if_neg (by omega)]
  rfl

/-- A PLAYING boundary with 0 < f < D. -/
theorem boundaryDone_playing {s : State} (hq : s.seq.state = .playing) (h0 : 0 < s.seq.frame)
    (hD : s.seq.frame < s.currentComposition.duration) :
    boundaryDone s = ((frameWork s.mix s.seq.frame (onward (dressed (fadedStep s) s))).cueWork
      s.seq.frame).endExpansion.reloadCountdown := by
  have shows := playBoundary_shows (s := dressed (fadedStep s) s) (m := s.mix) hD
  have steps := playFrame_onward (s := dressed (fadedStep s) s) s.mix h0
  rw [boundaryDone_eq, boundaryWork_playing (by exact hq), shows, steps]
  rfl

/-- The numbers of a range up to the first that fails a test. -/
theorem length_takeWhile_range' (p : Nat → Bool) (a n : Nat) :
    ((List.range' a n).takeWhile p).length ≤ n ∧
    (∀ i, a ≤ i → i < a + ((List.range' a n).takeWhile p).length → p i = true) ∧
    (((List.range' a n).takeWhile p).length < n → p (a + ((List.range' a n).takeWhile p).length) = false) := by
  induction n generalizing a with
  | zero => exact ⟨Nat.le_refl 0, fun i h1 h2 => absurd h2 (Nat.not_lt.mpr h1), fun h => absurd h (Nat.not_lt_zero _)⟩
  | succ n ih =>
    rw [List.range'_succ]
    cases ha : p a with
    | false =>
      rw [List.takeWhile_cons_of_neg (by simp [ha])]
      exact ⟨Nat.zero_le _, fun i h1 h2 => absurd h2 (Nat.not_lt.mpr h1), fun _ => ha⟩
    | true =>
      obtain ⟨length, all, next⟩ := ih (a + 1)
      rw [List.takeWhile_cons_of_pos ha, List.length_cons]
      refine ⟨Nat.succ_le_succ length, fun i h1 h2 => ?_, fun h => ?_⟩
      · rcases Nat.eq_or_lt_of_le h1 with e | e
        · rw [← e]; exact ha
        · exact all i e (by omega)
      · rw [Nat.add_comm _ 1, ← Nat.add_assoc]
        exact next (Nat.lt_of_succ_lt_succ h)

/-- Where the cursor of a sheet stands when its due entries have been taken (R127). -/
theorem dueEntries_cursor (s : State) (c : Cursor) (f : Nat) :
    (∀ i, c.next ≤ i → i < c.next + (dueEntries s c f).length → i < c.stop ∧ (s.cueEntry i).trigger ≤ f) ∧
    (c.next + (dueEntries s c f).length < c.stop → f < (s.cueEntry (c.next + (dueEntries s c f).length)).trigger) := by
  obtain ⟨length, all, next⟩ := length_takeWhile_range' (fun i => decide ((s.cueEntry i).trigger ≤ f)) c.next (c.stop - c.next)
  have same : (dueEntries s c f).length =
      ((List.range' c.next (c.stop - c.next)).takeWhile fun i => decide ((s.cueEntry i).trigger ≤ f)).length := rfl
  rw [← same] at length all next
  exact ⟨fun i h1 h2 => ⟨by omega, of_decide_eq_true (all i h1 h2)⟩,
    fun more => Nat.lt_of_not_le (of_decide_eq_false (next (by omega)))⟩

theorem judgedRecord_rest (time : Option Nat) (r : Record) : judgedRecord time r =
    { r with counted := (judgedRecord time r).counted, countTime := (judgedRecord time r).countTime } := by
  unfold judgedRecord
  split <;> rfl

/-- What a verdict and the judgement of the count leave of a record (R163, R164). -/
theorem verdictRecord_rest (c : Composition) (f : Nat) (shown : Bool) (time : Option Nat) (r : Record) :
    verdictRecord c f shown time r = { r with
      presented := r.presented + 1
      repeated := if shown then r.repeated else r.repeated + 1
      impaired := (verdictRecord c f shown time r).impaired
      counted := (verdictRecord c f shown time r).counted
      countTime := (verdictRecord c f shown time r).countTime } := by
  have taken : r.verdict c f shown = { r with
      presented := r.presented + 1
      repeated := if shown then r.repeated else r.repeated + 1
      impaired := (r.verdict c f shown).impaired } := by
    cases shown <;> rfl
  unfold verdictRecord
  split
  · rw [judgedRecord_rest, taken]
  · rw [taken]

/-- A frame's verdict, by the window entries of its track (R60). -/
theorem verdict_eq {s : State} {k : Nat} {w : Window} (hk : s.currentTrack .picture = some k) (hw : (s.track k).window = some w)
    (f : Nat) : s.verdict f = w.shows f := by
  unfold State.verdict
  rw [hk]
  dsimp only
  rw [hw]

/-- Entries that move on (R57). -/
theorem advanceEntries_eq (l : List Arrival) : advanceEntries l = l.tail ++ if l = [] then [] else [.absent] := by
  cases l <;> rfl

end Sys2Proof.Safety
end

-- ==== boundaries: presented frames and the end of a stall ====
section
/-! PROOFS. A boundary in PLAYING, and the same boundary out of a stall (R46), which differs in the fader alone. -/

namespace Sys2Proof.Safety

open Sys2Proof.Machine

/-! ### Out of a stall -/

/-- The same part with another fader. -/
def withFader (f : Fader) (a : State) : State := { a with snd := { a.snd with fader := f } }

/-- Two runs that differ in the fader alone; the mute latch is the same. -/
theorem withFader_alike : AlikeCue (fun _ => True) fun a b => ∃ f, b = withFader f a ∧ f.muted = a.snd.fader.muted where
  agree := by
    rintro a _ ⟨f, rfl, muted⟩
    exact { Agree.refl a with muted := muted }
  raise := by
    rintro a _ x - ⟨f, rfl, muted⟩
    refine ⟨f, ?_, by rw [State.raise_snd]; exact muted⟩
    have mgmt : (withFader f a).mgmt = a.mgmt := rfl
    unfold State.raise
    rw [mgmt]
    split
    · rfl
    · dsimp only
      split <;> rfl
  send := by rintro a _ r ⟨f, rfl, muted⟩; exact ⟨f, rfl, muted⟩
  tracks := by rintro a _ l - ⟨f, rfl, muted⟩; exact ⟨f, rfl, muted⟩
  cells := by rintro a _ n ⟨f, rfl, muted⟩; exact ⟨f, rfl, muted⟩
  sub := by rintro a _ x - ⟨f, rfl, muted⟩; exact ⟨f, rfl, muted⟩
  seq := by rintro a _ g - ⟨f, rfl, muted⟩; exact ⟨f, rfl, muted⟩
  period := by rintro a _ p ⟨f, rfl, muted⟩; exact ⟨f, rfl, muted⟩
  repeats := by rintro a _ n ⟨f, rfl, muted⟩; exact ⟨f, rfl, muted⟩
  lanes := by rintro a _ l - - ⟨f, rfl, muted⟩; exact ⟨f, rfl, muted⟩
  acct := by rintro a _ x ⟨f, rfl, muted⟩; exact ⟨f, rfl, muted⟩
  licence := by rintro a _ i ⟨f, rfl, muted⟩; exact ⟨f, rfl, muted⟩
  cursor := by rintro a _ ⟨f, rfl, muted⟩; exact ⟨f, rfl, muted⟩
  fader := by rintro a _ g - hg ⟨f, rfl, muted⟩; exact ⟨g f, rfl, hg _ _ muted⟩
  map := by rintro a _ m ⟨f, rfl, muted⟩; exact ⟨f, rfl, muted⟩
  sheet := by rintro a _ ⟨f, rfl, muted⟩; exact ⟨f, rfl, muted⟩
  mark := by rintro a _ n ⟨f, rfl, muted⟩; exact ⟨f, rfl, muted⟩
  hold := by rintro a _ ⟨f, rfl, muted⟩; exact ⟨f, rfl, muted⟩
  booth := by rintro a _ b - - - ⟨f, rfl, muted⟩; exact ⟨f, rfl, muted⟩
  engine := by rintro a _ ⟨f, rfl, -⟩; rfl
  cue := by rintro a _ g ⟨f, rfl, muted⟩; exact ⟨f, rfl, muted⟩

/-- The fader after the resume event (R96). -/
def resumedFader (rate : Nat) (f : Fader) : Fader :=
  if f.muted = false then { f with value := 0, target := f.saved, rate := rate } else f

theorem resumeEvent_withFader (s : State) :
    s.resumeEvent = withFader (resumedFader s.tables.settings.resumeRate s.snd.fader) s := resumeEvent_eq s

/-- The state of a stall that the next boundary ends, as PLAYING would find it. -/
def unstalled (s : State) : State := { s with seq := { s.seq with state := .playing, stallTimer := none } }

/-- What the resume event at the end of a stall leaves (R46, R96). -/
def resumed (s : State) : State :=
  withFader (resumedFader s.tables.settings.resumeRate (fadedStep s)) (dressed (fadedStep s) (unstalled s))

theorem resumed_frame (s : State) : (resumed s).seq.frame = s.seq.frame := rfl

/-- A boundary that ends a stall is the same boundary in PLAYING with the resumed fader (R46). -/
theorem boundaryDone_stalled {s : State} (hq : s.seq.state = .stalled) (ready : s.ready = true) :
    boundaryDone s = ((resumed s).playBoundary s.mix).endExpansion.reloadCountdown ∧
    boundaryDone (unstalled s) =
      ((dressed (fadedStep s) (unstalled s)).playBoundary s.mix).endExpansion.reloadCountdown := by
  have ends := stalledBoundary_ready (s := dressed (fadedStep s) s) (m := s.mix) ready
  constructor
  · rw [boundaryDone_eq, boundaryWork_stalled (by exact hq), ends, resumeEvent_withFader]
    rfl
  · rw [boundaryDone_eq, boundaryWork_playing (by rfl)]
    rfl

/-- What a boundary that ends a stall leaves, but for the fader, is what the boundary in PLAYING leaves. -/
theorem stalled_as_playing {s : State} (h : s.inReset = false) (hq : s.seq.state = .stalled) (ready : s.ready = true) :
    event State.frameBoundary s = { event State.frameBoundary (unstalled s) with
      snd := { (event State.frameBoundary (unstalled s)).snd with fader := (event State.frameBoundary s).snd.fader }
      mgmt := (event State.frameBoundary s).mgmt } ∧
    ∀ x, x ≠ .showState → flagSet (event State.frameBoundary s).mgmt.flags x =
      flagSet (event State.frameBoundary (unstalled s)).mgmt.flags x := by
  obtain ⟨done, done'⟩ := boundaryDone_stalled hq ready
  have muted : (resumedFader s.tables.settings.resumeRate (fadedStep s)).muted = (fadedStep s).muted := by
    unfold resumedFader
    split <;> rfl
  obtain ⟨f, same, -⟩ := withFader_alike.endExpansion (withFader_alike.playBoundary (fun _ _ => trivial) s.mix
    (s := dressed (fadedStep s) (unstalled s)) (u := resumed s) ⟨_, rfl, muted⟩)
  have both : boundaryDone s = withFader f (boundaryDone (unstalled s)) := by
    rw [done, done', same]
    rfl
  have one := boundary_reported h
  have other := boundary_reported (s := unstalled s) h
  generalize event State.frameBoundary s = t at one ⊢
  generalize event State.frameBoundary (unstalled s) = u at other ⊢
  have rest := one.rest
  have flags := one.flags
  rw [both] at rest flags
  obtain ⟨m, hu⟩ : ∃ m, u = { boundaryDone (unstalled s) with mgmt := m } := ⟨_, other.rest⟩
  obtain ⟨m', ht⟩ : ∃ m, t = { withFader f (boundaryDone (unstalled s)) with mgmt := m } := ⟨_, rest⟩
  refine ⟨?_, fun x hx => (flags x hx).trans (other.flags x hx).symm⟩
  rw [ht, hu]
  rfl

/-- The work on a frame leaves the sheet's cursor and the cue store. -/
theorem FrameShown.noCueDue {f : Nat} {s u : State} (h : FrameShown f s u) (quiet : NoCueDue s f) : NoCueDue u f := by
  have cursor : u.cue.cursor = s.cue.cursor := (congrArg (fun v : State => v.cue.cursor) h.rest :)
  have entry : ∀ i, u.cueEntry i = s.cueEntry i := fun i => by rw [h.rest]; rfl
  intro c hc hl
  rw [entry]
  exact quiet c (cursor ▸ hc) hl

/-- With no entry due the work on a frame is the whole boundary's. -/
theorem frameWork_quiet {f : Nat} {s : State} (m : Mix) (quiet : NoCueDue s f) (pending : s.cue.pendingHold = false) :
    ((frameWork m f s).cueWork f).endExpansion =
      (frameWork m f s).updCue fun c => { c with stack := [], pendingHold := false } := by
  have shown := frameWork_shown m f s
  rw [cueWork_quiet (shown.noCueDue quiet), endExpansion_quiet]
  exact (congrArg (fun v : State => v.cue.pendingHold) shown.rest).trans pending

/-- With no entry due a boundary that ends a stall leaves the fader as the resume event and a new stall's hold event have it
(R46, R95, R96). -/
theorem stalled_fader {s : State} (h : s.inReset = false) (hq : s.seq.state = .stalled) (ready : s.ready = true)
    (h0 : 0 < s.seq.frame) (hD : s.seq.frame < s.currentComposition.duration) (quiet : NoCueDue s s.seq.frame) :
    (event State.frameBoundary s).snd.fader =
      if (event State.frameBoundary s).seq.state = .stalled then
        heldFader (resumedFader s.tables.settings.resumeRate (fadedStep s))
      else resumedFader s.tables.settings.resumeRate (fadedStep s) := by
  obtain ⟨done, -⟩ := boundaryDone_stalled hq ready
  have shows := playBoundary_shows (s := resumed s) (m := s.mix) hD
  have steps := playFrame_onward (s := resumed s) s.mix h0
  have still := frameWork_quiet (s := onward (resumed s)) (f := s.seq.frame) s.mix quiet rfl
  rw [shows, steps, resumed_frame, still] at done
  have shown := frameWork_shown s.mix s.seq.frame (onward (resumed s))
  have rest := (boundary_reported h).rest
  rw [done] at rest
  generalize frameWork _ _ _ = p at shown rest
  generalize event State.frameBoundary s = t at rest ⊢
  have tseq : t.seq = p.seq := (congrArg State.seq rest :)
  have tfader : t.snd.fader = p.snd.fader := (congrArg (fun u : State => u.snd.fader) rest :)
  rw [tseq, tfader]
  by_cases stalls : StallsAt (onward (resumed s)) s.seq.frame
  · obtain ⟨seq, -, fader, -⟩ := shown.show_.stalled stalls
    rw [seq, fader, if_pos rfl]
    rfl
  · obtain ⟨seq, -, fader, -⟩ := shown.show_.goes stalls
    rw [seq, fader]
    exact (if_neg (by simp [onward, resumed, withFader, dressed, unstalled])).symm

/-- What O39 says of the fader. -/
theorem stalled_fader_eq {s : State} (h : s.inReset = false) (hq : s.seq.state = .stalled) (ready : s.ready = true)
    (h0 : 0 < s.seq.frame) (hD : s.seq.frame < s.currentComposition.duration) (quiet : NoCueDue s s.seq.frame) :
    (event State.frameBoundary s).snd.fader = if s.snd.fader.muted then (event State.frameBoundary (unstalled s)).snd.fader
      else { s.snd.fader with
        value := 0, rate := s.tables.settings.resumeRate
        target := if (event State.frameBoundary (unstalled s)).seq.state = .stalled then 0 else s.snd.fader.saved } := by
  obtain ⟨rest, -⟩ := stalled_as_playing h hq ready
  have state : (event State.frameBoundary s).seq.state = (event State.frameBoundary (unstalled s)).seq.state :=
    (congrArg (fun u : State => u.seq.state) rest :)
  cases muted : s.snd.fader.muted with
  | true =>
    rw [if_pos rfl]
    obtain ⟨done, done'⟩ := boundaryDone_stalled hq ready
    have unchanged : resumed s = dressed (fadedStep s) (unstalled s) := by
      have kept : resumedFader s.tables.settings.resumeRate (fadedStep s) = fadedStep s := if_neg (by simp [fadedStep, muted])
      rw [resumed, kept]
      rfl
    have same : boundaryDone s = boundaryDone (unstalled s) := by rw [done, done', unchanged]
    have one : (event State.frameBoundary s).snd = (boundaryDone s).snd := (congrArg State.snd (boundary_reported h).rest :)
    have other : (event State.frameBoundary (unstalled s)).snd = (boundaryDone (unstalled s)).snd :=
      (congrArg State.snd (boundary_reported (s := unstalled s) h).rest :)
    rw [one, other, same]
  | false =>
    have resumes : resumedFader s.tables.settings.resumeRate (fadedStep s) =
        { s.snd.fader with value := 0, target := s.snd.fader.saved, rate := s.tables.settings.resumeRate } := if_pos muted
    rw [stalled_fader h hq ready h0 hD quiet, state, resumes, if_neg Bool.false_ne_true]
    by_cases again : (event State.frameBoundary (unstalled s)).seq.state = .stalled
    · rw [if_pos again, if_pos again]
      exact if_neg (by simp [muted])
    · rw [if_neg again, if_neg again]

/-! ### The sheet's entries -/

/-- A boundary that presents a frame, from `x`, takes the due entries of the sheet that is current by then. -/
theorem sheetTaken_of_frame {s x : State} {m : Mix} {c : Cursor} (h : s.inReset = false)
    (done : boundaryDone s = (x.playFrame m).endExpansion.reloadCountdown)
    (bare : boundaryDone (withoutSheets s) = ((withoutSheets x).playFrame m).endExpansion.reloadCountdown)
    (stack : x.cue.stack = []) (pending : x.cue.pendingHold = false) (tables : x.tables = s.tables)
    (cursor : (if x.seq.frame = 0 then x.startComposition else x).cue.cursor = some c) (hl : c.stop ≤ c.next + 512) :
    SheetTaken s (event State.frameBoundary s) c x.seq.frame := by
  have started : ∃ k, (if x.seq.frame = 0 then x.startComposition else x).cue = { x.cue with cursor := k } ∧
      (if x.seq.frame = 0 then x.startComposition else x).tables = x.tables := by
    split
    · have e := (startComposition_started x).rest
      exact ⟨_, (congrArg State.cue e :), (congrArg State.tables e :)⟩
    · exact ⟨_, rfl, rfl⟩
  obtain ⟨k, engine, store⟩ := started
  have shown := frameWork_shown m x.seq.frame
    ((if x.seq.frame = 0 then x.startComposition else x).updSeq fun q => { q with frame := x.seq.frame + 1 })
  rw [← presented_eq] at shown
  have stripped := withoutSheets_alike.presented (s := x) rfl (fun _ _ => trivial) m
  have cue : (presented m x).cue = (if x.seq.frame = 0 then x.startComposition else x).cue := (congrArg State.cue shown.rest :)
  have table : (presented m x).tables = { s.tables with licence := (presented m x).tables.licence } := by
    rw [← tables, ← store]
    exact (congrArg State.tables shown.rest :)
  have none_taken : (presented m (withoutSheets x)).cueWork (withoutSheets x).seq.frame = withoutSheets (presented m x) := by
    rw [stripped]
    exact cueWork_none rfl _
  rw [playFrame_eq, none_taken] at bare
  rw [playFrame_eq, cueWork_due ((congrArg CueEngine.cursor cue).trans cursor) hl] at done
  exact sheetTaken_of_work h done bare (by rw [cue, engine]; exact stack) (by rw [cue, engine]; exact pending) table

theorem withoutSheets_duration (s : State) : (withoutSheets s).currentComposition.duration = s.currentComposition.duration :=
  (congrArg Composition.duration (withoutSheets_alike.agree (s := s) rfl).currentBare :)

/-- Settles O39: the work on a frame piece by piece (`FramePresented`), two runs that differ in the fader alone, and two runs with and
without the sheets. -/
theorem presentedFrameEffects : Obligations.PresentedFrameEffects := by
  refine ⟨?_, ?_, ?_⟩
  · intro s k f w shown r h hk hq hf h0 hD picture hw hs record
    have presents : FramePresented f (onward (dressed (fadedStep s) s)) (event State.frameBoundary s) := by
      subst hf
      exact framePresented_of_done h (boundaryDone_playing hq h0 hD)
    have reported := boundary_reported h
    have ran := boundary_exec h
    have verdict : (onward (dressed (fadedStep s) s)).verdict f = shown := by
      rw [verdict_eq (s := onward (dressed (fadedStep s) s)) (k := k) (w := w) picture hw, hs, Bool.eq_iff_iff,
        decide_eq_true_iff, window_shows_iff]
    have mark : verdictMark (onward (dressed (fadedStep s) s)) f = if shown then .showFrame k f else .repeatFrame k f := by
      have track : (onward (dressed (fadedStep s) s)).currentTrack .picture = some k := picture
      rw [verdictMark, verdict, track]
      rfl
    have repeats : repeatsAfter (onward (dressed (fadedStep s) s)) f = if shown then 0 else s.repeats + 1 := by
      rw [repeatsAfter, verdict]
      rfl
    have stalls : StallsAt (onward (dressed (fadedStep s) s)) f ↔
        shown = false ∧ s.tables.settings.stallLimit < s.repeats + 1 := by
      rw [StallsAt, repeats]
      cases shown
      · simp; rfl
      · simp
    generalize event State.frameBoundary s = t at presents reported ran
    have seq : t.seq = { s.seq with frame := f + 1, state := t.seq.state, stallTimer := t.seq.stallTimer } := by
      by_cases c : StallsAt (onward (dressed (fadedStep s) s)) f
      · obtain ⟨left, -, -⟩ := presents.stalled c
        rw [left, hf]
        rfl
      · obtain ⟨left | ⟨-, left⟩, -⟩ := presents.goes c
        · rw [left, hf]; rfl
        · rw [left, hf]; rfl
    have log := presents.record r record
    have newest := verdictRecord_rest s.currentComposition f shown s.clk.booth r
    rw [verdict] at log
    change t.acct.log = verdictRecord s.currentComposition f shown s.clk.booth r :: s.acct.log.tail at log
    generalize verdictRecord s.currentComposition f shown s.clk.booth r = q at log newest
    have kept : q.outcome = r.outcome := (congrArg Record.outcome newest :)
    have opened : q.outcome = .opened := kept.trans (openRecord_outcome record)
    have acct : t.acct = { s.acct with log := t.acct.log } := (congrArg State.acct presents.rest :)
    refine ⟨t, ran, mark ▸ presents.link, by rw [seq], by rw [seq], by rw [seq], by rw [seq],
      (congrArg State.clk presents.rest :), ?_, fun dark past => ?_, fun on => ?_,
      q, ?_, ?_, (congrArg Record.presented newest :), (congrArg Record.repeated newest :), (congrArg Record.number newest :),
      (congrArg Record.id newest :), (congrArg Record.position newest :), (congrArg Record.licence newest :),
      (congrArg Record.startTime newest :), acct,
      (congrArg State.port presents.rest :), (congrArg (fun u : State => u.booth.inputs) presents.rest :),
      (congrArg (fun u : State => u.booth.latch) presents.rest :), (congrArg State.tables presents.rest :), presents.quiet,
      reported.enables, reported.requests, fun x hx => ?_, fun c hc hn hl => ?_, presents.calm⟩
    · rw [presents.window k w picture (hk.symm ▸ currentTrack_lt picture) hw, Window.advance, advanceEntries_eq, advanceEntries_eq]
    · obtain ⟨left, count, flag⟩ := presents.stalled (stalls.mpr ⟨dark, past⟩)
      exact ⟨by rw [left], by rw [left], count, flag⟩
    · obtain ⟨left, count⟩ := presents.goes fun c => by
        obtain ⟨dark, past⟩ := stalls.mp c
        rcases on with on | on
        · rw [dark] at on; cases on
        · omega
      refine ⟨?_, count.trans repeats⟩
      rcases left with left | ⟨-, left⟩
      · rw [left]; exact .inl hq
      · rw [left]; exact .inr rfl
    · rw [acct, log]
      exact openRecord_cons opened
    · rw [log]; rfl
    · refine presents.flags x ?_
      rintro (rfl | rfl | rfl | rfl | rfl | rfl | rfl) <;> simp at hx
    · obtain ⟨upto, beyond⟩ := dueEntries_cursor s c f
      exact ⟨_, presents.cursor c hc hl, Nat.le_add_right .., upto, beyond⟩
  · intro s p h hq ready h0 hD quiet hp
    subst hp
    obtain ⟨rest, flags⟩ := stalled_as_playing h hq ready
    exact ⟨_, _, boundary_exec h, boundary_exec (s := unstalled s) h, rest, flags, stalled_fader_eq h hq ready h0 hD quiet⟩
  · intro s c h hq h0 hD hc hl
    refine ⟨_, boundary_exec h, ?_⟩
    rcases hq with hq | ⟨hq, ready⟩
    · have shows := playBoundary_shows (s := dressed (fadedStep s) s) (m := s.mix) hD
      have bare := playBoundary_shows (s := withoutSheets (dressed (fadedStep s) s)) (m := s.mix) (withoutSheets_duration s ▸ hD)
      refine sheetTaken_of_frame (x := dressed (fadedStep s) s) (m := s.mix) h ?_ ?_ rfl rfl rfl ?_ hl
      · rw [boundaryDone_eq, boundaryWork_playing (by exact hq), shows]
      · rw [boundaryDone_eq, boundaryWork_playing (by exact hq), ← bare]
        rfl
      · rw [if_neg (by exact Nat.ne_of_gt h0)]
        exact hc
    · have shows := playBoundary_shows (s := resumed s) (m := s.mix) hD
      have bare := playBoundary_shows (s := withoutSheets (resumed s)) (m := s.mix) (withoutSheets_duration s ▸ hD)
      have ready' : (withoutSheets s).ready = true := (withoutSheets_alike.agree (s := s) rfl).ready.trans ready
      refine sheetTaken_of_frame (x := resumed s) (m := s.mix) h ?_ ?_ rfl rfl rfl ?_ hl
      · rw [(boundaryDone_stalled hq ready).1, shows]
      · rw [(boundaryDone_stalled (s := withoutSheets s) hq ready').1, ← bare]
        rfl
      · rw [if_neg (by exact Nat.ne_of_gt h0)]
        exact hc

end Sys2Proof.Safety
end

-- ==== boundaries: a composition starts at a boundary ====
section
/-! PROOFS. The boundary that starts a composition (R39, R42, R126, R161, R162): frame 0 after the start, and the trigger-0 entries. -/

namespace Sys2Proof.Safety

open Sys2Proof.Machine

/-- The state in which a PREROLL boundary starts a composition. -/
def entered (s : State) : State :=
  (dressed (fadedStep s) s).updSeq fun q => { q with state := .playing, cleared := true, prerollTimer := none }

/-- A composition that has been started, with frame 0 counted as past. -/
def startedOn (s : State) : State := (entered s).startComposition.updSeq fun q => { q with frame := 0 + 1 }

theorem boundaryDone_entered {s : State} (hq : s.seq.state = .preroll) (ready : s.ready = true)
    (clear : s.seq.cleared = true ∨ s.licenceCheck s.currentComposition = none) (duration : s.seq.frame < s.currentComposition.duration) :
    boundaryDone s = ((entered s).playFrame s.mix).endExpansion.reloadCountdown := boundaryDone_starts hq ready clear duration

theorem playFrame_started {s : State} (m : Mix) (h : s.seq.frame = 0) :
    (entered s).playFrame m = (frameWork m 0 (startedOn s)).cueWork 0 := by
  have frame : (entered s).seq.frame = 0 := h
  rw [playFrame_eq, presented_eq, frame]
  rfl

/-- A boundary that presents frame 0 does no work in the subtitle engine (R109). -/
theorem frameWork_zero (m : Mix) (s : State) :
    (frameWork m 0 s).sub = s.sub ∧ (frameWork m 0 s).link = s.link ++ [verdictMark s 0] := by
  obtain ⟨-, sub, link⟩ := present_shown s 0
  have block := (frameBlock_formed (s.present 0) m 0).rest
  have same : frameWork m 0 s = (s.present 0).frameBlock m 0 := by
    unfold frameWork State.subtitleWork
    exact if_pos rfl
  rw [same]
  exact ⟨(congrArg State.sub block).trans sub, (congrArg State.link block).trans link⟩

/-- A ready composition shows its next frame (R37, R60). -/
theorem shows_of_ready {s : State} {k : Nat} {w : Window} (ready : s.ready = true) (hk : s.currentTrack .picture = some k)
    (hw : (s.track k).window = some w) (depth : 1 ≤ s.tables.settings.prerollDepth)
    (duration : s.seq.frame < s.currentComposition.duration) : w.shows s.seq.frame = true := by
  have picture : s.pictureReady s.seq.frame = true := by
    simp only [State.ready, Bool.and_eq_true] at ready
    exact ready.1.1
  unfold State.pictureReady at picture
  rw [hk] at picture
  dsimp only at picture
  rw [hw] at picture
  have frames : 1 ≤ s.readyFrames s.seq.frame := by rw [State.readyFrames]; omega
  exact List.all_eq_true.mp picture _ (List.mem_range'_1.mpr ⟨Nat.le_refl _, by omega⟩)

/-- What the start of a composition at a PREROLL boundary leaves of the state found (R42, R126, R161, R162). -/
structure StartedFrom (s y : State) : Prop where
  rest     : y = { s with
    seq := { s.seq with state := .playing, frame := 1, cleared := true, prerollTimer := none }
    clk := { s.clk with period := samplesPerFrame s.currentComposition.rateCode }
    snd := { s.snd with
      activeMap := s.currentComposition.map
      fader := { s.snd.fader with
        value := faderStep s.snd.fader.value s.snd.fader.target s.snd.fader.rate
        target := s.currentComposition.fader.getD s.snd.fader.target } }
    cue := { s.cue with
      cursor := s.currentComposition.sheet.map (fun x => ⟨x.1, x.1 + x.2⟩), stack := [], pendingHold := false }
    tracks := y.tracks, freeCells := y.freeCells, sub := y.sub, link := y.link, acct := y.acct, mgmt := y.mgmt }
  tracks   : ∀ k, (y.track k).window = (s.track k).window
  started  : flagSet y.mgmt.flags .compositionStart = true
  flags    : FlagsBut (fun x => x = .compositionStart ∨ x = .logWrap) s y
  active   : y.sub.active = s.currentComposition.subtitle
  schedule : y.sub.schedule = s.sub.schedule
  link     : y.link = s.link ++ (if s.sub.active = s.currentComposition.subtitle then []
    else (regionNumbers.filter fun r => (s.region r).isSome).map LinkRecord.clearRegion)
  next     : y.acct.nextNumber = nextNumber s.acct.nextNumber
  barred   : y.acct.lastBarred = s.acct.lastBarred
  log      : y.acct.log = { s.newRecord .opened with number := s.acct.nextNumber } :: s.acct.log.take 63

theorem startedOn_from (s : State) : StartedFrom s (startedOn s) := by
  have start := startComposition_started (entered s)
  obtain ⟨q, log, hq⟩ := start.log
  rw [hq] at log
  exact ⟨congrArg (fun u : State => u.updSeq fun q => { q with frame := 0 + 1 }) start.rest,
    fun k => (congrArg Track.window (start.tracks k) :), start.started, start.flags, start.active, start.schedule, start.link,
    start.next, start.barred, log⟩

section
variable {s y : State} (h : StartedFrom s y)
include h

theorem StartedFrom.openRecord : y.acct.openRecord? = some { s.newRecord .opened with number := s.acct.nextNumber } := by
  unfold Accounting.openRecord?
  rw [h.log]
  exact if_pos rfl

theorem StartedFrom.composition : y.currentComposition = s.currentComposition := by rw [h.rest]; rfl

/-- A sheet without a trigger-0 entry has no entry due at frame 0 (R127). -/
theorem StartedFrom.noCueDue
    (later : ∀ first n, s.currentComposition.sheet = some (first, n) → 0 < (s.cueEntry first).trigger) : NoCueDue y 0 := by
  have cursor : y.cue.cursor = s.currentComposition.sheet.map fun x => ⟨x.1, x.1 + x.2⟩ :=
    (congrArg (fun u : State => u.cue.cursor) h.rest :)
  have entry : ∀ i, y.cueEntry i = s.cueEntry i := fun i => by rw [h.rest]; rfl
  intro c hc hl
  rw [cursor] at hc
  obtain ⟨⟨first, n⟩, sheet, rfl⟩ := Option.map_eq_some_iff.mp hc
  rw [entry]
  exact later first n sheet

/-- The verdict on frame 0 (R60). -/
theorem StartedFrom.verdict {k : Nat} {w : Window} (hk : s.currentTrack .picture = some k)
    (hw : (s.track k).window = some w) : y.currentTrack .picture = some k ∧ y.verdict 0 = w.shows 0 := by
  have current : y.currentTrack .picture = some k := by
    rw [← hk]
    exact currentTrack_congr (congrArg (fun u : State => u.tables.track) h.rest :)
      (congrArg (fun u : State => u.seq.currentSlot) h.rest :) _
  exact ⟨current, verdict_eq current ((h.tracks k).trans hw) 0⟩

end

/-- The record of a composition after its frame 0 has been shown (R162 to R164). -/
theorem startRecord_shown (s : State) (number : Nat) (time : Option Nat) (c : Composition) :
    ∃ q, q = verdictRecord c 0 true time { s.newRecord .opened with number := number } ∧ q.number = number ∧
      q.id = s.currentComposition.id ∧ q.position = s.seq.position ∧ q.licence = s.currentComposition.licence ∧
      q.startTime = s.clk.booth ∧ q.presented = 1 ∧ q.repeated = 0 ∧ q.impaired = false ∧
      q.counted = decide (c.countFrame = 0) ∧ q.outcome = .opened := by
  refine ⟨_, rfl, ?_⟩
  by_cases counts : 0 = c.countFrame
  · rw [verdictRecord, if_pos counts, ← counts]
    exact ⟨rfl, rfl, rfl, rfl, rfl, rfl, rfl, rfl, rfl, rfl⟩
  · rw [verdictRecord, if_neg counts, decide_eq_false fun e => counts e.symm]
    exact ⟨rfl, rfl, rfl, rfl, rfl, rfl, rfl, rfl, rfl, rfl⟩

/-- Frame 0 of a composition has been shown, and nothing more taken (R41, R60, R61). -/
structure FrameZeroShown (k : Nat) (y t : State) : Prop where
  rest    : t = { y with
    tables := { y.tables with licence := t.tables.licence }, tracks := t.tracks, freeCells := t.freeCells, repeats := 0
    clk := { y.clk with countdown := y.clk.period }, snd := { y.snd with lanes := t.snd.lanes }
    cue := { y.cue with stack := [], pendingHold := false }, acct := { y.acct with log := t.acct.log }, mgmt := t.mgmt
    link := y.link ++ [.showFrame k 0] }
  quiet   : y.currentComposition.countFrame ≠ 0 → t.tables = y.tables
  record  : ∀ r, y.acct.openRecord? = some r →
    t.acct.log = verdictRecord y.currentComposition 0 true y.clk.booth r :: y.acct.log.tail
  flags   : FlagsBut (fun x => x = .counted ∨ x = .soundGap ∨ x = .clip ∨ x = .showState) y t

theorem frameZeroShown_of_done {s y : State} {m : Mix} {k : Nat} (h : s.inReset = false)
    (done : boundaryDone s = ((frameWork m 0 y).cueWork 0).endExpansion.reloadCountdown) (quiet : NoCueDue y 0)
    (pending : y.cue.pendingHold = false) (current : y.currentTrack .picture = some k) (verdict : y.verdict 0 = true) :
    FrameZeroShown k y (event State.frameBoundary s) := by
  have goes : ¬ StallsAt y 0 := by
    rw [StallsAt, repeatsAfter, verdict]
    exact Nat.not_lt_zero _
  have mark : verdictMark y 0 = .showFrame k 0 := by
    rw [verdictMark, verdict, current]
    rfl
  have reported := boundary_reported h
  have rest := reported.rest
  have flags := reported.flags
  rw [done, frameWork_quiet m quiet pending] at rest flags
  obtain ⟨sub, link⟩ := frameWork_zero m y
  have shown := frameWork_shown m 0 y
  generalize frameWork m 0 y = p at sub link shown rest flags
  generalize event State.frameBoundary s = t at rest flags ⊢
  obtain ⟨seq, repeats, fader, stall⟩ := shown.show_.goes goes
  have repeats : p.repeats = 0 := repeats.trans (by rw [repeatsAfter, verdict]; rfl)
  have record := shown.record
  rw [verdict] at record
  rw [mark] at link
  have tflags : FlagsBut (fun x => x = .counted ∨ x = .soundGap ∨ x = .clip ∨ x = .showState) y t := fun x hx => by
    have others : x ≠ .showState := fun e => hx (.inr (.inr (.inr e)))
    refine (flags x others).trans ?_
    by_cases hs : x = .stall
    · rw [hs]; exact stall
    · refine shown.flags x ?_
      rintro (e | e | e | e)
      · exact hs e
      · exact hx (.inl e)
      · exact hx (.inr (.inl e))
      · exact hx (.inr (.inr (.inl e)))
  have whole : p = { y with
      tables := { y.tables with licence := p.tables.licence }, tracks := p.tracks, freeCells := p.freeCells, repeats := 0
      snd := { y.snd with lanes := p.snd.lanes }, acct := { y.acct with log := p.acct.log }, mgmt := p.mgmt
      link := y.link ++ [.showFrame k 0] } := by
    have e := shown.rest
    rw [seq, fader, sub, repeats, link] at e
    exact e
  obtain ⟨licence, tracks, cells, lanes, log, mp, hp⟩ : ∃ licence tracks cells lanes log m, p = { y with
      tables := { y.tables with licence := licence }, tracks := tracks, freeCells := cells, repeats := 0
      snd := { y.snd with lanes := lanes }, acct := { y.acct with log := log }, mgmt := m
      link := y.link ++ [.showFrame k 0] } := ⟨_, _, _, _, _, _, whole⟩
  obtain ⟨mt, ht⟩ : ∃ m, t = { (p.updCue fun c => { c with stack := [], pendingHold := false }).reloadCountdown with
      mgmt := m } := ⟨_, rest⟩
  subst ht hp
  exact ⟨rfl, fun late => shown.quiet late.symm, record, tflags⟩

/-- Settles O43: the start by `StartedFrom`, its frame 0 by `FrameZeroShown`, the trigger-0 entries by their flat run. -/
theorem compositionStartEffects : Obligations.CompositionStartEffects := by
  refine ⟨?_, ?_⟩
  · intro s k w c h hq hf hc depth hD ready clear picture hw later
    subst hc
    have start := startedOn_from s
    have verdict := start.verdict picture hw
    rw [show w.shows 0 = true from hf ▸ shows_of_ready ready picture hw depth (by omega)] at verdict
    have done := boundaryDone_entered hq ready clear (by omega)
    rw [playFrame_started s.mix hf] at done
    have shown := frameZeroShown_of_done h done (start.noCueDue later)
      (congrArg (fun u : State => u.cue.pendingHold) start.rest :) verdict.1 verdict.2
    have reported := boundary_reported h
    have ran := boundary_exec h
    generalize startedOn s = y at start shown
    generalize event State.frameBoundary s = t at shown reported ran
    obtain ⟨q, hq', number, id, position, licence, time, presented, repeated, impaired, counted, opened⟩ :=
      startRecord_shown s s.acct.nextNumber y.clk.booth s.currentComposition
    have log := shown.record _ start.openRecord
    rw [start.composition, ← hq', start.log] at log
    have acct : t.acct = { y.acct with log := t.acct.log } := (congrArg State.acct shown.rest :)
    have seq : t.seq = { s.seq with state := .playing, frame := 1, cleared := true, prerollTimer := none } :=
      (congrArg State.seq shown.rest :).trans (congrArg State.seq start.rest :)
    have changed := reported.changed (by rw [seq, hq]; simp)
    have tables : y.tables = s.tables := (congrArg State.tables start.rest :)
    have sub : t.sub = y.sub := (congrArg State.sub shown.rest :)
    have clk : t.clk = { y.clk with countdown := y.clk.period } := (congrArg State.clk shown.rest :)
    have link : t.link = y.link ++ [.showFrame k 0] := (congrArg State.link shown.rest :)
    refine ⟨t, ran, seq, clk.trans (congrArg (fun u : State => { u.clk with countdown := u.clk.period }) start.rest :),
      (congrArg State.repeats shown.rest :), (congrArg (fun u : State => u.snd.activeMap) shown.rest :).trans
        (congrArg (fun u : State => u.snd.activeMap) start.rest :),
      (congrArg (fun u : State => u.snd.fader) shown.rest :).trans (congrArg (fun u : State => u.snd.fader) start.rest :),
      sub ▸ start.active, (congrArg (fun u : State => u.cue.cursor) shown.rest :).trans
        (congrArg (fun u : State => u.cue.cursor) start.rest :),
      (shown.flags .compositionStart (by simp)).trans start.started, changed.1, changed.2, fun x hx => ?_, reported.enables,
      reported.requests, (congrArg State.port shown.rest :).trans (congrArg State.port start.rest :),
      (congrArg State.booth shown.rest :).trans (congrArg State.booth start.rest :), tables ▸ (congrArg State.tables shown.rest :),
      fun late => (shown.quiet (start.composition ▸ late)).trans tables, ?_, sub ▸ start.schedule, ?_, ?_, q, ?_, ?_, number, id,
      position, licence, ?_, presented, repeated, impaired, counted⟩
    · refine (shown.flags x ?_).trans (start.flags x ?_)
      · rintro (rfl | rfl | rfl | rfl) <;> simp at hx
      · rintro (rfl | rfl) <;> simp at hx
    · rw [acct]; exact start.barred
    · rw [link, start.link]
    · rw [acct]; exact start.next
    · unfold Accounting.openRecord?
      rw [log]
      exact if_pos opened
    · rw [log]; rfl
    · exact time
  · intro s c first n h hq hf hc hD ready clear sheet hn
    subst hc
    have ready' : (withoutSheets s).ready = true := (withoutSheets_alike.agree (s := s) rfl).ready.trans ready
    have clear' : (withoutSheets s).seq.cleared = true ∨ (withoutSheets s).licenceCheck (withoutSheets s).currentComposition = none :=
      clear.imp id fun e => by
        have agree := withoutSheets_alike.agree (s := s) rfl
        exact (agree.licenceCheck agree.currentBare).trans e
    have done := boundaryDone_entered hq ready clear (by omega)
    have bare := boundaryDone_entered (s := withoutSheets s) hq ready' clear' (by
      rw [withoutSheets_duration]
      exact Nat.lt_of_lt_of_le (Nat.lt_of_le_of_lt (Nat.le_of_eq hf) Nat.zero_lt_one) hD)
    have current : (startedOn s).cue.cursor = s.currentComposition.sheet.map fun x => ⟨x.1, x.1 + x.2⟩ :=
      (congrArg (fun u : State => u.cue.cursor) (startedOn_from s).rest :)
    have cursor : (entered s).startComposition.cue.cursor = some ⟨first, first + n⟩ := current.trans (by rw [sheet]; rfl)
    have frame : (entered s).seq.frame = 0 := hf
    have taken := sheetTaken_of_frame (x := entered s) (c := ⟨first, first + n⟩) h done bare rfl rfl rfl
      (by rw [if_pos frame]; exact cursor) (Nat.add_le_add_left hn first)
    exact ⟨_, boundary_exec h, frame ▸ taken⟩

end Sys2Proof.Safety
end

-- ==== boundaries: the end of a composition ====
section
/-! PROOFS. The end boundary (R48, R49, R128, R165): the trigger-D entries, the close of the record, and the advance. -/

namespace Sys2Proof.Safety

open Sys2Proof.Machine

/-! ### The end of a composition, before the advance -/

/-- What the end boundary does between its cues and its advance (R48, R165). -/
def recordClosed (s : State) : State := s.closeRecord.raise .compositionEnd

theorem recordClosed_eq (s : State) : recordClosed s = { s with acct := s.closeRecord.acct, mgmt := (recordClosed s).mgmt } := by
  unfold recordClosed
  rw [State.raise_eq]
  rfl

theorem recordClosed_flags (s : State) (f : Flag) :
    flagSet (recordClosed s).mgmt.flags f = (flagSet s.mgmt.flags f || decide (f = .compositionEnd)) := by
  rw [recordClosed, State.raise_flags, flagSet_withFlag]
  rfl

theorem recordClosed_dressed (f : Fader) (s : State) : recordClosed (dressed f s) = dressed f (recordClosed s) :=
  dressed_raise f s.closeRecord .compositionEnd

/-- The state from which an end boundary takes its cues. -/
def endFrom (s : State) : State := if s.seq.state = .stalled then resumed s else dressed (fadedStep s) s

theorem boundaryDone_ends {s : State} (hq : s.seq.state = .playing ∨ s.seq.state = .stalled ∧ s.ready = true)
    (hD : s.currentComposition.duration ≤ s.seq.frame) :
    boundaryDone s = (((recordClosed ((endFrom s).cueWork s.seq.frame)).advancePosition).afterAdvance
      s.mix).endExpansion.reloadCountdown := by
  rcases hq with hq | ⟨hq, ready⟩
  · have ends := playBoundary_ends (s := dressed (fadedStep s) s) (m := s.mix) hD
    rw [boundaryDone_eq, boundaryWork_playing (by exact hq), ends, endFrom, if_neg (by simp [hq])]
    rfl
  · have ends := playBoundary_ends (s := resumed s) (m := s.mix) hD
    rw [(boundaryDone_stalled hq ready).1, ends, endFrom, if_pos hq]
    rfl

theorem endFrom_quiet {s : State} (quiet : NoCueDue s s.seq.frame) : (endFrom s).cueWork s.seq.frame = endFrom s := by
  refine cueWork_quiet ?_
  unfold endFrom
  split <;> exact quiet

/-- The fader from which an end boundary takes its cues: past its step, or past the resume event (R46, R92, R96). -/
theorem endFrom_fader (s : State) : (endFrom s).snd.fader =
    if s.seq.state = .stalled ∧ s.snd.fader.muted = false then
      { s.snd.fader with value := 0, target := s.snd.fader.saved, rate := s.tables.settings.resumeRate }
    else { s.snd.fader with value := faderStep s.snd.fader.value s.snd.fader.target s.snd.fader.rate } := by
  unfold endFrom
  by_cases stalled : s.seq.state = .stalled
  · rw [if_pos stalled]
    by_cases muted : s.snd.fader.muted = false
    · rw [if_pos ⟨stalled, muted⟩]
      exact if_pos muted
    · rw [if_neg fun c => muted c.2]
      exact if_neg muted
  · rw [if_neg stalled, if_neg fun c => stalled c.1]
    rfl

theorem endFrom_rest (s : State) : endFrom s = { s with
    seq := { s.seq with state := (endFrom s).seq.state, stallTimer := (endFrom s).seq.stallTimer }
    snd := { s.snd with fader := (endFrom s).snd.fader }
    cue := { s.cue with stack := [], pendingHold := false } } := by
  unfold endFrom
  split <;> rfl

theorem endFrom_state {s : State} (hq : s.seq.state = .playing ∨ s.seq.state = .stalled) : (endFrom s).seq.state = .playing := by
  unfold endFrom
  rcases hq with hq | hq
  · rw [if_neg (by simp [hq])]
    exact hq
  · rw [if_pos hq]
    rfl

/-- The composition has left the timeline at a boundary with no entry due. -/
theorem ends_leaves {s : State} (hq : s.seq.state = .playing ∨ s.seq.state = .stalled) :
    LeavesAtBoundary s s.closeRecord (recordClosed (endFrom s)) := by
  have state := endFrom_state hq
  have fader := endFrom_fader s
  have from_ := endFrom_rest s
  have flags := recordClosed_flags (endFrom s)
  have rest := recordClosed_eq (endFrom s)
  have found : s.seq.state ≠ .preroll := by rcases hq with hq | hq <;> simp [hq]
  generalize recordClosed (endFrom s) = w at flags rest
  generalize endFrom s = x at state fader from_ flags rest
  have mgmt : x.mgmt = s.mgmt := (congrArg State.mgmt from_ :)
  have wseq : w.seq = x.seq := (congrArg State.seq rest :)
  refine ⟨?_, ?_, fun f => (flags f).trans ?_, ⟨rfl, rfl, rfl⟩, rfl⟩
  · rw [wseq, ← fader]
    have acct : x.closeRecord.acct = s.closeRecord.acct := (congrArg (fun u : State => u.closeRecord.acct) from_ :)
    rw [acct] at rest
    exact rest.trans (congrArg (fun u : State => { u with acct := s.closeRecord.acct, mgmt := w.mgmt }) from_)
  · rw [wseq, state]
    exact iff_of_false (by simp) found
  · rw [mgmt]
    cases f <;> simp [found]

/-! ### Where the advance leads -/

/-- Two boundaries with the same work differ in the report alone. -/
theorem boundaries_of_done {s u : State} (hs : s.inReset = false) (hu : u.inReset = false) (done : boundaryDone s = boundaryDone u) :
    event State.frameBoundary s = { event State.frameBoundary u with mgmt := (event State.frameBoundary s).mgmt } ∧
    ∀ x, x ≠ .showState → flagSet (event State.frameBoundary s).mgmt.flags x =
      flagSet (event State.frameBoundary u).mgmt.flags x := by
  have one := boundary_reported hs
  have other := boundary_reported hu
  generalize event State.frameBoundary s = t at one ⊢
  generalize event State.frameBoundary u = v at other ⊢
  have rest := one.rest
  have flags := one.flags
  rw [done] at rest flags
  obtain ⟨m, hv⟩ : ∃ m, v = { boundaryDone u with mgmt := m } := ⟨_, other.rest⟩
  refine ⟨?_, fun x hx => (flags x hx).trans (other.flags x hx).symm⟩
  rw [hv]
  exact rest

section
variable {s : State} (h : s.inReset = false) (hq : s.seq.state = .playing ∨ s.seq.state = .stalled ∧ s.ready = true)
  (hD : s.currentComposition.duration ≤ s.seq.frame) (quiet : NoCueDue s s.seq.frame) (hl : s.acct.log.length ≤ 64)
  (hd : s.acct.drops ≤ 65535) (ok : PlaylistOk s) (hk : s.tracks.length = 32)
include hl hd

theorem closeRecord_bounds : s.closeRecord.acct.log.length ≤ 64 ∧ s.closeRecord.acct.drops ≤ 65535 := by
  obtain ⟨log, drops⟩ := updOpen_kept s.acct fun r => { r with outcome := r.closing }
  exact ⟨log.le.trans hl, drops.le.trans hd⟩

include ok hk in
/-- The advance of an end boundary finds a composition as ready as an advance from the state before it. -/
theorem ends_ready {w : State} (leaves : LeavesAtBoundary s s.closeRecord w) : w.advancePosition.ready = s.advancePosition.ready := by
  obtain ⟨log, drops⟩ := closeRecord_bounds hl hd
  have wacct : w.acct = s.closeRecord.acct := (congrArg State.acct leaves.rest :)
  have wseq : w.seq = { s.seq with state := w.seq.state, stallTimer := w.seq.stallTimer } := (congrArg State.seq leaves.rest :)
  have shown : SameShow s w := ⟨(congrArg State.tables leaves.rest :), (congrArg State.clk leaves.rest :), by rw [wseq]⟩
  exact (advancePosition_advanced hl hd).ready_congr
    (advancePosition_advanced (s := w) (by rw [wacct]; exact log) (by rw [wacct]; exact drops)) shown (by rw [wseq])
    (congrArg State.tracks leaves.rest :) ok hk

include h hq hD quiet ok hk in
/-- The second part of O44, where no frame is presented. -/
theorem ends_rests (rests : clearedAhead s = 0 ∨ s.advancePosition.ready = false) :
    AdvancedAtBoundary s s.closeRecord (event State.frameBoundary s) := by
  obtain ⟨log, drops⟩ := closeRecord_bounds hl hd
  have leaves := ends_leaves (hq.imp_right And.left)
  have done := boundaryDone_ends hq hD
  rw [endFrom_quiet quiet] at done
  refine advancedAtBoundary h (.inr (hq.imp_right And.left)) leaves log drops ok hk done (rests.imp_right fun r => ?_)
  rw [ends_ready hl hd ok hk leaves, r]

include h hD quiet ok hk in
/-- The second part of O44, where the advance finds a ready composition. -/
theorem ends_found (playing : s.seq.state = .playing) (ahead : clearedAhead s ≠ 0) (readied : s.advancePosition.ready = true)
    (duration : 1 ≤ (compositionAt s (clearedAhead s)).duration) {v : State} (hv : v = (recordClosed s).advancePosition) :
    ∃ t u, exec .frameBoundary s = .next t ∧
      exec .frameBoundary { v with seq := { v.seq with state := .preroll, stallTimer := none } } = .next u ∧
      t = { u with mgmt := t.mgmt } ∧ (∀ x, x ≠ .showState → flagSet t.mgmt.flags x = flagSet u.mgmt.flags x) ∧
      t.mgmt.enables = s.mgmt.enables ∧ t.mgmt.requests = s.mgmt.requests := by
  obtain ⟨log, drops⟩ := closeRecord_bounds hl hd
  have closed := recordClosed_eq s
  have cacct : (recordClosed s).acct = s.closeRecord.acct := (congrArg State.acct closed :)
  have cseq : (recordClosed s).seq = s.seq := (congrArg State.seq closed :)
  have csnd : (recordClosed s).snd = s.snd := (congrArg State.snd closed :)
  have creset : (recordClosed s).inReset = s.inReset := (congrArg State.inReset closed :)
  have shown : SameShow s (recordClosed s) :=
    ⟨(congrArg State.tables closed :), (congrArg State.clk closed :), by rw [cseq]⟩
  have position : (recordClosed s).seq.position = s.seq.position := by rw [cseq]
  have adv := advancePosition_advanced (s := recordClosed s) (by rw [cacct]; exact log) (by rw [cacct]; exact drops)
  have ready := (advancePosition_advanced hl hd).ready_congr adv shown position (congrArg State.tracks closed :) ok hk
  have moved := ((dressed_alike (fadedStep s)).advancePosition (s := recordClosed s) ⟨rfl, by rw [csnd]; rfl⟩ trivial trivial).1
  rw [← hv] at adv ready moved
  obtain ⟨frame, cleared, onward_, current⟩ := adv.found shown position ahead
  have sound : v.snd = s.snd := (congrArg State.snd adv.rest :).trans csnd
  have starts := boundaryDone_found frame cleared onward_ (ready.trans readied) (by rw [current]; exact duration)
  have step : fadedStep v = fadedStep s := by rw [fadedStep, fadedStep, sound]
  have mix : v.mix = s.mix := by rw [State.mix, State.mix, sound]
  have from_ : endFrom s = dressed (fadedStep s) s := if_neg (by simp [playing])
  have done := boundaryDone_ends (.inl playing) hD
  rw [endFrom_quiet quiet, from_, recordClosed_dressed, moved, ← step, ← mix, ← starts] at done
  have running : v.inReset = false := (congrArg State.inReset adv.rest :).trans (creset.trans h)
  have reported := boundary_reported h
  obtain ⟨rest, flags⟩ := boundaries_of_done h (u := { v with seq := { v.seq with state := .preroll, stallTimer := none } })
    running done
  exact ⟨_, _, boundary_exec h, boundary_exec (by exact running), rest, flags, reported.enables, reported.requests⟩

end

/-! ### The last position -/

/-- The position advance from the last position (R49): the composition's tracks leave. -/
structure LastLeft (s a : State) : Prop where
  rest : a = { s with
    seq := { s.seq with position := 0, frame := 0, cleared := false }, cue := { s.cue with cursor := none }, repeats := 0
    tracks := a.tracks, freeCells := a.freeCells, sub := a.sub, link := a.link }
  kept : ∀ k, k ∉ tracksOf s s.seq.currentSlot → a.track k = s.track k
  link : ∃ rest : List LinkRecord, (∀ x ∈ rest, overlay x = true) ∧ a.link = s.link ++ rest

theorem advancePosition_last {s : State} (h : s.seq.playlist.length ≤ s.seq.position) : LastLeft s s.advancePosition := by
  have moved := positionOn_rest s
  rw [if_pos h] at moved
  have last : s.advancePosition = s.leavePosition.movePosition := by
    unfold State.advancePosition State.advance
    exact if_pos (by rw [moved])
  have gone := unscheduleSlot_rescheduled s s.seq.currentSlot
  have past : s.leavePosition.movePosition = s.leavePosition.updSeq fun q => { q with position := 0 } :=
    if_pos (by rw [(leavePosition_rest s).2]; exact h)
  obtain ⟨clears, -, link⟩ := gone.link
  rw [last]
  refine ⟨moved, fun k hk => ?_, clears.map LinkRecord.clearRegion, fun x hx => ?_, ?_⟩
  · rw [past]
    exact gone.kept k hk
  · obtain ⟨r, -, rfl⟩ := List.mem_map.mp hx
    rfl
  · rw [past]
    exact link

/-- The end boundary of the last position up to its advance, from the state `x` in which its cues are taken. -/
structure LastEnded (x a : State) : Prop where
  rest   : a = { x with
    seq := { x.seq with position := 0, frame := 0, cleared := false }
    snd := { x.snd with activeMap := a.snd.activeMap, fader := a.snd.fader }
    booth := { x.booth with cueLevels := a.booth.cueLevels, generators := a.booth.generators }
    cue := { a.cue with cursor := none }, repeats := 0, acct := x.closeRecord.acct, mgmt := a.mgmt
    tracks := a.tracks, freeCells := a.freeCells, sub := a.sub, link := a.link }
  link   : ∃ rest : List LinkRecord, (∀ y ∈ rest, overlay y = true) ∧ a.link = x.link ++ rest
  flags  : FlagsBut (fun f => f = .compositionEnd ∨ f = .cueMark ∨ f = .cueNest) x a
  ended  : flagSet a.mgmt.flags .compositionEnd = true
  tracks : ∀ k, k ∉ tracksOf x x.seq.currentSlot → a.track k = x.track k ∨ ∃ y, some y ∈ x.sub.regions ∧ y.item.track = k
  calm   : x.cue.cursor = none → a.booth = x.booth ∧ a.snd.activeMap = x.snd.activeMap

theorem tracksOf_congr {s u : State} (h : u.tables.track = s.tables.track) : tracksOf u = tracksOf s := by
  have entry : ∀ k, u.trackEntry k = s.trackEntry k := fun k => by rw [State.trackEntry, State.trackEntry, h]
  have slot : u.slotTracks = s.slotTracks := by
    funext n
    simp only [State.slotTracks, entry]
  funext n
  rw [tracksOf, tracksOf, slot]

theorem lastEnded {x : State} (f : Nat) (last : x.seq.playlist.length ≤ x.seq.position) :
    LastEnded x (recordClosed (x.cueWork f)).advancePosition := by
  have cues := cueWork_taken x f
  have calm : x.cue.cursor = none → x.cueWork f = x := fun hc => cueWork_none hc f
  generalize x.cueWork f = c at cues calm
  have closed := recordClosed_eq c
  have flags := recordClosed_flags c
  generalize recordClosed c = w at closed flags
  have cseq : c.seq = x.seq := (congrArg State.seq cues.rest :)
  have wseq : w.seq = x.seq := (congrArg State.seq closed :).trans cseq
  have entries : c.tables.track = x.tables.track := (congrArg (fun u : State => u.tables.track) cues.rest :)
  have here : tracksOf w w.seq.currentSlot = tracksOf x x.seq.currentSlot := by
    rw [wseq, tracksOf_congr ((congrArg (fun u : State => u.tables.track) closed).trans entries)]
  have left := advancePosition_last (s := w) (by rw [wseq]; exact last)
  generalize w.advancePosition = a at left
  have track : ∀ k, w.track k = c.track k := fun k => by rw [closed]; rfl
  have mgmt : a.mgmt = w.mgmt := (congrArg State.mgmt left.rest :)
  have others : FlagsBut (· = .compositionEnd) c a := fun y hy => by
    rw [mgmt, flags, decide_eq_false hy, Bool.or_false]
  have ended : flagSet a.mgmt.flags .compositionEnd = true := by
    rw [mgmt, flags]
    simp
  have kept : ∀ k, k ∉ tracksOf x x.seq.currentSlot → a.track k = c.track k := fun k hk =>
    (left.kept k (here ▸ hk)).trans (track k)
  obtain ⟨rest, overlays, link⟩ := cues.link
  obtain ⟨more, overlays', link'⟩ := left.link
  have wlink : w.link = c.link := (congrArg State.link closed :)
  refine ⟨?_, ⟨rest ++ more, fun y hy => (List.mem_append.mp hy).elim (overlays y) (overlays' y), ?_⟩,
    (cues.flags.mono fun _ h => .inr h).trans (others.mono fun _ h => .inl h), ended,
    fun k hk => (cues.left.1 k).imp_left (kept k hk).trans, fun hc => ?_⟩
  · obtain ⟨tracks, cells, sub, records, ha⟩ : ∃ tracks cells sub link, a = { w with
        seq := { w.seq with position := 0, frame := 0, cleared := false }, cue := { w.cue with cursor := none }, repeats := 0
        tracks := tracks, freeCells := cells, sub := sub, link := link } := ⟨_, _, _, _, left.rest⟩
    obtain ⟨m, hw⟩ : ∃ m, w = { c with acct := c.closeRecord.acct, mgmt := m } := ⟨_, closed⟩
    subst ha hw
    exact congrArg (fun c : State => { c with
      seq := { c.seq with position := 0, frame := 0, cleared := false }, cue := { c.cue with cursor := none }, repeats := 0
      acct := c.closeRecord.acct, mgmt := m, tracks := tracks, freeCells := cells, sub := sub, link := records }) cues.rest
  · rw [link', wlink, link, List.append_assoc]
  · have booth : a.booth = c.booth := (congrArg State.booth left.rest :).trans (congrArg State.booth closed :)
    have sound : a.snd = c.snd := (congrArg State.snd left.rest :).trans (congrArg State.snd closed :)
    rw [booth, sound, calm hc]
    exact ⟨rfl, rfl⟩

/-- An expansion that ends outside PLAYING hands on nothing (R133, R43). -/
theorem endExpansion_resting {u : State} (h : u.seq.state ≠ .playing) :
    u.endExpansion = u.updCue fun c => { c with stack := [], pendingHold := false } := by
  have held : (u.updCue fun c => { c with stack := [], pendingHold := false }).holdShow = none := if_neg h
  unfold State.endExpansion
  dsimp only
  rw [held]
  exact ite_self _

/-- A boundary whose advance ends past the last position: the show is in ENDED, with one BLACK and a silent block (R49, R67, R26). -/
theorem boundary_past {a : State} (m : Mix) (h : a.seq.position = 0) :
    (a.afterAdvance m).endExpansion.reloadCountdown = { a with
      seq := { a.seq with state := .ended, position := 0, frame := 0, prerollTimer := none, stallTimer := none }
      clk := { a.clk with period := a.idlePeriod, countdown := a.idlePeriod }
      snd := { a.snd with lanes := a.snd.lanes.mapIdx fun j l =>
        { l with block := List.replicate a.idlePeriod 0, delay := (a.laneSetting j).delay } }
      cue := { a.cue with cursor := none, stack := [], pendingHold := false }
      repeats := 0, link := a.link ++ [.black] } := by
  have past : a.afterAdvance m = a.enterEnded.silentBlock := if_pos h
  have ended : a.enterEnded.silentBlock.seq.state ≠ .playing := by
    change ShowState.ended ≠ .playing
    decide
  rw [past, endExpansion_resting ended, State.enterEnded]
  generalize a.idlePeriod = p
  cases a
  rfl

/-- The tracks of the current position are among those that leave (R7). -/
theorem mem_leaving_of_current {s : State} (active : s.seq.state.active = true) {k : Nat} (h : k ∈ tracksOf s s.seq.currentSlot) :
    k ∈ leaving s := by
  obtain ⟨essence, valid, slot⟩ := mem_tracksOf.mp h
  exact List.mem_filter.mpr ⟨essence, by simp [State.scheduled, valid, active, slot]⟩

/-- Settles O44: the advance by `Advanced`, a stall's end by two runs that differ in the fader, the cues by their flat run. -/
theorem endBoundaryEndsShow : Obligations.EndBoundaryEndsShow := by
  refine ⟨?_, ?_, ?_, ?_⟩
  · intro s r h hq hD last record
    have done := boundaryDone_ends hq hD
    have rest := endFrom_rest s
    have ended := lastEnded s.seq.frame (x := endFrom s) (by rw [rest]; exact last)
    generalize (recordClosed ((endFrom s).cueWork s.seq.frame)).advancePosition = a at done ended
    generalize endFrom s = x at ended rest
    rw [boundary_past s.mix (congrArg (fun u : State => u.seq.position) ended.rest :)] at done
    have reported := boundary_reported h
    have ran := boundary_exec h
    have trest := reported.rest
    have tflags := reported.flags
    rw [done] at trest tflags
    generalize event State.frameBoundary s = t at reported ran trest tflags
    have seq : t.seq = _ := (congrArg State.seq trest :).trans ((congrArg (fun u : State => { u.seq with
      state := .ended, position := 0, frame := 0, prerollTimer := none, stallTimer := none }) ended.rest :).trans
      (congrArg (fun u : State => { u.seq with
        state := .ended, position := 0, frame := 0, cleared := false, prerollTimer := none, stallTimer := none }) rest :))
    have onAir : s.seq.state.active = true ∧ s.seq.state ≠ .ended := by
      rcases hq with hq | ⟨hq, -⟩ <;> rw [hq] <;> exact ⟨rfl, by decide⟩
    obtain ⟨reportedFlag, count⟩ := reported.changed (by rw [seq]; exact onAir.2.symm)
    have idle : a.idlePeriod = s.idlePeriod := (congrArg State.idlePeriod ended.rest :).trans (congrArg State.idlePeriod rest :)
    have here : tracksOf x x.seq.currentSlot = tracksOf s s.seq.currentSlot := by rw [rest]; rfl
    have acct : t.acct = s.closeRecord.acct := (congrArg State.acct trest :).trans
      ((congrArg State.acct ended.rest :).trans (congrArg (fun u : State => u.closeRecord.acct) rest :))
    have xmgmt : x.mgmt = s.mgmt := (congrArg State.mgmt rest :)
    have xlink : x.link = s.link := (congrArg State.link rest :)
    have xsub : x.sub = s.sub := (congrArg State.sub rest :)
    have xcursor : x.cue.cursor = s.cue.cursor := (congrArg (fun u : State => u.cue.cursor) rest :)
    have tmap : t.snd.activeMap = a.snd.activeMap := (congrArg (fun u : State => u.snd.activeMap) trest :)
    have xmap : x.snd.activeMap = s.snd.activeMap := (congrArg (fun u : State => u.snd.activeMap) rest :)
    have xtrack : ∀ k, x.track k = s.track k := fun k => by rw [rest]; rfl
    have ttrack : ∀ k, t.track k = a.track k := fun k => by rw [trest]; rfl
    obtain ⟨records, overlays, link⟩ := ended.link
    refine ⟨t, ran, seq, ?_, ⟨records, overlays, ?_⟩, ?_, (congrArg (fun u : State => u.cue.cursor) trest :),
      (congrArg State.repeats trest :), ?_, (tflags _ (by decide)).trans ended.ended, reportedFlag, count, fun y hy => ?_,
      reported.enables, reported.requests, ?_, ?_, ?_, ?_, fun k hk => ?_, fun hc => ?_⟩
    · rw [acct, State.closeRecord_some record]
      rfl
    · rw [← xlink, ← link]
      exact (congrArg State.link trest :)
    · rw [← idle]
      exact (congrArg State.clk trest :).trans ((congrArg (fun u : State =>
        { u.clk with period := a.idlePeriod, countdown := a.idlePeriod }) ended.rest :).trans
        (congrArg (fun u : State => { u.clk with period := a.idlePeriod, countdown := a.idlePeriod }) rest :))
    · rw [(congrArg (fun u : State => u.snd.lanes) trest :), ← idle]
      intro l hl
      obtain ⟨j, -, rfl⟩ := List.mem_mapIdx.mp hl
      rfl
    · simp only [List.mem_cons, List.not_mem_nil, or_false, not_or] at hy
      obtain ⟨end_, state, mark, nest⟩ := hy
      rw [← xmgmt, ← ended.flags y (by simp [end_, mark, nest])]
      exact tflags y state
    · exact (congrArg State.port trest :).trans ((congrArg State.port ended.rest :).trans (congrArg State.port rest :))
    · exact (congrArg State.tables trest :).trans ((congrArg State.tables ended.rest :).trans (congrArg State.tables rest :))
    · exact (congrArg (fun u : State => u.booth.inputs) trest :).trans
        ((congrArg (fun u : State => u.booth.inputs) ended.rest :).trans (congrArg (fun u : State => u.booth.inputs) rest :))
    · exact (congrArg (fun u : State => u.booth.latch) trest :).trans
        ((congrArg (fun u : State => u.booth.latch) ended.rest :).trans (congrArg (fun u : State => u.booth.latch) rest :))
    · rw [ttrack, ← xtrack, ← xsub]
      exact (ended.tracks k fun c => hk (mem_leaving_of_current onAir.1 (here ▸ c))).imp_right fun ⟨y, hy, e⟩ => ⟨some y, hy, y, rfl, e⟩
    · obtain ⟨booth, map⟩ := ended.calm (xcursor.trans hc)
      exact ⟨(congrArg State.booth trest :).trans (booth.trans (congrArg State.booth rest :)), tmap.trans (map.trans xmap)⟩
  · intro s h hq hD quiet hl hd ok hk
    refine ⟨fun rests => ⟨_, boundary_exec h, ends_rests h hq hD quiet hl hd ok hk rests⟩, fun playing ahead readied duration => ?_⟩
    obtain ⟨v, hv⟩ : ∃ v, v = (recordClosed s).advancePosition := ⟨_, rfl⟩
    obtain ⟨t, u, found⟩ := ends_found h hD quiet hl hd ok hk playing ahead readied duration hv
    exact ⟨v, t, u, hv, found⟩
  · intro s p h hq ready hD hp
    subst hp
    obtain ⟨rest, flags⟩ := stalled_as_playing h hq ready
    have reported := boundary_reported h
    exact ⟨_, _, boundary_exec h, boundary_exec (s := unstalled s) h, rest, flags, reported.enables, reported.requests⟩
  · intro s c h hq hD hc hl
    refine ⟨_, rfl, (boundary_exec h).trans (congrArg Host.Outcome.next ?_)⟩
    have done := boundaryDone_ends (.inl hq) hD
    have from_ : endFrom s = s.stepFader.startExpansion := if_neg (by simp [hq])
    rw [from_, cueWork_due (by exact hc) hl] at done
    rw [event, frameBoundary_eq, done]
    rfl

end Sys2Proof.Safety
end

-- ==== the fader's step, reset held, the release of the latch, reads of tables ====
section
/-! PROOFS. One step of the fader (R92), power-on reset while it is held (R73, R141), RELEASE_EMERGENCY (R98, R153), and READ_TABLE
with READ_METERS (R101, R172, R174). -/

namespace Sys2Proof.Safety

open Sys2Proof.Machine

/-! ### The fader's step (R92) -/

theorem faderStep_at_target (t k : Nat) : faderStep t t k = t := by simp [faderStep]

/-- The truncated step toward a target above, or 1 where it is 0. -/
theorem faderStep_up {f t : Nat} (k : Nat) (h : f < t) : faderStep f t k = max (f + 1) (f + k * (t - f) / 65536) := by
  have step : ((k : Int) * ((t : Int) - f)).tdiv 65536 = (k * (t - f) / 65536 : Nat) := by
    rw [← Nat.cast_sub h.le, ← Nat.cast_mul]
    rfl
  unfold faderStep
  rw [step]
  generalize k * (t - f) / 65536 = n
  dsimp only
  split <;> omega

/-- The truncated step toward a target below, or 1 where it is 0: truncation is toward 0, so the step is that of the distance. -/
theorem faderStep_down {f t : Nat} (k : Nat) (h : t < f) : faderStep f t k = min (f - 1) (f - k * (f - t) / 65536) := by
  have step : ((k : Int) * ((t : Int) - f)).tdiv 65536 = -(k * (f - t) / 65536 : Nat) := by
    rw [← Int.neg_sub, ← Nat.cast_sub h.le, mul_neg, Int.neg_tdiv, ← Nat.cast_mul]
    rfl
  unfold faderStep
  rw [step]
  generalize k * (f - t) / 65536 = n
  dsimp only
  rw [if_neg h.not_gt, if_pos h]
  split <;> omega

/-- A rate is a part of 65536, so a step never covers more than the distance. -/
theorem rate_part_le {k : Nat} (hk : k ≤ 65535) (d : Nat) : k * d / 65536 ≤ d :=
  Nat.div_le_of_le_mul (Nat.mul_le_mul_right d (by omega))

/-- Settles O47: the two directions, with the distance as the bound of the step. -/
theorem faderStepTowardTarget : Obligations.FaderStepTowardTarget := by
  intro f t k _ _ hk
  refine ⟨faderStep_at_target t k, fun h => ?_, fun h => ?_⟩
  · have bound := rate_part_le hk (t - f)
    have step := faderStep_up k h
    generalize k * (t - f) / 65536 = n at bound step
    exact ⟨by omega, by omega, step⟩
  · have bound := rate_part_le hk (f - t)
    have step := faderStep_down k h
    generalize k * (f - t) / 65536 = n at bound step
    exact ⟨by omega, by omega, step⟩

/-! ### Power-on reset while it is held (R73, R141) -/

/-- While the reset is held a command that is neither a reset nor a level on a pin does nothing (log 7). -/
theorem exec_held {c : Instr} {s : State} (h : s.inReset = true) (hp : c ≠ .powerOnReset) (ha : c ≠ .resetAsserted)
    (hl : ∀ i level, c ≠ .inputLevelChange i level) : exec c s = .next s := by
  cases hr : requestOf c with
  | some r => rw [exec_request hr]; exact run_held h
  | none =>
    cases c with
    | powerOnReset => exact absurd rfl hp
    | resetAsserted => exact absurd rfl ha
    | inputLevelChange i level => exact absurd rfl (hl i level)
    | parcelComplete bytes => exact run_held (work := fun s => s.endMark bytes) h
    | frameBoundary => exact run_held h
    | millisecondTick order => exact run_held (work := fun s => s.millisecondTick order) h
    | secondTick => exact run_held h
    | prerollTimeout => exact run_held h
    | stallTimeout => exact run_held h
    | stallTrigger => exact run_held h
    | flowInterval => exact run_held h
    | phaseEnd g => exact run_held h
    | acceptedEdge i => exact run_held h
    | transmissionEnd => exact run_held h
    | startMark => exact run_held h
    | oversizeParcel => exact run_held h
    | samplePeriod => exact run_held h
    | _ => cases hr

/-- Settles O4. -/
theorem resetHeldIsSilent : Obligations.ResetHeldIsSilent := by
  refine ⟨fun s => ⟨_, rfl, rfl, List.length_replicate, fun l hl => ?_, fun line => rfl, rfl, ?_⟩, fun c s => exec_held,
    fun i level s h => congrArg Host.Outcome.next (if_pos h)⟩
  · rw [List.eq_of_mem_replicate (show l ∈ List.replicate 24 Lane.powerOn from hl)]
    rfl
  · have kept : Input.raw ∘ Input.powerOn = id := rfl
    change (s.rawLevels.map Input.powerOn).map Input.raw = s.rawLevels
    rw [List.map_map, kept, List.map_id]

/-! ### RELEASE_EMERGENCY (R153) -/

/-- An active EMERGENCY input, in the words of R150. -/
theorem emergencyActive_iff (s : State) (i : Nat) : s.emergencyActive i = true ↔ (s.inputEntry i).enabled = true ∧
    (s.inputEntry i).action = .emergency ∧ (s.input i).debounced = if (s.inputEntry i).edge = .falling then .low else .high := by
  have level : (s.inputEntry i).edge.activeLevel = if (s.inputEntry i).edge = .falling then .low else .high := by
    cases (s.inputEntry i).edge <;> rfl
  simp [State.emergencyActive, InputEntry.activeAt, level, and_assoc]

/-- The latch and the mute latch are released (R98, R153). -/
def released (s : State) : State :=
  { s with booth := { s.booth with latch := false }, snd := { s.snd with fader := { s.snd.fader with muted := false } } }

theorem releaseLatch_some {s : State} (latch : s.booth.latch = true)
    (quiet : ∀ i < s.booth.inputs.length, s.emergencyActive i = false) : s.releaseLatch = some (released s) :=
  if_pos ⟨latch, by simpa using quiet⟩

theorem releaseLatch_none {s : State} (h : s.booth.latch = false ∨ ∃ i < s.booth.inputs.length, s.emergencyActive i = true) :
    s.releaseLatch = none := by
  refine if_neg fun ⟨latch, quiet⟩ => ?_
  rcases h with off | ⟨i, hi, active⟩
  · exact Bool.noConfusion (latch.symm.trans off)
  · have still : s.emergencyActive i = false := by simpa using List.all_eq_true.mp quiet i (List.mem_range.mpr hi)
    exact Bool.noConfusion (active.symm.trans still)

/-- Settles O15: neither outcome changes the show state or the management block, so each is its effect and its reply. -/
theorem releaseEmergencyClearsLatch : Obligations.ReleaseEmergencyClearsLatch := by
  intro tag s h inputs
  refine ⟨fun latch quiet => ?_, fun why => ?_⟩
  · have free := releaseLatch_some (s := s.setReserved true) latch fun i hi =>
      Bool.eq_false_iff.mpr fun active => quiet i (inputs ▸ hi) ((emergencyActive_iff s i).mp active)
    have performed : (s.setReserved true).perform (.releaseEmergency tag) =
        ((released s).setReserved true, .done, (released s).showBody 0) := by
      rw [State.perform, free]
      rfl
    rw [exec_request (r := .releaseEmergency tag) rfl, request_taken h, State.execRequest_quiet performed rfl]
    rfl
  · have refused := releaseLatch_none (s := s.setReserved true)
      (why.imp_right fun ⟨i, hi, active⟩ => ⟨i, inputs.symm ▸ hi, (emergencyActive_iff s i).mpr active⟩)
    exact refused_taken (c := .releaseEmergency tag) (failing := 0) h rfl (by rw [State.perform, refused]) rfl

/-! ### Reads of tables (R172, R174) -/

theorem requestOf_readRows {table : Nat} {tag : Byte} {index : BitVec 16} {count : Byte} {c : Instr}
    (h : c ∈ readRows table tag index count) : requestOf c = some (.readTable tag (BitVec.ofNat 8 table) index count) := by
  rcases List.mem_cons.mp h with rfl | h
  · rfl
  · split at h
    · rename_i meters
      rw [List.mem_singleton.mp h, meters]
      rfl
    · cases h

/-- The numbers that name no table to read (R172). -/
theorem tableEntries_unknown {table : Nat} (h : table = 0 ∨ table = 9 ∨ 12 < table) : tableEntries table = none := by
  rcases h with rfl | rfl | h
  · rfl
  · rfl
  · obtain ⟨k, rfl⟩ : ∃ k, table = k + 13 := ⟨table - 13, by omega⟩
    rfl

/-- A read that leaves `t`, whose work neither reads nor changes the management block, is answered with `n` entries. -/
theorem read_taken {s t : State} {table n : Nat} {tag : Byte} {index : BitVec 16} {count : Byte} {c : Instr} {result : Result}
    {entries : Bytes} (h : TakesRequest s) (ht : table < 256) (hc : c ∈ readRows table tag index count)
    (state : t.seq.state = s.seq.state)
    (read : (s.setReserved true).readEntries table index.toNat count.toNat = (t.setReserved true, result, n, entries)) :
    exec c s = .next (answered t
      ([0x02, tag, result.code, BitVec.ofNat 8 table] ++ be 2 index.toNat ++ be 1 n ++ entries)) := by
  have number : (BitVec.ofNat 8 table).toNat = table := by rw [BitVec.toNat_ofNat, Nat.mod_eq_of_lt ht]
  have performed : (s.setReserved true).perform (.readTable tag (BitVec.ofNat 8 table) index count) =
      (t.setReserved true, result, [BitVec.ofNat 8 table] ++ be 2 index.toNat ++ be 1 n ++ entries) := by
    rw [State.perform, number, read]
  rw [exec_request (requestOf_readRows hc), request_taken h, State.execRequest_quiet performed state]
  rfl

/-- A refused read returns no entry. -/
theorem read_refused {s : State} {table : Nat} {tag : Byte} {index : BitVec 16} {count : Byte} {c : Instr} {result : Result}
    (h : TakesRequest s) (ht : table < 256) (hc : c ∈ readRows table tag index count)
    (read : (s.setReserved true).readEntries table index.toNat count.toNat = (s.setReserved true, result, 0, [])) :
    exec c s = .next (answered s ([0x02, tag, result.code, BitVec.ofNat 8 table] ++ be 2 index.toNat ++ [0])) := by
  rw [read_taken h ht hc rfl read, List.append_nil, be_one]
  rfl

section
variable {s : State} {table index count : Nat}

theorem readEntries_unknown (h : tableEntries table = none) : s.readEntries table index count = (s, .unknownTable, 0, []) := by
  rw [State.readEntries, h]

theorem readEntries_malformed {last : Nat} (h : tableEntries table = some last) :
    s.readEntries table index 0 = (s, .malformed, 0, []) := by
  rw [State.readEntries, h]
  rfl

theorem readEntries_outOfRange {last : Nat} (h : tableEntries table = some last) (hc : count ≠ 0) (hi : last ≤ index) :
    s.readEntries table index count = (s, .outOfRange, 0, []) := by
  rw [State.readEntries, h]
  exact (if_neg hc).trans (if_pos hi)

theorem readEntries_done {last : Nat} (h : tableEntries table = some last) (hc : count ≠ 0) (hi : index < last) :
    s.readEntries table index count =
      (if table = 11 then s.restartMeters index (entriesReturned table index count) else s, .done,
        entriesReturned table index count,
          (List.range' index (entriesReturned table index count)).flatMap (s.readEntry table)) := by
  rw [State.readEntries, h]
  exact (if_neg hc).trans (if_neg (Nat.not_le.mpr hi))

end

/-- Settles O27: a read by its table, its count and its first index; only the restart of the meters has an effect. -/
theorem readTableReturnsEntries : Obligations.ReadTableReturnsEntries := by
  intro table tag index count c s h ht hc
  have positive : count ≠ 0 → count.toNat ≠ 0 := fun hn hz => hn (BitVec.eq_of_toNat_eq hz)
  refine ⟨fun unknown => read_refused (result := .unknownTable) h ht hc (readEntries_unknown (tableEntries_unknown unknown)),
    fun last hl => ⟨fun zero => ?_, fun hn hi => ?_, fun hn hi => ?_⟩⟩
  · subst zero
    exact read_refused (result := .malformed) h ht hc (readEntries_malformed hl)
  · exact read_refused (result := .outOfRange) h ht hc (readEntries_outOfRange hl (positive hn) hi)
  · have read := readEntries_done (s := s.setReserved true) hl (positive hn) hi
    have number : entriesReturned table index.toNat count.toNat =
        min count.toNat (min (last - index.toNat) (1017 / entrySize table)) := by
      rw [entriesReturned, hl]
      rfl
    generalize entriesReturned table index.toNat count.toNat = n at read number
    have entries : (s.setReserved true).readEntry table = s.readEntry table := rfl
    rw [entries] at read
    refine ⟨n, if table = 11 then s.restartMeters index.toNat n else s, number, read_taken (result := .done) h ht hc ?_ ?_,
      fun other => if_neg other, fun meters => ?_⟩
    · split <;> rfl
    · rw [read]
      split <;> rfl
    · rw [if_pos meters]
      refine ⟨rfl, fun j l hj => ?_⟩
      simp [State.restartMeters, List.getElem?_mapIdx, hj]

end Sys2Proof.Safety
end

-- ==== the emergency condition: output lines, the show and cues ====
section
/-! PROOFS. The emergency condition (R91, R151, R152) and the owners of the output lines (R142), by the two cases of the latch. With
a clear latch the condition asks only that the mute latch is clear; with a set one the show rests, the fader is cut and no generator
runs. -/

namespace Sys2Proof.Safety

open Sys2Proof.Machine

/-! ### Generators (R142) -/

/-- Each line is owned by at most one running generator. -/
def OneOwner (l : List Generator) : Prop := l.Pairwise fun g h => g.phase = .idle ∨ h.phase = .idle ∨ g.line ≠ h.line

/-- No generator runs. -/
def AllIdle (l : List Generator) : Prop := ∀ g ∈ l, g.phase = .idle

/-- A change of a generator that takes no line and starts no pattern. -/
def TakesNoLine (f : Generator → Generator) : Prop := ∀ g, (f g).line = g.line ∧ (g.phase = .idle → (f g).phase = .idle)

theorem takesNoLine_id : TakesNoLine id := fun _ => ⟨rfl, id⟩

theorem takesNoLine_stopped : TakesNoLine Generator.stopped := fun _ => ⟨rfl, fun _ => rfl⟩

theorem takesNoLine_giveUp (line : Nat) : TakesNoLine (Generator.giveUp line) := fun g => by
  unfold Generator.giveUp
  split
  · exact takesNoLine_stopped g
  · exact takesNoLine_id g

theorem takesNoLine_endPhase : TakesNoLine Generator.endPhase := fun g => by
  unfold Generator.endPhase
  cases hp : g.phase with
  | idle => exact ⟨rfl, fun _ => hp⟩
  | space => exact ⟨rfl, fun c => nomatch c⟩
  | pulse =>
    refine ⟨?_, fun c => nomatch c⟩
    cases g.mode with
    | single => rfl
    | repeating =>
      dsimp only
      split
      · rfl
      · split <;> rfl

theorem takesNoLine_tick : TakesNoLine Generator.tick := fun g => by
  unfold Generator.tick
  split
  · exact takesNoLine_id g
  · split
    · exact takesNoLine_endPhase g
    · exact ⟨rfl, id⟩

section
variable {l : List Generator} {f : Generator → Generator} (hf : TakesNoLine f)

theorem AllIdle.oneOwner (h : AllIdle l) : OneOwner l :=
  List.pairwise_iff_getElem.mpr fun _ _ _ _ _ => .inl (h _ (List.getElem_mem _))

include hf

theorem AllIdle.map (h : AllIdle l) : AllIdle (l.map f) := fun _ hx => by
  obtain ⟨g, hg, rfl⟩ := List.mem_map.mp hx
  exact (hf g).2 (h g hg)

theorem AllIdle.modify (h : AllIdle l) (i : Nat) : AllIdle (l.modify i f) := fun x hx => by
  obtain ⟨j, hj, rfl⟩ := List.mem_iff_getElem.mp hx
  rw [List.getElem_modify]
  split
  · exact (hf _).2 (h _ (List.getElem_mem _))
  · exact h _ (List.getElem_mem _)

/-- Two owners that give nothing but lines up stay apart. -/
theorem apart_of_takesNoLine {f' : Generator → Generator} (hf' : TakesNoLine f') {g h : Generator}
    (apart : g.phase = .idle ∨ h.phase = .idle ∨ g.line ≠ h.line) :
    (f g).phase = .idle ∨ (f' h).phase = .idle ∨ (f g).line ≠ (f' h).line := by
  rw [(hf g).1, (hf' h).1]
  exact apart.imp (hf g).2 (.imp_left (hf' h).2)

theorem OneOwner.map (h : OneOwner l) : OneOwner (l.map f) := List.pairwise_map.mpr (h.imp (apart_of_takesNoLine hf hf))

theorem OneOwner.modify (h : OneOwner l) (i : Nat) : OneOwner (l.modify i f) := by
  refine List.pairwise_iff_getElem.mpr fun j k hj hk hjk => ?_
  rw [List.length_modify] at hj hk
  have apart := List.pairwise_iff_getElem.mp h j k hj hk hjk
  rw [List.getElem_modify, List.getElem_modify]
  split
  · split
    · exact apart_of_takesNoLine hf hf apart
    · exact apart_of_takesNoLine hf takesNoLine_id apart
  · split
    · exact apart_of_takesNoLine takesNoLine_id hf apart
    · exact apart

end

/-- A generator that has given a line up does not own it. -/
theorem giveUp_apart (line : Nat) (g : Generator) :
    (Generator.giveUp line g).phase = .idle ∨ (Generator.giveUp line g).line ≠ line := by
  unfold Generator.giveUp
  split
  · exact .inl rfl
  · rename_i h
    exact Classical.or_iff_not_imp_left.mpr fun running same => h ⟨running, same⟩

/-- A takeover (R143): the generators that owned the line have given it up, so the one that starts on it is its only owner. -/
theorem OneOwner.takeover {l : List Generator} (h : OneOwner l) (i : Nat) (x : Generator) :
    OneOwner ((l.map (Generator.giveUp x.line)).set i x) := by
  have others := h.map (takesNoLine_giveUp x.line)
  refine List.pairwise_iff_getElem.mpr fun j k hj hk hjk => ?_
  rw [List.length_set] at hj hk
  have apart := List.pairwise_iff_getElem.mp others j k hj hk hjk
  rw [List.length_map] at hj hk
  rw [List.getElem_set, List.getElem_set]
  split
  · rename_i first
    rw [if_neg (by omega), List.getElem_map]
    exact .inr ((giveUp_apart x.line _).imp_right Ne.symm)
  · split
    · rw [List.getElem_map]
      exact (giveUp_apart x.line _).imp_right .inr
    · exact apart

/-! ### The two cases of the latch -/

/-- The latch is clear. -/
structure LatchClear (s : State) : Prop where
  latch  : s.booth.latch = false
  mute   : s.snd.fader.muted = false
  owners : OneOwner s.booth.generators

/-- The latch is set, with what lasts of its setting (R152). -/
structure LatchHeld (s : State) : Prop where
  latch  : s.booth.latch = true
  mute   : s.snd.fader.muted = true
  rests  : s.seq.state = .idle ∨ s.seq.state = .stopped
  value  : s.snd.fader.value = 0
  target : s.snd.fader.target = 0
  idle   : AllIdle s.booth.generators

/-- The emergency condition with one owner for each line. -/
def Emergency (s : State) : Prop := LatchClear s ∨ LatchHeld s

theorem emergency_iff (s : State) : Emergency s ↔ LatchOk s ∧ OwnersOk s := by
  constructor
  · rintro (⟨latch, mute, owners⟩ | ⟨latch, mute, rests, value, target, idle⟩)
    · have off : s.booth.latch ≠ true := by rw [latch]; exact Bool.false_ne_true
      exact ⟨⟨fun c => absurd c off, fun c => absurd c off, fun c => absurd c off, mute.trans latch.symm⟩, owners⟩
    · exact ⟨⟨fun _ => rests, fun _ => ⟨value, target⟩, fun _ => idle, mute.trans latch.symm⟩, idle.oneOwner⟩
  · rintro ⟨⟨rests, fader, pulses, mute⟩, owners⟩
    cases latch : s.booth.latch with
    | false => exact .inl ⟨latch, mute.trans latch, owners⟩
    | true => exact .inr ⟨latch, mute.trans latch, rests latch, (fader latch).1, (fader latch).2, pulses latch⟩

section
variable {s u : State}

theorem LatchClear.congr (h : LatchClear s) (booth : u.booth = s.booth) (fader : u.snd.fader = s.snd.fader) : LatchClear u :=
  ⟨by rw [booth]; exact h.latch, by rw [fader]; exact h.mute, by rw [booth]; exact h.owners⟩

theorem LatchHeld.congr (h : LatchHeld s) (state : u.seq.state = s.seq.state) (booth : u.booth = s.booth)
    (fader : u.snd.fader = s.snd.fader) : LatchHeld u :=
  ⟨by rw [booth]; exact h.latch, by rw [fader]; exact h.mute, by rw [state]; exact h.rests, by rw [fader]; exact h.value,
    by rw [fader]; exact h.target, by rw [booth]; exact h.idle⟩

theorem Emergency.congr (h : Emergency s) (state : u.seq.state = s.seq.state) (booth : u.booth = s.booth)
    (fader : u.snd.fader = s.snd.fader) : Emergency u :=
  h.imp (fun h => h.congr booth fader) fun h => h.congr state booth fader

theorem LatchHeld.not_running (h : LatchHeld s) {q : ShowState} (hq : q ≠ .idle ∧ q ≠ .stopped) : s.seq.state ≠ q :=
  fun e => h.rests.elim (fun c => hq.1 (e.symm.trans c)) fun c => hq.2 (e.symm.trans c)

end

/-- A property of the show state, the booth lines and the fader is kept by the unpacker and the subtitle engine. -/
theorem alike_of_lines {P : State → Prop} (hP : ∀ {s u : State}, P s → u.seq.state = s.seq.state → u.booth = s.booth →
    u.snd.fader = s.snd.fader → P u) : Alike (fun _ => True) fun s u => u = s ∧ P s where
  agree := by rintro s _ ⟨rfl, -⟩; exact .refl _
  raise := by
    rintro s _ f - ⟨rfl, h⟩
    exact ⟨rfl, hP h (by rw [State.raise_seq]) (State.raise_booth _ f) (by rw [State.raise_snd])⟩
  send := by rintro s _ r ⟨rfl, h⟩; exact ⟨rfl, hP h rfl rfl rfl⟩
  tracks := by rintro s _ l - ⟨rfl, h⟩; exact ⟨rfl, hP h rfl rfl rfl⟩
  cells := by rintro s _ n ⟨rfl, h⟩; exact ⟨rfl, hP h rfl rfl rfl⟩
  sub := by rintro s _ x - ⟨rfl, h⟩; exact ⟨rfl, hP h rfl rfl rfl⟩

theorem emergency_alike : Alike (fun _ => True) fun s u => u = s ∧ Emergency s := alike_of_lines .congr

theorem held_alike : Alike (fun _ => True) fun s u => u = s ∧ LatchHeld s := alike_of_lines .congr

/-- With a clear latch the show's work keeps the condition whatever the show state becomes. -/
theorem clear_alike : AlikeShow (fun _ => True) fun s u => u = s ∧ LatchClear s where
  toAlike := alike_of_lines fun h _ booth fader => h.congr booth fader
  seq := by rintro s _ f - ⟨rfl, h⟩; exact ⟨rfl, h.congr rfl rfl⟩
  period := by rintro s _ p ⟨rfl, h⟩; exact ⟨rfl, h.congr rfl rfl⟩
  repeats := by rintro s _ n ⟨rfl, h⟩; exact ⟨rfl, h.congr rfl rfl⟩
  lanes := by rintro s _ l - - ⟨rfl, h⟩; exact ⟨rfl, h.congr rfl rfl⟩
  acct := by rintro s _ a ⟨rfl, h⟩; exact ⟨rfl, h.congr rfl rfl⟩
  licence := by rintro s _ i ⟨rfl, h⟩; exact ⟨rfl, h.congr rfl rfl⟩
  cursor := by rintro s _ ⟨rfl, h⟩; exact ⟨rfl, h.congr rfl rfl⟩

/-! ### Cues -/

/-- A property that each kind of effect of a cue keeps (R130 to R135). -/
structure CueKept (P : State → Prop) : Prop where
  raise       : ∀ {s : State} f, P s → P (s.raise f)
  updCue      : ∀ {s : State} f, P s → P (s.updCue f)
  setCueLevel : ∀ {s : State} i l, P s → P (s.setCueLevel i l)
  linePulse   : ∀ {s : State} g line mode count pulse space, P s → P (s.linePulse g line mode count pulse space)
  pulseStop   : ∀ {s : State} g, P s → P (s.pulseStop g)
  faderCue    : ∀ {s : State} target rate, P s → P (s.faderCue target rate)
  activateMap : ∀ {s : State} m, P s → P (s.activateMap m)
  nameActive  : ∀ {s : State} t, P s → P (s.nameActive t)

section
variable {P : State → Prop} (hP : CueKept P) {s : State}
include hP

theorem CueKept.takeFlat (c : Option Cue) (h : P s) : P (takeFlat s c) := by
  cases c with
  | none => exact hP.raise _ h
  | some c =>
    cases c with
    | empty => exact h
    | lineLevel line level => exact hP.setCueLevel line level h
    | linePulse g line mode count pulse space => exact hP.linePulse g line mode count pulse space h
    | pulseStop g => exact hP.pulseStop g h
    | fader target rate => exact hP.faderCue target rate h
    | route map => exact hP.activateMap map h
    | subtitles track => exact hP.nameActive track h
    | callMacro first length => exact h
    | mark tag => exact hP.raise _ (hP.updCue (fun c => { c with lastMark := tag }) h)
    | holdShow => exact hP.updCue (fun c => { c with pendingHold := true }) h

theorem CueKept.takeFlats (l : List (Option Cue)) (h : P s) : P (l.foldl Safety.takeFlat s) := by
  induction l generalizing s with
  | nil => exact h
  | cons c l ih => exact ih (hP.takeFlat c h)

/-- A macro run from an input takes the entries of its flat run (R134). -/
theorem CueKept.runEntries (left i : Nat) (h : P s) : P (State.runEntries (State.expandMacro Config.macroDepth) left i s) := by
  rw [runEntries_flat (takeCue_flat Config.macroDepth)]
  exact hP.takeFlats _ h

/-- The cue work of a boundary takes the entries of a flat run of its sheet (R127). -/
theorem CueKept.cueWork (f : Nat) (h : P s) : P (s.cueWork f) := by
  cases hk : s.cue.cursor with
  | none => rw [cueWork_none hk]; exact h
  | some k =>
    rw [State.cueWork, sheetWork_flat f 512 hk]
    exact hP.updCue (fun c => { c with cursor := _, stack := _ }) (hP.takeFlats _ h)

end

theorem LatchClear.updFader {s : State} (h : LatchClear s) {f : Fader → Fader} (hf : ∀ x, (f x).muted = x.muted) :
    LatchClear (s.updFader f) := ⟨h.latch, (hf _).trans h.mute, h.owners⟩

theorem LatchClear.setGenerators {s : State} (h : LatchClear s) {l : List Generator} (hl : OneOwner l) :
    LatchClear (s.setGenerators l) := ⟨h.latch, h.mute, hl⟩

theorem LatchHeld.setGenerators {s : State} (h : LatchHeld s) {l : List Generator} (hl : AllIdle l) :
    LatchHeld (s.setGenerators l) := ⟨h.latch, h.mute, h.rests, h.value, h.target, hl⟩

theorem clear_cueKept : CueKept LatchClear where
  raise f h := (clear_alike.raise f trivial ⟨rfl, h⟩).2
  updCue _ h := h.congr rfl rfl
  setCueLevel _ _ h := ⟨h.latch, h.mute, h.owners⟩
  linePulse g line mode count pulse space h := by
    unfold State.linePulse
    rw [if_neg (by simp [h.latch])]
    exact h.setGenerators (h.owners.takeover g ⟨.pulse, line, mode, pulse, space, count, pulse⟩)
  pulseStop g h := h.setGenerators (h.owners.modify takesNoLine_stopped g)
  faderCue target rate h := by
    unfold State.faderCue
    split
    · exact h.updFader fun _ => rfl
    · exact h.updFader fun _ => rfl
  activateMap _ h := h.congr rfl rfl
  nameActive t h := (clear_alike.nameActive ⟨rfl, h⟩ t).2

/-- While the latch is set a LINE_PULSE has no effect (R143) and a FADER changes the saved target alone (R93). -/
theorem held_cueKept : CueKept LatchHeld where
  raise f h := (held_alike.raise f trivial ⟨rfl, h⟩).2
  updCue _ h := h.congr rfl rfl rfl
  setCueLevel _ _ h := ⟨h.latch, h.mute, h.rests, h.value, h.target, h.idle⟩
  linePulse g line mode count pulse space h := by
    unfold State.linePulse
    rw [if_pos h.latch]
    exact h
  pulseStop g h := h.setGenerators (h.idle.modify takesNoLine_stopped g)
  faderCue target rate h := by
    unfold State.faderCue
    rw [if_pos (.inl h.mute)]
    exact ⟨h.latch, h.mute, h.rests, h.value, h.target, h.idle⟩
  activateMap _ h := h.congr rfl rfl rfl
  nameActive t h := (held_alike.nameActive ⟨rfl, h⟩ t).2

/-! ### The show with a clear latch -/

section
variable {s : State} (h : LatchClear s)
include h

theorem LatchClear.holdEvent : LatchClear s.holdEvent := h.updFader fun _ => by split <;> rfl

theorem LatchClear.resumeEvent : LatchClear s.resumeEvent := h.updFader fun _ => by split <;> rfl

theorem LatchClear.updSeq (f : Sequencer → Sequencer) : LatchClear (s.updSeq f) := h.congr rfl rfl

theorem LatchClear.raise (f : Flag) : LatchClear (s.raise f) := clear_cueKept.raise f h

theorem LatchClear.enterHolding : LatchClear s.enterHolding := (h.updSeq _).holdEvent

theorem LatchClear.enterStalled : LatchClear s.enterStalled := (((h.updSeq _).raise .stall).holdEvent).congr rfl rfl

theorem LatchClear.present (f : Nat) : LatchClear (s.present f) := by
  have judged := (clear_alike.accountVerdict (clear_alike.sendVerdict ⟨rfl, h⟩ f (s.verdict f)) trivial f (s.verdict f)).2
  unfold State.present
  dsimp only
  generalize (s.sendVerdict f (s.verdict f)).accountVerdict f (s.verdict f) = v at judged
  have counted : LatchClear (v.countRepeat (s.verdict f)) := by
    unfold State.countRepeat
    dsimp only
    generalize (if s.verdict f = true then 0 else v.repeats + 1) = n
    split
    · exact LatchClear.enterStalled (judged.congr rfl rfl)
    · exact judged.congr rfl rfl
  exact (clear_alike.advanceWindows ⟨rfl, counted⟩ f).2

theorem LatchClear.startFader (target : Option Nat) : LatchClear (s.startFader target) := by
  cases target with
  | none => exact h
  | some t => exact h.updFader (f := fun f => { f with target := t }) fun _ => rfl

theorem LatchClear.openRecord : LatchClear s.openRecord := (clear_alike.joinLog ⟨rfl, h⟩ trivial _).2

theorem LatchClear.startComposition : LatchClear s.startComposition := by
  have begun := (h.congr (u := s.setPeriod (samplesPerFrame s.currentComposition.rateCode)) rfl rfl).raise .compositionStart
  have mapped := (clear_cueKept.activateMap s.currentComposition.map begun).startFader s.currentComposition.fader
  have named := clear_cueKept.nameActive s.currentComposition.subtitle mapped
  exact (clear_cueKept.updCue (fun k => { k with
    cursor := s.currentComposition.sheet.map fun x => { next := x.1, stop := x.1 + x.2 } }) named).openRecord

theorem LatchClear.presented (m : Mix) : LatchClear (presented m s) := by
  have started : LatchClear (if s.seq.frame = 0 then s.startComposition else s) := by
    split
    · exact h.startComposition
    · exact h
  have shown := (started.updSeq fun q => { q with frame := s.seq.frame + 1 }).present s.seq.frame
  have formed := clear_alike.frameBlock ⟨rfl, shown⟩ trivial trivial m s.seq.frame
  exact (clear_alike.subtitleWork formed s.seq.frame).2

theorem LatchClear.playFrame (m : Mix) : LatchClear (s.playFrame m) := by
  rw [playFrame_eq]
  exact clear_cueKept.cueWork _ (h.presented m)

theorem LatchClear.afterAdvance (m : Mix) : LatchClear (s.afterAdvance m) := by
  unfold State.afterAdvance
  split
  · exact (clear_alike.silentBlock (clear_alike.enterEnded ⟨rfl, h⟩)).2
  · split
    · exact (h.updSeq _).playFrame m
    · exact (clear_alike.silentBlock (clear_alike.enterPreroll ⟨rfl, h⟩)).2

theorem LatchClear.advancePosition : LatchClear s.advancePosition := (clear_alike.advancePosition ⟨rfl, h⟩ trivial trivial).2

theorem LatchClear.playBoundary (m : Mix) : LatchClear (s.playBoundary m) := by
  unfold State.playBoundary
  split
  · exact h.playFrame m
  · have closed := (clear_alike.closeRecord ⟨rfl, clear_cueKept.cueWork s.seq.frame h⟩).2
    exact (closed.raise .compositionEnd).advancePosition.afterAdvance m

theorem LatchClear.prerollBoundary (m : Mix) : LatchClear (s.prerollBoundary m) := by
  have entered := (h.updSeq fun q => { q with state := .playing, cleared := true, prerollTimer := none }).playBoundary m
  unfold State.prerollBoundary
  split
  · dsimp only
    split
    · exact entered
    · split
      · exact entered
      · have barred := fun reason => (clear_alike.writeBarred ⟨rfl, h⟩ trivial trivial reason).2
        exact (barred _).advancePosition.afterAdvance m
  · exact (clear_alike.silentBlock ⟨rfl, h⟩).2

theorem LatchClear.stalledBoundary (m : Mix) : LatchClear (s.stalledBoundary m) := by
  unfold State.stalledBoundary
  split
  · exact ((h.updSeq _).resumeEvent).playBoundary m
  · exact (clear_alike.silentBlock (clear_alike.send .hold ⟨rfl, h⟩)).2

theorem LatchClear.boundaryWork (m : Mix) : LatchClear (s.boundaryWork m) := by
  have silent := (clear_alike.silentBlock ⟨rfl, h⟩).2
  unfold State.boundaryWork
  split
  · exact h.prerollBoundary m
  · exact h.playBoundary m
  · exact h.stalledBoundary m
  · exact (clear_alike.silentBlock (clear_alike.send .hold ⟨rfl, h⟩)).2
  all_goals exact silent

theorem LatchClear.endExpansion : LatchClear s.endExpansion := by
  have ended := clear_cueKept.updCue (fun c => { c with stack := [], pendingHold := false }) h
  unfold State.endExpansion
  dsimp only
  split
  · unfold State.holdShow
    split
    · exact ended.enterHolding
    · exact ended
  · exact ended

theorem LatchClear.endBySkip : LatchClear s.endBySkip := by
  have closed : LatchClear (if s.seq.state.onAir then s.closeRecord.raise .compositionEnd else s) := by
    split
    · exact (clear_alike.closeRecord ⟨rfl, h⟩).2.raise .compositionEnd
    · exact h
  unfold State.endBySkip
  dsimp only
  split
  · exact (closed.updSeq _).resumeEvent
  · exact closed.updSeq _

theorem LatchClear.showCommand {u : State} (c : ShowCommand) (hu : s.showCommand c = some u) : LatchClear u := by
  have taken : ∀ {q : Prop} [Decidable q] {v : State}, (if q then some v else none) = some u → LatchClear v → LatchClear u :=
    fun {q} _ {v} e hv => by
      split at e
      · cases e; exact hv
      · cases e
  cases c with
  | start => exact taken hu (clear_alike.enterPreroll ⟨rfl, h⟩).2
  | hold => exact taken hu h.enterHolding
  | resume => exact taken hu (h.updSeq _).resumeEvent
  | stop => exact taken hu (clear_alike.enterStopped ⟨rfl, h⟩ _).2
  | skip =>
    have advanced := h.endBySkip.advancePosition
    refine taken hu ?_
    split
    · exact (clear_alike.enterEnded ⟨rfl, advanced⟩).2
    · exact (clear_alike.enterPreroll ⟨rfl, advanced⟩).2
  | clear => exact taken hu ((clear_alike.unscheduleAll ⟨rfl, h⟩).2.congr rfl rfl)

end

end Sys2Proof.Safety
end

-- ==== the emergency condition: every step ====
section
/-! PROOFS. The emergency condition while the latch is set (R152), at its setting and its release (R151, R153), and under every
command. -/

namespace Sys2Proof.Safety

open Sys2Proof.Machine

/-! ### The show while the latch is set -/

/-- CLEAR alone is accepted at rest (R34). -/
theorem refused_at_rest {c : ShowCommand} (h : c ≠ .clear) : .idle ∉ acceptedIn c ∧ .stopped ∉ acceptedIn c := by
  cases c with
  | clear => exact absurd rfl h
  | start => decide
  | hold => decide
  | resume => decide
  | skip => decide
  | stop => decide

section
variable {s : State} (h : LatchHeld s)
include h

/-- At rest a boundary puts a silent block in play (R26, R77). -/
theorem LatchHeld.boundaryWork (m : Mix) : LatchHeld (s.boundaryWork m) := by
  have silent : LatchHeld s.silentBlock := h.congr rfl rfl rfl
  unfold State.boundaryWork
  rcases h.rests with hq | hq
  · rw [hq]; exact silent
  · rw [hq]; exact silent

/-- A fader at 0 with target 0 stays there (R92). -/
theorem LatchHeld.stepFader : LatchHeld s.stepFader := by
  refine ⟨h.latch, h.mute, h.rests, ?_, h.target, h.idle⟩
  change faderStep s.snd.fader.value s.snd.fader.target s.snd.fader.rate = 0
  rw [h.value, h.target]
  exact faderStep_at_target 0 _

/-- A pending hold finds no show to hold (R133). -/
theorem LatchHeld.endExpansion : LatchHeld s.endExpansion := by
  have ended := held_cueKept.updCue (fun c => { c with stack := [], pendingHold := false }) h
  unfold State.endExpansion
  dsimp only
  split
  · unfold State.holdShow
    rw [if_neg (ended.not_running (by decide))]
    exact ended
  · exact ended

/-- CLEAR leads to IDLE (R54). -/
theorem LatchHeld.showCommand {u : State} (c : ShowCommand) (hu : s.showCommand c = some u) : LatchHeld u := by
  by_cases hc : c = .clear
  · subst hc
    have gone := (held_alike.unscheduleAll ⟨rfl, h⟩).2
    unfold State.showCommand State.clearShow at hu
    dsimp only at hu
    split at hu
    · cases hu
      exact ⟨gone.latch, gone.mute, .inl rfl, gone.value, gone.target, gone.idle⟩
    · cases hu
  · have refused : s.seq.state ∉ acceptedIn c :=
      h.rests.elim (fun hq => hq ▸ (refused_at_rest hc).1) fun hq => hq ▸ (refused_at_rest hc).2
    rw [showCommand_none refused] at hu
    cases hu

end

/-! ### The latch is set and released -/

/-- The setting of the latch (R151) gives what lasts of it. -/
theorem held_of_latchSet {s t : State} (h : LatchSet s t) : LatchHeld t := by
  have fader := h.fader
  refine ⟨h.latch, by rw [fader], ?_, by rw [fader], by rw [fader], fun g hg => ?_⟩
  · rw [h.seq, emergencySequencer]
    split
    · exact .inl ‹_›
    · split
      · exact .inr ‹_›
      · exact .inr rfl
  · rw [h.generators] at hg
    obtain ⟨x, -, rfl⟩ := List.mem_map.mp hg
    rfl

section
variable {s : State} (h : Emergency s)
include h

theorem Emergency.setLatch : Emergency s.setLatch := by
  rcases h with h | h
  · exact .inr (held_of_latchSet (setLatch_set h.latch))
  · rw [setLatch_of_set h.latch]
    exact .inr h

theorem Emergency.releaseLatch {u : State} (hu : s.releaseLatch = some u) : Emergency u := by
  have owners : OneOwner s.booth.generators := h.elim (·.owners) (·.idle.oneOwner)
  unfold State.releaseLatch at hu
  split at hu
  · cases hu
    exact .inl ⟨rfl, rfl, owners⟩
  · cases hu

/-! ### Events -/

theorem Emergency.showCommand {u : State} (c : ShowCommand) (hu : s.showCommand c = some u) : Emergency u :=
  h.imp (·.showCommand c hu) (·.showCommand c hu)

theorem Emergency.raise (f : Flag) : Emergency (s.raise f) := (emergency_alike.raise f trivial ⟨rfl, h⟩).2

theorem Emergency.frameBoundary : Emergency s.frameBoundary := by
  have done : Emergency (boundaryDone s) := by
    refine Emergency.congr (s := (State.boundaryWork s.mix s.stepFader.startExpansion).endExpansion) ?_ rfl rfl rfl
    rcases h with h | h
    · have stepped : LatchClear s.stepFader := h.updFader fun _ => rfl
      exact .inl ((clear_cueKept.updCue _ stepped).boundaryWork s.mix).endExpansion
    · exact .inr ((held_cueKept.updCue _ h.stepFader).boundaryWork s.mix).endExpansion
  rw [frameBoundary_eq, countFlow_eq]
  exact done.congr rfl rfl rfl

theorem Emergency.inputMacro (first length : Nat) : Emergency (s.inputMacro first length) :=
  h.imp (fun h => (clear_cueKept.runEntries length first (clear_cueKept.updCue _ h)).endExpansion)
    fun h => (held_cueKept.runEntries length first (held_cueKept.updCue _ h)).endExpansion

/-- A show command of an input is that command, or INPUT_REFUSED (R148). -/
theorem Emergency.inputCommand (c : ShowCommand) : Emergency ((s.showCommand c).getD (s.raise .inputRefused)) := by
  cases hu : s.showCommand c with
  | none => exact h.raise _
  | some u => exact h.showCommand c hu

theorem Emergency.inputAction (a : InputAction) : Emergency (s.inputAction a) := by
  cases a with
  | nothing => exact h
  | start => exact h.inputCommand .start
  | hold => exact h.inputCommand .hold
  | resume => exact h.inputCommand .resume
  | stop => exact h.inputCommand .stop
  | skip => exact h.inputCommand .skip
  | runMacro first length => exact h.inputMacro first length
  | emergency => exact h

/-- The condition asks nothing of the inputs. -/
theorem Emergency.withInputs (l : List Input) : Emergency { s with booth := { s.booth with inputs := l } } :=
  h.imp (fun h => ⟨h.latch, h.mute, h.owners⟩) fun h => ⟨h.latch, h.mute, h.rests, h.value, h.target, h.idle⟩

theorem Emergency.acceptChange (i : Nat) : Emergency (s.acceptChange i) := by
  have taken := h.withInputs (s.booth.inputs.modify i fun k => { k with debounced := k.raw, waiting := none })
  unfold State.acceptChange
  dsimp only
  split
  · split
    · split
      · exact taken.setLatch
      · exact taken
    · split
      · exact taken.inputAction _
      · exact taken
  · exact taken

omit h in
theorem Emergency.event {work : State → State} (hw : Emergency (work s)) : Emergency (Machine.event work s) := by
  rw [event_eq]
  exact hw.congr rfl rfl rfl

theorem Emergency.acceptEdge (i : Nat) : Emergency (s.acceptEdge i) := Emergency.event (h.acceptChange i)

theorem Emergency.changeInput (i : Nat) (level : InLevel) : Emergency (s.changeInput i level) := by
  have raw := h.withInputs (s.booth.inputs.modify i fun k => { k with raw := level })
  unfold State.changeInput
  split
  · exact h
  · dsimp only
    split
    · exact raw.withInputs _
    · split
      · exact raw.acceptEdge i
      · exact raw.withInputs _

/-- The generators change in what takes no line. -/
theorem Emergency.mapGenerators {f : Generator → Generator} (hf : TakesNoLine f) :
    Emergency (s.setGenerators (s.booth.generators.map f)) :=
  h.imp (fun h => h.setGenerators (h.owners.map hf)) fun h => h.setGenerators (h.idle.map hf)

theorem Emergency.millisecondTick (order : List (Fin 8)) : Emergency (s.millisecondTick order) := by
  have ticked : Emergency s.tickLines := ((h.mapGenerators takesNoLine_tick).withInputs
    (s.booth.inputs.map fun k => { k with waiting := k.waiting.map (· + 1) })).congr rfl rfl rfl
  unfold State.millisecondTick
  generalize s.dueInputs order = l
  generalize s.tickLines = u at ticked
  induction l generalizing u with
  | nil => exact ticked
  | cons i l ih => exact ih _ (ticked.acceptEdge i)

theorem Emergency.phaseEnd (g : Nat) : Emergency (s.setGenerators (s.booth.generators.modify g Generator.endPhase)) :=
  h.imp (fun h => h.setGenerators (h.owners.modify takesNoLine_endPhase g))
    fun h => h.setGenerators (h.idle.modify takesNoLine_endPhase g)

/-- What happens in a show that runs happens with a clear latch. -/
theorem Emergency.ifRunning {q : ShowState} (hq : q ≠ .idle ∧ q ≠ .stopped) {u : State} (hu : LatchClear s → LatchClear u) :
    Emergency (if s.seq.state = q then u else s) := by
  rcases h with h | h
  · split
    · exact .inl (hu h)
    · exact .inl h
  · rw [if_neg (h.not_running hq)]
    exact .inr h

theorem Emergency.secondTick : Emergency s.secondTick := by
  have timed : ∀ {u v : State} (c : Prop) [Decidable c], LatchClear u → LatchClear v → Emergency (if c then u else v) :=
    fun {u v} c _ hu hv => by split <;> [exact .inl hu; exact .inl hv]
  have stops : ∀ {u : State} (reason), LatchClear u → LatchClear (u.enterStopped reason) := fun reason hu =>
    (clear_alike.enterStopped ⟨rfl, hu⟩ reason).2
  have counted : Emergency { s with clk := s.clk.second } := h.congr rfl rfl rfl
  unfold State.secondTick State.countTimers
  generalize ({ s with clk := s.clk.second } : State) = w at counted
  rcases counted with h | h
  · split
    · exact timed _ (stops _ (h.updSeq _)) (h.updSeq _)
    · exact timed _ (stops _ (h.updSeq _)) (h.updSeq _)
    all_goals exact .inl h
  · rcases h.rests with hq | hq
    · rw [hq]; exact .inr h
    · rw [hq]; exact .inr h

/-! ### Requests -/

theorem Emergency.storeEffects (before : State) (es : List Entry) (i : Nat) : Emergency (State.storeEffects before s i es) := by
  induction es generalizing s i with
  | nil => exact h
  | cons e es ih =>
    refine ih ?_ (i + 1)
    cases e with
    | line e =>
      exact h.imp (fun h => ⟨h.latch, h.mute, h.owners⟩) fun h => ⟨h.latch, h.mute, h.rests, h.value, h.target, h.idle⟩
    | input e =>
      unfold State.storeEffect
      dsimp only
      split
      · exact h.setLatch
      · exact h
    | settings e => exact h.congr rfl rfl rfl
    | track _ => exact h
    | composition _ => exact h
    | licence _ => exact h
    | routing _ => exact h
    | lane _ => exact h
    | cue _ => exact h

theorem Emergency.writeEntries (table index count : Nat) (entries : Bytes) :
    Emergency (s.writeEntries table index count entries).1 := by
  unfold State.writeEntries
  split
  · exact h
  split
  · exact h
  split
  · exact h
  split
  · exact h
  split
  · exact h
  · refine Emergency.storeEffects ?_ s _ index
    exact h.congr rfl rfl rfl

theorem Emergency.readEntries (table index count : Nat) : Emergency (s.readEntries table index count).1 := by
  unfold State.readEntries
  split
  · exact h
  · split
    · exact h
    · split
      · exact h
      · dsimp only
        split
        · exact h.congr rfl rfl rfl
        · exact h

/-- ARM is refused while the latch is set (R35). -/
theorem Emergency.armShow (slots : List Nat) : Emergency (s.armShow slots).1 := by
  unfold State.armShow
  split
  · exact h
  · rename_i open_
    split
    · exact h
    · rcases h with h | h
      · have armed : LatchClear { s with seq := ⟨.armed, slots, 1, 0, false, none, none, .none⟩ } := h.congr rfl rfl
        exact .inl (clear_alike.scheduleSlot (clear_alike.scheduleSlot ⟨rfl, armed⟩ _) _).2
      · exact absurd (.inr h.latch) open_

omit h in
theorem allIdle_off (n : Nat) : AllIdle (List.replicate n Generator.off) := fun g hg => by
  rw [List.eq_of_mem_replicate hg]
  rfl

theorem Emergency.warm : Emergency s.warm := by
  have cleared := (emergency_alike.emptyRegions ⟨rfl, h⟩ fun _ => true).2
  exact cleared.imp (fun h => ⟨h.latch, h.mute, (allIdle_off 4).oneOwner⟩)
    fun h => ⟨h.latch, h.mute, .inl rfl, rfl, rfl, allIdle_off 4⟩

theorem Emergency.perform (r : Request) : Emergency (s.perform r).1 := by
  cases r with
  | writeTable tag table index count entries => exact h.writeEntries ..
  | readTable tag table index count => exact h.readEntries ..
  | arm tag slots => exact h.armShow _
  | showCommand tag c =>
    unfold State.perform
    dsimp only
    split
    · rename_i u hu; exact h.showCommand c hu
    · exact h
  | releaseEmergency tag =>
    unfold State.perform
    dsimp only
    split
    · rename_i u hu; exact h.releaseLatch hu
    · exact h
  | setClock tag seconds => exact h.congr rfl rfl rfl
  | queryStatus tag => exact h
  | fetchShowings tag n => exact h
  | trimShowings tag n => exact h.congr rfl rfl rfl
  | setEventEnables tag m => exact h.congr rfl rfl rfl
  | clearEvents tag m => exact h.congr rfl rfl rfl
  | warmReset tag => exact h.warm
  | malformed payload => exact h

theorem Emergency.arbitrate : Emergency s.arbitrate := by
  rw [State.arbitrate_eq]
  exact h.congr rfl rfl rfl

theorem Emergency.execRequest (r : Request) : Emergency (s.execRequest r) := by
  have performed := (h.congr (u := s.setReserved true) rfl rfl rfl).perform r
  unfold State.execRequest
  dsimp only
  generalize (s.setReserved true).perform r = x at performed
  refine Emergency.arbitrate (Emergency.congr (s := if r.isWarm then x.1 else x.1.reportChange s.seq.state) ?_ rfl rfl rfl)
  split
  · exact performed
  · rw [State.reportChange_eq]
    exact performed.congr rfl rfl rfl

omit h in
theorem Emergency.serve (n : Nat) {s : State} (h : Emergency s) : Emergency (State.serve n s) := by
  induction n generalizing s with
  | zero => exact h
  | succ n ih =>
    unfold State.serve
    split
    · split
      · refine ih (Emergency.execRequest ?_ _)
        exact h.congr rfl rfl rfl
      · exact h
    · exact h

theorem Emergency.submit (r : Request) : Emergency (s.submit r) := by
  unfold State.submit
  split
  · exact Emergency.serve _ (h.congr rfl rfl rfl)
  · exact (h.raise _).arbitrate

/-! ### Commands -/

theorem Emergency.receive (b : Bytes) : Emergency (s.receive b) := by
  unfold State.receive
  split
  · exact h.congr rfl rfl rfl
  · exact h.congr rfl rfl rfl
  · unfold State.route
    split
    · exact h.congr rfl rfl rfl
    · split
      · refine Emergency.submit ?_ _
        exact h.congr rfl rfl rfl
      · exact h.congr rfl rfl rfl
    · split
      · exact (emergency_alike.essence ⟨rfl, h⟩ trivial trivial trivial _).2.arbitrate
      · exact h.congr rfl rfl rfl
    · exact h.congr rfl rfl rfl

omit h in
theorem emergency_powerOn (raw : List InLevel) (link : List LinkRecord) (pending : List Instr) :
    Emergency (State.powerOn raw link pending) := by
  cases latch : (Booth.powerOn raw).latch with
  | false => exact .inl ⟨latch, latch, (allIdle_off 4).oneOwner⟩
  | true => exact .inr ⟨latch, latch, .inl rfl, rfl, rfl, allIdle_off 4⟩

theorem Emergency.exec (c : Instr) {t : State} (ht : Machine.exec c s = .next t) : Emergency t := by
  have run : ∀ work, Machine.exec c s = Machine.run work s → Emergency (work s) → Emergency t := fun work e hw => by
    rw [e, Machine.run] at ht
    cases ht
    split
    · exact h
    · exact hw
  cases hr : requestOf c with
  | some r => exact run (fun s => s.submit r) (exec_request hr s) (h.submit r)
  | none =>
    cases c with
    | powerOnReset => cases ht; exact emergency_powerOn ..
    | resetAsserted => cases ht; exact (emergency_powerOn s.rawLevels s.link s.pending).congr rfl rfl rfl
    | parcelComplete bytes =>
      refine run (fun s => s.endMark bytes) rfl ?_
      unfold State.endMark
      split
      · exact h
      · split
        · exact h.congr rfl rfl rfl
        · refine Emergency.receive ?_ bytes
          exact h.congr rfl rfl rfl
    | frameBoundary => exact run _ rfl (.event h.frameBoundary)
    | millisecondTick order => exact run (fun s => s.millisecondTick order) rfl (h.millisecondTick order)
    | secondTick => exact run _ rfl (.event h.secondTick)
    | prerollTimeout => exact run _ rfl (.event (h.ifRunning (by decide) fun h => (clear_alike.enterStopped ⟨rfl, h⟩ _).2))
    | stallTimeout => exact run _ rfl (.event (h.ifRunning (by decide) fun h => (clear_alike.enterStopped ⟨rfl, h⟩ _).2))
    | stallTrigger => exact run _ rfl (.event (h.ifRunning (by decide) (·.enterStalled)))
    | flowInterval =>
      refine run _ rfl (.event ?_)
      split
      · exact h.congr rfl rfl rfl
      · exact h
    | phaseEnd g => exact run _ rfl (.event (h.phaseEnd g.val))
    | inputLevelChange i level =>
      cases ht
      split
      · exact h.withInputs _
      · exact h.changeInput _ _
    | acceptedEdge i =>
      refine run _ rfl ?_
      split
      · exact h.acceptEdge i.val
      · exact h
    | transmissionEnd =>
      refine run _ rfl ?_
      unfold State.endTransmission
      split
      · exact Emergency.serve _ (Emergency.arbitrate (h.congr rfl rfl rfl))
      · exact h
    | startMark =>
      refine run _ rfl ?_
      unfold State.beginParcel
      split
      · exact h.congr rfl rfl rfl
      · exact h.congr rfl rfl rfl
    | oversizeParcel =>
      refine run _ rfl ?_
      unfold State.oversize
      split
      · exact h
      · exact h.congr rfl rfl rfl
    | samplePeriod =>
      refine run _ rfl ?_
      unfold State.samplePeriod
      split
      · exact h
      · exact h.congr rfl rfl rfl
    | _ => cases hr

end

/-- Settles O57: the condition, in its two cases, is kept by every command. -/
theorem stepsKeepLatchAndOwners : Obligations.StepsKeepLatchAndOwners := by
  intro s t latch owners ht
  have h := (emergency_iff s).mpr ⟨latch, owners⟩
  refine (emergency_iff t).mp ?_
  unfold step at ht
  split at ht
  · refine Emergency.exec ?_ _ ht
    exact h.congr rfl rfl rfl
  · cases ht; exact h

end Sys2Proof.Safety
end

-- ==== macros run from an input ====
section
/-! PROOFS. A macro that an accepted edge runs (R136): its entries are those of its flat run (R134, R135), and an event of one entry
does what its kind does (R93, R115, R116, R130 to R133, R140, R143, R145). -/

namespace Sys2Proof.Safety

open Sys2Proof.Machine

/-! ### The event of a macro -/

/-- The part when an input's edge has been accepted and the expansion of its macro starts (R125, R147). -/
def macroStarted (s : State) (i : Nat) : State := (edgeTaken s i).startExpansion

/-- An active edge of an input whose action is no EMERGENCY hands its action on (R148). -/
theorem acceptChange_action {s : State} {i : Nat} (he : (s.inputEntry i).enabled = true)
    (hedge : edgeTo (s.input i).raw = (s.inputEntry i).edge) (ha : (s.inputEntry i).action ≠ .emergency) :
    s.acceptChange i = (edgeTaken s i).inputAction (s.inputEntry i).action := by
  rw [State.acceptChange, if_pos he, if_neg ha, if_pos hedge]
  rfl

/-- A macro from an input is the flat run of its entries in an expansion of its own (R134, R136). -/
theorem inputMacro_flat (s : State) (first length : Nat) :
    s.inputMacro first length = ((flatRun s Config.macroDepth first length).foldl takeFlat s.startExpansion).endExpansion := by
  have tables : flatRun s.startExpansion = flatRun s := flatRun_congr rfl
  rw [State.inputMacro, runEntries_flat (takeCue_flat Config.macroDepth), tables]

/-- An accepted edge that runs a macro, as one event. -/
theorem exec_macro {s : State} {i : Fin 8} {first length : Nat} (hr : s.inReset = false) (hw : (s.input i.val).waiting ≠ none)
    (he : (s.inputEntry i.val).enabled = true) (hedge : edgeTo (s.input i.val).raw = (s.inputEntry i.val).edge)
    (ha : (s.inputEntry i.val).action = .runMacro first length) :
    exec (.acceptedEdge i) s = .next (event (fun _ =>
      ((flatRun s Config.macroDepth first length).foldl takeFlat (macroStarted s i.val)).endExpansion) s) := by
  have run : s.acceptChange i.val = (edgeTaken s i.val).inputMacro first length := by
    rw [acceptChange_action he hedge (by rw [ha]; exact fun c => nomatch c), ha]
    rfl
  have tables : flatRun (edgeTaken s i.val) = flatRun s := flatRun_congr rfl
  rw [inputMacro_flat, tables] at run
  rw [exec_acceptedEdge hr hw, event, run]
  rfl

/-! ### The flat run of one entry -/

/-- An entry that is no MACRO is its own flat run. -/
theorem flatRun_plain {s : State} {first : Nat} {c : Cue} (hc : (s.cueEntry first).cue = c) (plain : ∀ a n, c ≠ .callMacro a n)
    (room : Nat) : flatRun s room first 1 = [some c] := by
  cases room with
  | zero =>
    rw [flatRun, List.range'_one, List.map_singleton, hc]
    cases c with
    | callMacro a n => exact absurd rfl (plain a n)
    | _ => rfl
  | succ room =>
    rw [flatRun, List.range'_one, List.flatMap_singleton, hc]
    cases c with
    | callMacro a n => exact absurd rfl (plain a n)
    | _ => rfl

/-- A macro of one entry that calls itself is met with no room left at last, and skipped (R135). -/
theorem flatRun_self {s : State} {first : Nat} (hc : (s.cueEntry first).cue = .callMacro first 1) (room : Nat) :
    flatRun s room first 1 = [none] := by
  induction room with
  | zero => rw [flatRun, List.range'_one, List.map_singleton, hc]
  | succ room ih =>
    rw [flatRun, List.range'_one, List.flatMap_singleton, hc]
    exact ih

/-! ### The end of the event -/

/-- The return stack is empty and no hold is pending: an expansion that ends here changes nothing more. -/
def EngineRests (v : State) : Prop := v.cue.stack = [] ∧ v.cue.pendingHold = false

theorem endExpansion_rests {v : State} (h : EngineRests v) : v.endExpansion = v := by
  obtain ⟨stack, pending⟩ := h
  have same : v.updCue (fun c => { c with stack := [], pendingHold := false }) = v := by
    rw [State.updCue, ← stack, ← pending]
  unfold State.endExpansion
  rw [pending, same]
  rfl

/-- A pending hold is handed on in PLAYING (R133). -/
theorem endExpansion_holds {v : State} (h : EngineRests v) : (v.updCue fun k => { k with pendingHold := true }).endExpansion =
    if v.seq.state = .playing then v.enterHolding else v := by
  obtain ⟨stack, pending⟩ := h
  have same : (v.updCue fun k => { k with pendingHold := true }).updCue
      (fun c => { c with stack := [], pendingHold := false }) = v := by
    rw [State.updCue, State.updCue, ← stack, ← pending]
  have handed : (v.updCue fun k => { k with pendingHold := true }).endExpansion = v.holdShow.getD v := by
    unfold State.endExpansion
    rw [same]
    rfl
  rw [handed, State.holdShow]
  split <;> rfl

/-- An event whose entries leave the show state and the management block alone is their work. -/
theorem macro_quiet {s v w : State} (hq : QueuesOk s) (work : v.endExpansion = w) (state : w.seq.state = s.seq.state)
    (mgmt : w.mgmt = s.mgmt) : event (fun _ => v.endExpansion) s = w := by
  rw [work]
  exact event_quiet (work := fun _ => w) state mgmt hq.idle

/-- An event whose entries raise a flag adds the arbiter's look at the lane. -/
theorem macro_raises {s w t : State} {f : Flag} (ht : t = event (fun _ => (w.raise f).endExpansion) s) (rests : EngineRests w)
    (state : w.seq.state = s.seq.state) : t = { w with mgmt := t.mgmt } ∧ t.mgmt.flags = withFlag w.mgmt.flags f := by
  have same : (w.raise f).endExpansion = w.raise f := endExpansion_rests (by rw [EngineRests, State.raise_cue]; exact rests)
  rw [same] at ht
  constructor
  · calc t = { w.raise f with mgmt := t.mgmt } := by rw [ht]; exact event_eq (fun _ => w.raise f) s
      _ = { w with mgmt := t.mgmt } := congrArg (fun u : State => { u with mgmt := t.mgmt }) (State.raise_eq w f)
  · rw [ht, event_flags, if_pos (by rw [State.raise_seq]; exact state), State.raise_flags]

/-- An event whose entries lead to another show state reports it. -/
theorem macro_changes {s v w t : State} (ht : t = event (fun _ => v.endExpansion) s) (work : v.endExpansion = w)
    (state : w.seq.state ≠ s.seq.state) :
    t = { w with mgmt := t.mgmt } ∧ t.mgmt.flags = withFlag w.mgmt.flags .showState := by
  rw [work] at ht
  constructor
  · rw [ht]
    exact event_eq (fun _ => w) s
  · rw [ht, event_flags, if_neg state]

/-! ### Kinds of cue -/

/-- A switch of the active track empties every region (R115, R116). -/
theorem nameActive_switches {s : State} {t : Option Nat} (h : s.sub.active ≠ t) :
    (s.nameActive t).sub.active = t ∧ (s.nameActive t).sub.schedule = s.sub.schedule ∧
    (∀ r, r ≤ 3 → (s.nameActive t).region r = none) ∧
    (s.nameActive t).link = s.link ++ (regionNumbers.filter fun r => (s.region r).isSome).map LinkRecord.clearRegion := by
  obtain ⟨active, schedule, link⟩ := nameActive_named s t
  rw [if_neg h] at link
  refine ⟨active, schedule, fun r hr => ?_, link⟩
  obtain ⟨-, -, -, regions, -⟩ := State.emptyRegions_spec { s with sub := { s.sub with active := t } } fun _ => true
  unfold State.nameActive
  rw [if_neg h, regions r hr]
  cases State.region { s with sub := { s.sub with active := t } } r <;> rfl

/-- The generators after a LINE_PULSE: it starts its pattern unless the latch is set (R143). -/
def pulsedGenerators (b : Booth) (g line : Nat) (mode : PulseMode) (count pulse space : Nat) : List Generator :=
  if b.latch then b.generators
  else (b.generators.map (Generator.giveUp line)).set g ⟨.pulse, line, mode, pulse, space, count, pulse⟩

theorem linePulse_eq (s : State) (g line : Nat) (mode : PulseMode) (count pulse space : Nat) :
    s.linePulse g line mode count pulse space =
      { s with booth := { s.booth with generators := pulsedGenerators s.booth g line mode count pulse space } } := by
  unfold State.linePulse pulsedGenerators
  split <;> rfl

/-- A FADER sets the saved target alone while muted, in HOLDING and in STALLED (R93). -/
theorem faderCue_eq (s : State) (target rate : Nat) : s.faderCue target rate = { s with snd := { s.snd with fader :=
    if s.snd.fader.muted = true ∨ s.seq.state = .holding ∨ s.seq.state = .stalled then { s.snd.fader with saved := target }
    else { s.snd.fader with target := target, rate := rate } } } := by
  unfold State.faderCue
  split <;> rfl

/-- Settles O48: a macro is its flat run, and the flat run of one entry is that entry's kind. -/
theorem cueMacrosByKind : Obligations.CueMacrosByKind := by
  refine ⟨fun i first s u hr hq hw he hedge ha hu => ⟨_, exec_macro hr hw he hedge ha, ?_⟩,
    fun i first length s u hr hw he hedge ha hu => hu ▸ exec_macro hr hw he hedge ha⟩
  generalize ht : event _ s = t
  subst hu
  have rests : EngineRests (macroStarted s i.val) := ⟨rfl, rfl⟩
  have plain : ∀ {c}, (s.cueEntry first).cue = c → (∀ a n, c ≠ .callMacro a n) →
      t = event (fun _ => (takeFlat (macroStarted s i.val) (some c)).endExpansion) s := fun hc hp => by
    rw [← ht, flatRun_plain hc hp]
    rfl
  have quiet : ∀ {c w}, (s.cueEntry first).cue = c → (∀ a n, c ≠ .callMacro a n) →
      takeFlat (macroStarted s i.val) (some c) = w → EngineRests w → w.seq.state = s.seq.state → w.mgmt = s.mgmt →
      t = w := fun hc hp hw rests state mgmt => by
    rw [plain hc hp, hw]
    exact macro_quiet hq (endExpansion_rests rests) state mgmt
  cases hc : (s.cueEntry first).cue with
  | empty => exact quiet hc (by simp) rfl rests rfl rfl
  | lineLevel line level => exact quiet hc (by simp) rfl rests rfl rfl
  | linePulse g line mode count pulse space =>
    refine (quiet hc (by simp) (linePulse_eq (macroStarted s i.val) g line mode count pulse space) rests rfl rfl).trans ?_
    rw [pulsedGenerators, show (macroStarted s i.val).booth.latch = s.booth.latch from rfl]
    split <;> rfl
  | pulseStop g => exact quiet hc (by simp) rfl rests rfl rfl
  | fader target rate => exact quiet hc (by simp) (faderCue_eq (macroStarted s i.val) target rate) rests rfl rfl
  | route map => exact quiet hc (by simp) rfl rests rfl rfl
  | subtitles track =>
    have named := (nameActive_rest (macroStarted s i.val) track).rest
    have done : t = (macroStarted s i.val).nameActive track := quiet hc (by simp) rfl (by rw [named]; exact rests)
      (by rw [named]; rfl) (by rw [named]; rfl)
    refine ⟨fun same => done.trans (if_pos same), fun other => ?_⟩
    obtain ⟨active, schedule, regions, link⟩ := nameActive_switches (s := macroStarted s i.val) other
    rw [done]
    exact ⟨active, schedule, regions, link, named⟩
  | callMacro again length =>
    rintro rfl rfl
    rw [flatRun_self hc] at ht
    exact macro_raises ht.symm rests rfl
  | mark tag =>
    exact macro_raises (w := (macroStarted s i.val).updCue fun c => { c with lastMark := tag }) (plain hc (by simp)) rests rfl
  | holdShow =>
    have ended := endExpansion_holds rests
    refine ⟨fun stays => ?_, fun playing => ?_⟩
    · exact (plain hc (by simp)).trans (macro_quiet hq (ended.trans (if_neg stays)) rfl rfl)
    · exact macro_changes (plain hc (by simp)) (ended.trans (if_pos playing)) (by rw [playing]; exact fun c => nomatch c)

end Sys2Proof.Safety
end

-- ==== the sound block: the units taken ====
section
/-! PROOFS. The units that a boundary takes from the sound tracks' queues (R75, R76): the unit of the frame, the queue without what
is older, and the cells that return. -/

namespace Sys2Proof.Safety

open Sys2Proof.Machine

/-- The units that leave a track's queue at a boundary that presents frame `f`: those of earlier frames and the unit of `f`. -/
def unitsGone (s : State) (k f : Nat) : List SoundUnit :=
  (s.track k).queue.takeWhile (fun u => decide (u.frame < f)) ++ (unitAt s (some k) f).toList

/-- A track whose units up to frame `f` have left, with their cells. -/
def afterUnits (s : State) (k f : Nat) : Track :=
  { s.track k with
    queue := (s.track k).queue.drop (unitsGone s k f).length
    cellsHeld := (s.track k).cellsHeld - unitCells (unitsGone s k f) }

/-- The units of a track up to frame `f` leave, and their cells return. -/
def dropUnits (s : State) (k f : Nat) : State :=
  (s.updTrack k fun t => { t with queue := (s.track k).queue.drop (unitsGone s k f).length }).returnCells k
    (unitCells (unitsGone s k f))

/-- A track's unit for frame `f` is the first unit that is not of an earlier frame, if it is the one of `f`. -/
theorem unitAt_eq (s : State) (k f : Nat) :
    unitAt s (some k) f = ((s.track k).queue.dropWhile fun u => decide (u.frame < f)).head?.filter fun u => u.frame = f := by
  have found := List.find?_eq_head?_dropWhile_not (fun u : SoundUnit => decide (f ≤ u.frame)) (s.track k).queue
  have older : (fun u : SoundUnit => !decide (f ≤ u.frame)) = fun u => decide (u.frame < f) := by
    funext u
    rw [← decide_not]
    exact decide_eq_decide.mpr Nat.not_le
  rw [older] at found
  exact congrArg (Option.filter fun u => u.frame = f) found

/-- What stays of a queue behind its first units up to a failed test and `n` more. -/
theorem drop_length_takeWhile_add (l : List SoundUnit) (p : SoundUnit → Bool) (n : Nat) :
    l.drop ((l.takeWhile p).length + n) = (l.dropWhile p).drop n := by
  have split_ := List.drop_length_add_append (l₁ := l.takeWhile p) (l₂ := l.dropWhile p) (i := n)
  rwa [List.takeWhile_append_dropWhile] at split_

/-- What a boundary takes from one sound track (R75, R76). -/
theorem takeUnit_eq (s : State) (k f : Nat) :
    s.takeUnit k f = (if unitAt s (some k) f = none then (dropUnits s k f).raise .soundGap else dropUnits s k f,
      unitAt s (some k) f) := by
  have unit := unitAt_eq s k f
  unfold State.takeUnit dropUnits unitsGone
  dsimp only
  cases hd : (s.track k).queue.dropWhile fun u => decide (u.frame < f) with
  | nil =>
    rw [hd] at unit
    have unit : unitAt s (some k) f = none := unit
    rw [unit, if_pos rfl, Option.toList_none, List.append_nil, ← Nat.add_zero (List.length _), drop_length_takeWhile_add, hd]
    rfl
  | cons u rest =>
    rw [hd, List.head?_cons, Option.filter_some] at unit
    dsimp only
    split
    · rename_i here
      rw [if_pos (by simpa using here)] at unit
      rw [unit, if_neg (by simp), Option.toList_some, List.length_append, drop_length_takeWhile_add, hd, unitCells_append]
      rfl
    · rename_i here
      rw [if_neg (by simpa using here)] at unit
      rw [unit, if_pos rfl, Option.toList_none, List.append_nil, ← Nat.add_zero (List.length _), drop_length_takeWhile_add, hd]
      rfl

theorem track_dropUnits {s : State} {k : Nat} (hk : k < s.tracks.length) (f : Nat) (n : Nat) :
    (dropUnits s k f).track n = if k = n then afterUnits s n f else s.track n := by
  unfold dropUnits afterUnits
  rw [State.track_returnCells, State.track_updTrack_same _ hk, State.track_updTrack]
  have stays : k < (s.updTrack k fun t => { t with queue := (s.track k).queue.drop (unitsGone s k f).length }).tracks.length := by
    simpa using hk
  by_cases h : k = n
  · subst h
    rw [if_pos ⟨rfl, stays⟩, if_pos rfl]
  · rw [if_neg (fun c => h c.1.symm), if_neg (fun c => h c.1.symm), if_neg h]

/-! ### The units of an optional track -/

/-- What the chain gets from an optional sound track: its unit for frame `f`, with its channel count. -/
def blockUnit (s : State) (t : Option Nat) (f : Nat) : Option (SoundUnit × Nat) :=
  t.bind fun k => (unitAt s (some k) f).map fun u => (u, (s.trackEntry k).channels.getD 0)

theorem unitAt_congr {s u : State} {t : Option Nat} (h : ∀ k, t = some k → (u.track k).queue = (s.track k).queue) (f : Nat) :
    unitAt u t f = unitAt s t f := by
  cases t with
  | none => rfl
  | some k => rw [unitAt, unitAt, Option.bind_some, Option.bind_some, h k rfl]

/-- What a boundary takes from an optional sound track. -/
structure TrackTaken (t : Option Nat) (f : Nat) (s u : State) : Prop extends UnitsTaken s u where
  length : u.tracks.length = s.tracks.length
  tracks : ∀ k, u.track k = if t = some k then afterUnits s k f else s.track k
  gap    : flagSet u.mgmt.flags .soundGap = true ↔ flagSet s.mgmt.flags .soundGap = true ∨ ∃ k, t = some k ∧ unitAt s t f = none

theorem takeTrack_takes {s : State} {t : Option Nat} (ht : ∀ k, t = some k → k < s.tracks.length) (f : Nat) :
    (s.takeTrack t f).2 = blockUnit s t f ∧ TrackTaken t f s (s.takeTrack t f).1 := by
  have taken := takeTrack_taken s t f
  cases t with
  | none => exact ⟨rfl, taken, rfl, fun k => by rw [if_neg (by simp)]; rfl, by simp [State.takeTrack]⟩
  | some k =>
    have eq := takeUnit_eq s k f
    have tracks := track_dropUnits (ht k rfl) f
    have length : (dropUnits s k f).tracks.length = s.tracks.length := by simp [dropUnits]
    have flags : (dropUnits s k f).mgmt = s.mgmt := rfl
    generalize dropUnits s k f = d at eq tracks length flags
    unfold State.takeTrack at taken ⊢
    dsimp only at taken ⊢
    rw [eq] at taken ⊢
    dsimp only at taken ⊢
    refine ⟨rfl, taken, ?_, fun n => ?_, ?_⟩
    · split <;> simp [length]
    · simp only [Option.some.injEq]
      split
      · rw [State.raise_track, tracks]
      · rw [tracks]
    · split
      · rename_i none_
        simp [State.raise_flags, flagSet_withFlag, none_]
      · rename_i some_
        simp [flags, some_]

theorem blockUnit_congr {s u : State} {t : Option Nat} (tables : u.tables.track = s.tables.track)
    (h : ∀ k, t = some k → (u.track k).queue = (s.track k).queue) (f : Nat) : blockUnit u t f = blockUnit s t f := by
  cases t with
  | none => rfl
  | some k =>
    rw [blockUnit, blockUnit, Option.bind_some, Option.bind_some, unitAt_congr h, State.trackEntry, State.trackEntry, tables]

/-- The main and the auxiliary track of a composition are two. -/
theorem soundTracks_ne {s : State} {k : Nat} (main : s.currentTrack .soundMain = some k) : s.currentTrack .soundAux ≠ some k := by
  intro aux
  have kind : ∀ kind, s.currentTrack kind = some k → (s.trackEntry k).kind = kind := fun kind h => by
    unfold State.currentTrack State.trackOf at h
    split at h
    · have := List.find?_some h
      simp at this
      exact this.1.2
    · cases h
  exact nomatch (kind _ main).symm.trans (kind _ aux)

/-- A track is the main or the auxiliary sound track of the current composition. -/
def Sounding (s : State) (k : Nat) : Prop := s.currentTrack .soundMain = some k ∨ s.currentTrack .soundAux = some k

/-- What a boundary that presents frame `f` takes from the queues. -/
structure QueuesTaken (f : Nat) (s u : State) : Prop extends UnitsTaken s u where
  sounding : ∀ k, Sounding s k → u.track k = afterUnits s k f
  silent   : ∀ k, ¬ Sounding s k → u.track k = s.track k
  gap      : flagSet u.mgmt.flags .soundGap = true ↔ flagSet s.mgmt.flags .soundGap = true ∨
    ∃ k, Sounding s k ∧ unitAt s (some k) f = none

theorem frameBlock_takes {s : State} (hl : s.tracks.length = 32) (m : Mix) (f : Nat) :
    ∃ u, QueuesTaken f s u ∧
      (s.frameBlock m f = u.silentBlock ∧
          blockUnit s (s.currentTrack .soundMain) f = none ∧ blockUnit s (s.currentTrack .soundAux) f = none ∨
        s.frameBlock m f = u.soundBlock m (inputChannels s.clk.period (blockUnit s (s.currentTrack .soundMain) f)
          (blockUnit s (s.currentTrack .soundAux) f))) := by
  have inside : ∀ {v : State} kind, v.tracks.length = 32 → ∀ k, s.currentTrack kind = some k → k < v.tracks.length :=
    fun kind h k hk => h ▸ currentTrack_lt hk
  have two := fun k => soundTracks_ne (s := s) (k := k)
  unfold State.frameBlock
  dsimp only
  obtain ⟨main, first⟩ := takeTrack_takes (inside .soundMain hl) f
  generalize s.takeTrack (s.currentTrack .soundMain) f = r1 at main first
  obtain ⟨aux, second⟩ := takeTrack_takes (s := r1.1) (inside .soundAux (first.length.trans hl)) f
  generalize r1.1.takeTrack (s.currentTrack .soundAux) f = r2 at aux second
  have aside : ∀ k, s.currentTrack .soundAux = some k → r1.1.track k = s.track k := fun k hk => by
    rw [first.tracks, if_neg fun c => two k c hk]
  have tables : r1.1.tables.track = s.tables.track := (congrArg (fun u : State => u.tables.track) first.rest :)
  rw [blockUnit_congr tables fun k hk => congrArg Track.queue (aside k hk)] at aux
  have unit : unitAt r1.1 (s.currentTrack .soundAux) f = unitAt s (s.currentTrack .soundAux) f :=
    unitAt_congr (fun k hk => congrArg Track.queue (aside k hk)) f
  refine ⟨r2.1, ⟨first.toUnitsTaken.trans second.toUnitsTaken, fun k hk => ?_, fun k hk => ?_, ?_⟩, ?_⟩
  · rw [second.tracks]
    rcases hk with hk | hk
    · rw [if_neg (two k hk), first.tracks, if_pos hk]
    · rw [if_pos hk, afterUnits, unitsGone, aside k hk, ← hk, unit, hk]
      rfl
  · rw [second.tracks, if_neg fun c => hk (.inr c), first.tracks, if_neg fun c => hk (.inl c)]
  · rw [second.gap, first.gap, unit, or_assoc]
    refine or_congr_right ?_
    constructor
    · rintro (⟨k, hk, none_⟩ | ⟨k, hk, none_⟩)
      · exact ⟨k, .inl hk, hk ▸ none_⟩
      · exact ⟨k, .inr hk, hk ▸ none_⟩
    · rintro ⟨k, hk | hk, none_⟩
      · exact .inl ⟨k, hk, hk ▸ none_⟩
      · exact .inr ⟨k, hk, hk ▸ none_⟩
  · rw [← main, ← aux]
    split
    · rename_i main_none aux_none
      exact .inl ⟨rfl, main_none, aux_none⟩
    · exact .inr rfl

end Sys2Proof.Safety
end

-- ==== the sound block: the chain over the units ====
section
/-! PROOFS. The values of a block (R79, R84 to R88): the samples of a unit's bytes, the input channels of each sample, and the chain
of each lane over them. -/

namespace Sys2Proof.Safety

open Sys2Proof.Machine

/-! ### The samples of a unit (10.2) -/

theorem toNat_threeBytes (a b c : Byte) : (a ++ b ++ c : BitVec 24).toNat = beNat [a, b, c] := by
  have first : (a ++ b : BitVec 16).toNat = a.toNat * 256 + b.toNat := by
    rw [BitVec.toNat_append, ← Nat.shiftLeft_add_eq_or_of_lt b.isLt, Nat.shiftLeft_eq]
  rw [BitVec.toNat_append, ← Nat.shiftLeft_add_eq_or_of_lt c.isLt, Nat.shiftLeft_eq, first]
  simp [beNat]

theorem toInt_threeBytes (a b c : Byte) (rest : Bytes) : (a ++ b ++ c : BitVec 24).toInt = sampleAt (a :: b :: c :: rest) 0 := by
  have bytes : field (a :: b :: c :: rest) (3 * 0) 3 = beNat [a, b, c] := rfl
  rw [sampleAt, bytes, ← toNat_threeBytes, BitVec.toInt_eq_toNat_cond]
  split <;> split <;> omega

theorem sampleAt_succ (a b c : Byte) (rest : Bytes) (k : Nat) : sampleAt (a :: b :: c :: rest) (k + 1) = sampleAt rest k := by
  have bytes : field (a :: b :: c :: rest) (3 * (k + 1)) 3 = field rest (3 * k) 3 := rfl
  rw [sampleAt, bytes, sampleAt]

/-- The samples that the chain reads are those of the unit's bytes. -/
theorem samplesOf_getD (b : Bytes) : ∀ k, 3 * k + 3 ≤ b.length → (samplesOf b).getD k 0 = sampleAt b k := by
  induction b using samplesOf.induct with
  | case1 x y z rest ih =>
    intro k hk
    rw [samplesOf]
    cases k with
    | zero => exact toInt_threeBytes x y z rest
    | succ k =>
      rw [sampleAt_succ, List.getD_cons_succ]
      exact ih k (by simp only [List.length_cons] at hk; omega)
  | case2 b short =>
    intro k hk
    match b, short, hk with
    | x :: y :: z :: rest, short, _ => exact absurd rfl (short x y z rest)

/-! ### The input channels of a block (R79) -/

/-- The channels of sample `i` of an optional unit with its channel count. -/
def unitChannels (u : Option (SoundUnit × Nat)) (i : Nat) : List Int :=
  match u with
  | some (x, n) => ((samplesOf x.bytes).drop (i * n)).take n
  | none => []

theorem sampleFrames_eq (n p : Nat) (l : List Int) : sampleFrames n p l = (List.range p).map fun i => (l.drop (i * n)).take n := by
  induction p generalizing l with
  | zero => rfl
  | succ p ih =>
    rw [sampleFrames, ih, List.range_succ_eq_map, List.map_cons, List.map_map, Nat.zero_mul, List.drop_zero]
    refine congrArg _ (List.map_congr_left fun i _ => ?_)
    rw [List.drop_drop, Function.comp, Nat.succ_mul, Nat.add_comm]

theorem inputChannels_eq (p : Nat) (main aux : Option (SoundUnit × Nat)) : inputChannels p main aux =
    (List.range p).map fun i => padChannels 16 (unitChannels main i) ++ padChannels 8 (unitChannels aux i) := by
  have none_ : List.replicate p ([] : List Int) = (List.range p).map (unitChannels none) := by
    have silent : unitChannels none = fun _ => [] := rfl
    rw [silent, List.map_const', List.length_range]
  have some_ : ∀ (x : SoundUnit) n, sampleFrames n p (samplesOf x.bytes) = (List.range p).map (unitChannels (some (x, n))) :=
    fun x n => sampleFrames_eq n p _
  have joined : ∀ u v, List.zipWith (fun a b => padChannels 16 a ++ padChannels 8 b) ((List.range p).map (unitChannels u))
      ((List.range p).map (unitChannels v)) =
      (List.range p).map fun i => padChannels 16 (unitChannels u i) ++ padChannels 8 (unitChannels v i) := fun u v => by
    rw [List.zipWith_map, List.zipWith_self]
  unfold inputChannels
  rcases main with _ | ⟨x, n⟩ <;> rcases aux with _ | ⟨y, k⟩ <;> simp only [none_, some_, joined]

theorem padChannels_getD (k : Nat) (l : List Int) (c : Nat) : (padChannels k l).getD c 0 = if c < k then l.getD c 0 else 0 := by
  have past : ∀ n, (List.replicate n (0 : Int)).getD (c - (l.take k).length) 0 = 0 := fun n => by
    rw [List.getD_eq_getElem?_getD, List.getElem?_replicate]
    split <;> rfl
  rw [padChannels]
  rcases Nat.lt_or_ge c (l.take k).length with h | h
  · have inside : c < k := by rw [List.length_take] at h; omega
    rw [List.getD_append _ _ _ _ h, if_pos inside, List.getD_eq_getElem?_getD, List.getElem?_take, if_pos inside,
      List.getD_eq_getElem?_getD]
  · rw [List.getD_append_right _ _ _ _ h, past]
    split
    · rw [List.getD_eq_default _ _ (by rw [List.length_take] at h; omega)]
    · rfl

theorem padChannels_length (k : Nat) (l : List Int) : (padChannels k l).length = k := by
  simp only [padChannels, List.length_append, List.length_take, List.length_replicate]
  omega

/-- The channels of a sample of a track's unit (R79). -/
theorem unitChannels_getD {s : State} {t : Option Nat} {most f i : Nat} (fits : UnitFits s t most f) (hi : i < s.clk.period)
    (c : Nat) : (padChannels most (unitChannels (blockUnit s t f) i)).getD c 0 = channelAt s t f c i := by
  rw [padChannels_getD]
  cases t with
  | none => simp [blockUnit, unitChannels, channelAt]
  | some k =>
    cases hu : unitAt s (some k) f with
    | none => simp [blockUnit, unitChannels, channelAt, hu]
    | some u =>
      obtain ⟨channels, length⟩ := fits k u rfl hu
      have unit : blockUnit s (some k) f = some (u, (s.trackEntry k).channels.getD 0) := by
        rw [blockUnit, Option.bind_some, hu]
        rfl
      have channel : channelAt s (some k) f c i = if c < (s.trackEntry k).channels.getD 0 then
          sampleAt u.bytes (i * (s.trackEntry k).channels.getD 0 + c) else 0 := by simp only [channelAt, hu]
      rw [unit, channel, unitChannels]
      generalize (s.trackEntry k).channels.getD 0 = n at channels length
      by_cases hc : c < n
      · have inside : i * n + c < s.clk.period * n := by nlinarith
        rw [if_pos (by omega), if_pos hc, ← samplesOf_getD _ _ (by omega)]
        simp [List.getD_eq_getElem?_getD, hc]
      · rw [if_neg hc]
        simp [List.getD_eq_getElem?_getD, hc]

theorem inputs_getD {s : State} {f i : Nat} (main : UnitFits s (s.currentTrack .soundMain) 16 f)
    (aux : UnitFits s (s.currentTrack .soundAux) 8 f) (hi : i < s.clk.period) (c : Nat) :
    (padChannels 16 (unitChannels (blockUnit s (s.currentTrack .soundMain) f) i) ++
      padChannels 8 (unitChannels (blockUnit s (s.currentTrack .soundAux) f) i)).getD c 0 = inputAt s f c i := by
  rw [inputAt]
  split
  · rename_i h
    rw [List.getD_append _ _ _ _ (by rw [padChannels_length]; exact h)]
    exact unitChannels_getD main hi c
  · rename_i h
    rw [List.getD_append_right _ _ _ _ (by rw [padChannels_length]; omega), padChannels_length]
    exact unitChannels_getD aux hi (c - 16)

/-! ### The chain of a lane (R84 to R88) -/

theorem mixValue_eq {cs : List Contribution} {inputs : List Int} {x : Nat → Int} (h : ∀ c, inputs.getD c 0 = x c) :
    mixValue cs inputs = ((cs.map fun c => (if c.invert then -1 else 1) * (x c.channel * c.gain)).sum + 16384) / 32768 := by
  have terms : (cs.map fun c => c.term inputs) = cs.map fun c => (if c.invert then -1 else 1) * (x c.channel * (c.gain : Int)) := by
    refine List.map_congr_left fun c _ => ?_
    rw [Contribution.term, h]
    split <;> simp [*]
  rw [mixValue, terms, scaleBy, mul_one]

/-- The value of a sample of a lane before the clamp, from its input channels. -/
theorem chainValue_eq {s : State} {f i : Nat} {inputs : List Int} (h : ∀ c, inputs.getD c 0 = inputAt s f c i) (j : Nat) :
    chainValue (s.recipe s.mix.map j) (s.laneSetting j).trim (sampleGain s.mix.f0 s.mix.f1 s.clk.period i) inputs =
      laneValue s f j i := by
  rw [chainValue, mixValue_eq h]
  rfl

/-- A block of a lane, before the clamp (R85 to R87). -/
theorem chainBlock_eq {s : State} {f : Nat} (main : UnitFits s (s.currentTrack .soundMain) 16 f)
    (aux : UnitFits s (s.currentTrack .soundAux) 8 f) (j : Nat) :
    chainBlock (s.recipe s.mix.map j) (s.laneSetting j).trim s.mix.f0 s.mix.f1 (inputChannels s.clk.period
      (blockUnit s (s.currentTrack .soundMain) f) (blockUnit s (s.currentTrack .soundAux) f)) =
    (List.range s.clk.period).map (laneValue s f j) := by
  rw [inputChannels_eq, chainBlock, List.length_map, List.length_range]
  refine List.ext_getElem (by simp) fun i h _ => ?_
  have hi : i < s.clk.period := by simpa using h
  simp only [List.getElem_map, List.getElem_zipIdx, List.getElem_range, Nat.zero_add]
  exact chainValue_eq (inputs_getD main aux hi) j

/-- Where no unit is taken each lane's value is 0 (R90). -/
theorem laneValue_silence {s : State} {f i : Nat} (main : blockUnit s (s.currentTrack .soundMain) f = none)
    (aux : blockUnit s (s.currentTrack .soundAux) f = none) (j : Nat) : laneValue s f j i = 0 := by
  have silent : ∀ t, blockUnit s t f = none → ∀ c, channelAt s t f c i = 0 := fun t ht c => by
    cases t with
    | none => rfl
    | some k =>
      have none_ : unitAt s (some k) f = none := Option.map_eq_none_iff.mp ht
      simp only [channelAt, none_]
  have inputs : ∀ c, inputAt s f c i = 0 := fun c => by
    rw [inputAt]
    split
    · exact silent _ main c
    · exact silent _ aux _
  have zero : ∀ c, ([] : List Int).getD c 0 = 0 := fun _ => rfl
  rw [← chainValue_eq (inputs := []) fun c => (zero c).trans (inputs c).symm]
  exact chainValue_silence _ _ _ _ zero

end Sys2Proof.Safety
end

-- ==== the sound block: a presented frame ====
section
/-! PROOFS. The block that a boundary forms from the state that Frame Presentation leaves (R72, R75, R85 to R88), and what the rest
of the boundary keeps of it. -/

namespace Sys2Proof.Safety

open Sys2Proof.Machine

/-! ### The blocks of the lanes (R72, R88) -/

/-- A value outside the 24-bit range. -/
def Clamped (y : Int) : Prop := y < -8388608 ∨ 8388607 < y

theorem clamp24_ne (y : Int) : clamp24 y ≠ y ↔ Clamped y := by
  rw [clamp24_eq, Clamped]
  omega

/-- The values of a lane's block before the clamp. -/
def laneValues (s : State) (f j : Nat) : List Int := (List.range s.clk.period).map (laneValue s f j)

/-- A lane with the block of frame `f`. -/
def mixedLane (s : State) (f j : Nat) (l : Lane) : Lane :=
  { l with
    block := (laneValues s f j).map clamp24
    delay := (s.laneSetting j).delay
    clips := satAdd l.clips (clampCount (laneValues s f j)) }

theorem clampCount_pos {l : List Int} : 0 < clampCount l ↔ ∃ y ∈ l, Clamped y := by
  simp only [clampCount, List.countP_pos_iff, decide_eq_true_eq, clamp24_ne]

/-- The blocks of frame `f` of `s` have replaced those in play in `u` (R72, R88). -/
structure BlocksFormed (s : State) (f : Nat) (u v : State) : Prop where
  length : v.snd.lanes.length = u.snd.lanes.length
  lanes  : ∀ j l, u.snd.lanes[j]? = some l → l.clips ≤ 65535 → v.snd.lanes[j]? = some (mixedLane s f j l)
  clip   : flagSet v.mgmt.flags .clip = true ↔ flagSet u.mgmt.flags .clip = true ∨
    ∃ j i, j < u.snd.lanes.length ∧ i < s.clk.period ∧ Clamped (laneValue s f j i)
  flags  : FlagsBut (· = .clip) u v
  tracks : v.tracks = u.tracks
  sub    : v.sub = u.sub

/-- Blocks mixed from the values of frame `f`. -/
theorem soundBlock_formed {s u : State} {m : Mix} {inputs : List (List Int)} {f : Nat}
    (values : ∀ j, chainBlock (u.recipe m.map j) (u.laneSetting j).trim m.f0 m.f1 inputs = laneValues s f j)
    (settings : ∀ j, u.laneSetting j = s.laneSetting j) : BlocksFormed s f u (u.soundBlock m inputs) := by
  have any : (List.range u.snd.lanes.length).any (fun j => 0 < clampCount (laneValues s f j)) = true ↔
      ∃ j i, j < u.snd.lanes.length ∧ i < s.clk.period ∧ Clamped (laneValue s f j i) := by
    simp only [List.any_eq_true, List.mem_range, decide_eq_true_eq]
    simp only [clampCount_pos, laneValues, List.mem_map]
    constructor
    · rintro ⟨j, hj, _, ⟨i, hi, rfl⟩, hc⟩
      exact ⟨j, i, hj, List.mem_range.mp hi, hc⟩
    · rintro ⟨j, i, hj, hi, hc⟩
      exact ⟨j, hj, _, ⟨i, List.mem_range.mpr hi, rfl⟩, hc⟩
  have formed : u.soundBlock m inputs =
      if (List.range u.snd.lanes.length).any (fun j => 0 < clampCount (laneValues s f j)) = true then
        (u.mapLanes (mixedLane s f)).raise .clip else u.mapLanes (mixedLane s f) := by
    unfold State.soundBlock
    simp only [values]
    simp only [settings]
    rfl
  rw [formed]
  have lanes : ∀ j l, u.snd.lanes[j]? = some l → (u.mapLanes (mixedLane s f)).snd.lanes[j]? = some (mixedLane s f j l) :=
    fun j l hl => by rw [State.mapLanes_lane, hl]; rfl
  have length := State.mapLanes_length u (mixedLane s f)
  split
  · rename_i clips
    refine ⟨by rw [State.raise_snd]; exact length, fun j l hl _ => by rw [State.raise_snd]; exact lanes j l hl, ?_,
      .raise _ rfl, State.raise_tracks _ _, State.raise_sub _ _⟩
    rw [State.raise_flags, flagSet_withFlag]
    exact iff_of_true (by simp) (.inr (any.mp clips))
  · rename_i quiet
    refine ⟨length, fun j l hl _ => lanes j l hl, ?_, .of_mgmt rfl, rfl, rfl⟩
    rw [← any, or_iff_left quiet]
    rfl

/-- Silence is the block of a frame whose values are 0 (R90). -/
theorem silentBlock_formed {s u : State} {f : Nat} (values : ∀ j i, laneValue s f j i = 0)
    (settings : ∀ j, u.laneSetting j = s.laneSetting j) (period : u.clk.period = s.clk.period) :
    BlocksFormed s f u u.silentBlock := by
  have zeros : ∀ j, laneValues s f j = List.replicate s.clk.period 0 := fun j => by
    rw [laneValues, List.map_congr_left fun i _ => values j i, List.map_const', List.length_range]
  have none_ : ∀ n, clampCount (List.replicate n 0) = 0 := fun n => by
    rw [clampCount, List.countP_replicate]
    rfl
  refine ⟨State.mapLanes_length _ _, fun j l hl hc => ?_, ?_, .of_mgmt rfl, rfl, rfl⟩
  · have clips : satAdd l.clips 0 = l.clips := Nat.min_eq_left hc
    rw [State.silentBlock, State.mapLanes_lane, hl, mixedLane, zeros, none_, clips, List.map_replicate, settings, period]
    rfl
  · refine ⟨.inl, fun h => h.resolve_right ?_⟩
    rintro ⟨j, i, -, -, hc⟩
    rw [values, Clamped] at hc
    omega

/-! ### The block of a frame from the state that Frame Presentation leaves -/

/-- What the sound path reads at a boundary stands as in `s`: the tables, the period, the current composition's slot and the queues
with their cells; and the lanes are those of `s`. -/
structure SoundStands (s p : State) : Prop where
  tables  : p.tables.track = s.tables.track ∧ p.tables.routing = s.tables.routing ∧ p.tables.lane = s.tables.lane
  period  : p.clk.period = s.clk.period
  slot    : p.seq.currentSlot = s.seq.currentSlot
  length  : p.tracks.length = s.tracks.length
  queues  : ∀ k, (p.track k).queue = (s.track k).queue ∧ (p.track k).cellsHeld = (s.track k).cellsHeld
  lanes   : p.snd.lanes = s.snd.lanes
  sub     : p.sub = s.sub

/-- A track has no item in the schedule and none in the display set. -/
structure NoItemOf (k : Nat) (s : State) : Prop where
  schedule : ∀ i ∈ s.sub.schedule, i.track ≠ k
  regions  : ∀ x, some x ∈ s.sub.regions → x.item.track ≠ k

/-- The sound path's part of a boundary that presents frame `f` of `s` has been done (R72, R75, R76, R88). -/
structure SoundShown (s : State) (f : Nat) (b : State) : Prop where
  length : b.snd.lanes.length = s.snd.lanes.length
  lanes  : ∀ j l, s.snd.lanes[j]? = some l → l.clips ≤ 65535 → b.snd.lanes[j]? = some (mixedLane s f j l)
  queues : ∀ k, Sounding s k → (b.track k).queue = (afterUnits s k f).queue
  cells  : ∀ k, Sounding s k → NoItemOf k s → (b.track k).cellsHeld = (afterUnits s k f).cellsHeld
  clip   : flagSet b.mgmt.flags .clip = true ↔ flagSet s.mgmt.flags .clip = true ∨
    ∃ j i, j < s.snd.lanes.length ∧ i < s.clk.period ∧ Clamped (laneValue s f j i)
  gap    : flagSet b.mgmt.flags .soundGap = true ↔ flagSet s.mgmt.flags .soundGap = true ∨
    ∃ k, Sounding s k ∧ unitAt s (some k) f = none

theorem frameBlock_sound {s p : State} {f : Nat} (h : SoundStands s p) (hl : s.tracks.length = 32)
    (flags : ∀ x, x = .clip ∨ x = .soundGap → flagSet p.mgmt.flags x = flagSet s.mgmt.flags x)
    (main : UnitFits s (s.currentTrack .soundMain) 16 f) (aux : UnitFits s (s.currentTrack .soundAux) 8 f) :
    SoundShown s f (p.frameBlock s.mix f) ∧ (p.frameBlock s.mix f).sub = s.sub := by
  obtain ⟨u, taken, block⟩ := frameBlock_takes (h.length.trans hl) s.mix f
  have current := currentTrack_congr h.tables.1 h.slot
  have unit : ∀ t, unitAt p t f = unitAt s t f := fun t => unitAt_congr (fun k _ => (h.queues k).1) f
  have units : ∀ t, blockUnit p t f = blockUnit s t f := fun t => blockUnit_congr h.tables.1 (fun k _ => (h.queues k).1) f
  have sounding : ∀ k, Sounding p k ↔ Sounding s k := fun k => by rw [Sounding, current, current]; rfl
  rw [current, current, units, units, h.period] at block
  have tables : u.tables = p.tables := (congrArg State.tables taken.rest :)
  have lanes : u.snd.lanes = s.snd.lanes := (congrArg (fun u : State => u.snd.lanes) taken.rest).trans h.lanes
  have period : u.clk.period = s.clk.period := (congrArg (fun u : State => u.clk.period) taken.rest).trans h.period
  have settings : ∀ j, u.laneSetting j = s.laneSetting j := fun j => by
    rw [State.laneSetting, State.laneSetting, tables, h.tables.2.2]
  have recipes : ∀ n j, u.recipe n j = s.recipe n j := fun n j => by
    rw [State.recipe, State.recipe, tables, h.tables.2.1]
  have formed : BlocksFormed s f u (p.frameBlock s.mix f) := by
    rcases block with ⟨silent, no_main, no_aux⟩ | mixed
    · rw [silent]
      exact silentBlock_formed (fun j i => laneValue_silence no_main no_aux j) settings period
    · rw [mixed]
      refine soundBlock_formed (fun j => ?_) settings
      rw [recipes, settings]
      exact chainBlock_eq main aux j
  have tracks : ∀ k, Sounding s k → ((p.frameBlock s.mix f).track k).queue = (afterUnits s k f).queue ∧
      ((p.frameBlock s.mix f).track k).cellsHeld = (afterUnits s k f).cellsHeld := fun k hk => by
    have gone : unitsGone p k f = unitsGone s k f := by rw [unitsGone, unitsGone, (h.queues k).1, unit]
    rw [State.track_congr formed.tracks, taken.sounding k ((sounding k).mpr hk), afterUnits, afterUnits, gone, (h.queues k).1,
      (h.queues k).2]
    exact ⟨rfl, rfl⟩
  refine ⟨⟨formed.length.trans (by rw [lanes]), fun j l hl => formed.lanes j l (by rw [lanes]; exact hl),
    fun k hk => (tracks k hk).1, fun k hk _ => (tracks k hk).2, ?_, ?_⟩,
    formed.sub.trans ((congrArg State.sub taken.rest).trans h.sub)⟩
  · rw [formed.clip, taken.flags .clip (by simp), flags _ (.inl rfl), lanes]
  · rw [formed.flags .soundGap (by simp), taken.gap, flags _ (.inr rfl)]
    simp only [sounding, unit]

/-! ### Frame Presentation -/

theorem SoundStands.trans {s p q : State} (h : SoundStands s p) (g : SoundStands p q) : SoundStands s q where
  tables := ⟨g.tables.1.trans h.tables.1, g.tables.2.1.trans h.tables.2.1, g.tables.2.2.trans h.tables.2.2⟩
  period := g.period.trans h.period
  slot := g.slot.trans h.slot
  length := g.length.trans h.length
  queues k := ⟨(g.queues k).1.trans (h.queues k).1, (g.queues k).2.trans (h.queues k).2⟩
  lanes := g.lanes.trans h.lanes
  sub := g.sub.trans h.sub

theorem advanceWindows_stands (u : State) (f : Nat) :
    SoundStands u (u.advanceWindows f) ∧ (u.advanceWindows f).mgmt = u.mgmt := by
  unfold State.advanceWindows
  split
  · refine ⟨⟨⟨rfl, rfl, rfl⟩, rfl, rfl, by simp [State.updWindow], fun k => ?_, rfl, rfl⟩, rfl⟩
    rw [State.track_updWindow]
    split
    · rename_i here
      rw [here.1]
      exact ⟨rfl, rfl⟩
    · exact ⟨rfl, rfl⟩
  · exact ⟨⟨⟨rfl, rfl, rfl⟩, rfl, rfl, rfl, fun _ => ⟨rfl, rfl⟩, rfl, rfl⟩, rfl⟩

/-- Frame Presentation leaves what the sound path reads, and its flags (R61). -/
theorem present_stands (s : State) (f : Nat) : SoundStands s (s.present f) ∧
    FlagsBut (fun x => x = .counted ∨ x = .stall) s (s.present f) := by
  have mark : s.sendVerdict f (s.verdict f) = s.send (verdictMark s f) := rfl
  have verdict := accountVerdict_taken (s.send (verdictMark s f)) f (s.verdict f)
  unfold State.present
  dsimp only
  rw [mark]
  generalize (s.send (verdictMark s f)).accountVerdict f (s.verdict f) = v at verdict
  obtain ⟨rest, -, slot, flags⟩ := countRepeat_after (s := s) (v := v) (f := f)
    (congrArg (fun u : State => u.tables.settings) verdict.rest :) (congrArg State.seq verdict.rest :)
    (congrArg State.repeats verdict.rest :) (congrArg State.snd verdict.rest :) (verdict.flags .stall (by simp)) rfl
  generalize v.countRepeat (s.verdict f) = u at rest slot flags
  obtain ⟨stands, mgmt⟩ := advanceWindows_stands u f
  generalize u.advanceWindows f = p at stands mgmt
  obtain ⟨licence, log, mv, hv⟩ : ∃ licence log m, v = { s.send (verdictMark s f) with
    tables := { s.tables with licence := licence }, acct := { s.acct with log := log }, mgmt := m } := ⟨_, _, _, verdict.rest⟩
  obtain ⟨seq, repeats, fader, mu, hu⟩ : ∃ seq repeats fader m, u = { v with
    seq := seq, repeats := repeats, snd := { v.snd with fader := fader }, mgmt := m } := ⟨_, _, _, _, rest⟩
  have judged : FlagsBut (fun x => x = .counted ∨ x = .stall) s u :=
    (verdict.flags.mono fun _ => .inl).trans (flags.mono fun _ => .inr)
  subst hu hv
  refine ⟨SoundStands.trans ?_ stands, judged.trans (.of_mgmt mgmt)⟩
  exact ⟨⟨rfl, rfl, rfl⟩, rfl, slot, rfl, fun _ => ⟨rfl, rfl⟩, rfl, rfl⟩

/-! ### The subtitle engine and a track that has no item -/

theorem NoItemOf.track_left {k : Nat} {s u : State} (h : NoItemOf k s) (left : ItemsLeft s u) : u.track k = s.track k :=
  (left.1 k).resolve_right fun ⟨y, hy, e⟩ => h.regions y hy e

/-- A track that has no item stands as it was. -/
structure Untouched (k : Nat) (x : Track) (s : State) : Prop extends NoItemOf k s where
  track : s.track k = x

section
variable {k : Nat} {x : Track} {s : State} (h : Untouched k x s)
include h

theorem Untouched.left {u : State} (left : ItemsLeft s u) (schedule : ∀ i ∈ u.sub.schedule, i ∈ s.sub.schedule) :
    Untouched k x u :=
  ⟨⟨fun i hi => h.schedule i (schedule i hi), fun y hy => h.regions y (left.2 y hy)⟩,
    (h.track_left left).trans h.track⟩

theorem Untouched.returnCells {t : Nat} (ht : t ≠ k) (n : Nat) : Untouched k x (s.returnCells t n) :=
  ⟨⟨h.schedule, h.regions⟩, by rw [State.track_returnCells, if_neg fun c => ht c.1.symm]; exact h.track⟩

theorem Untouched.setRegion {y : Shown} (hy : y.item.track ≠ k) (r : Nat) : Untouched k x (s.setRegion r (some y)) := by
  refine ⟨⟨h.schedule, fun z hz => ?_⟩, h.track⟩
  rcases List.mem_or_eq_of_mem_set hz with old | new
  · exact h.regions z old
  · rw [Option.some.inj new]
    exact hy

theorem Untouched.region {r : Nat} {y : Shown} (hr : s.region r = some y) : y.item.track ≠ k := by
  obtain ⟨z, hz, e⟩ := List.mem_map.mp (region_mem hr)
  cases z with
  | none => cases e
  | some z => rw [← Option.some.inj e]; exact h.regions z hz

theorem Untouched.emptyRegions (test : Item → Bool) : Untouched k x (s.emptyRegions test) := by
  obtain ⟨-, sub, -, -, -⟩ := State.emptyRegions_spec s test
  exact h.left (emptyRegions_left s test) fun i hi => by rw [sub] at hi; exact hi

theorem Untouched.dropItems (test : Item → Bool) : Untouched k x (s.dropItems test) := by
  obtain ⟨-, -, sub⟩ := State.dropItems_spec s test
  refine ⟨⟨fun i hi => ?_, fun y hy => ?_⟩, ?_⟩
  · rw [sub] at hi
    exact h.schedule i (List.mem_filter.mp hi).1
  · rw [sub] at hy
    exact h.regions y hy
  · rw [State.dropItems, State.returnItems_track _ _ _ fun i hi => h.schedule i (List.mem_filter.mp hi).1]
    exact h.track

theorem Untouched.admitItem {i : Item} (hi : i.track ≠ k) (f : Nat) : Untouched k x (State.admitItem f s i) := by
  unfold State.admitItem
  split
  · rename_i y hy
    have counted : Untouched k x { s with sub := { s.sub with preempted := satInc s.sub.preempted } } :=
      ⟨⟨h.schedule, h.regions⟩, h.track⟩
    exact (counted.returnCells (h.region hy) itemCells).setRegion hi _
  · exact h.setRegion hi _

theorem Untouched.sendAdmission (before : List (Option Shown)) (r : Nat) : Untouched k x (State.sendAdmission before s r) := by
  unfold State.sendAdmission
  dsimp only
  split <;> split <;> exact ⟨⟨h.schedule, h.regions⟩, h.track⟩

theorem Untouched.refreshRegion (f r : Nat) : Untouched k x (State.refreshRegion f s r) := by
  unfold State.refreshRegion
  split
  · rename_i y hy
    split
    · exact h
    · have item : y.item.track ≠ k := h.region hy
      have set := h.setRegion (y := ⟨y.item, y.item.opacity f⟩) item r
      exact ⟨⟨set.schedule, set.regions⟩, set.track⟩
  · exact h

end

theorem Untouched.foldl {k : Nat} {x : Track} {α : Type} {g : State → α → State} (l : List α)
    (hg : ∀ s, ∀ a ∈ l, Untouched k x s → Untouched k x (g s a)) {s : State} (h : Untouched k x s) :
    Untouched k x (l.foldl g s) := by
  induction l generalizing s with
  | nil => exact h
  | cons a l ih => exact ih (fun s b hb => hg s b (List.mem_cons_of_mem _ hb)) (hg s a List.mem_cons_self h)

theorem Untouched.admitItems {k : Nat} {x : Track} {s : State} (h : Untouched k x s) (f : Nat) :
    Untouched k x (s.admitItems f) := by
  have left : Untouched k x { s with sub := { s.sub with schedule := s.sub.schedule.filter fun i => !s.itemDue f i } } :=
    ⟨⟨fun i hi => h.schedule i (List.mem_filter.mp hi).1, h.regions⟩, h.track⟩
  exact (left.foldl _ fun s i hi hs => hs.admitItem (h.schedule i (List.mem_filter.mp hi).1) f).foldl _
    fun s r _ hs => hs.sendAdmission _ r

/-- The subtitle engine's work at a boundary leaves a track that has no item (R109 to R112). -/
theorem Untouched.subtitleWork {k : Nat} {x : Track} {s : State} (h : Untouched k x s) (f : Nat) :
    Untouched k x (s.subtitleWork f) := by
  unfold State.subtitleWork
  split
  · exact h
  · exact (((h.emptyRegions _).admitItems f).dropItems _).foldl _ fun s r _ hs => hs.refreshRegion f r

/-! ### The rest of the boundary -/

section
variable {s b u : State} {f : Nat} (h : SoundShown s f b)
include h

/-- What keeps the lanes, the queues, the cells of a track without items, CLIP and SOUND_GAP keeps the sound path's part. -/
theorem SoundShown.congr (lanes : u.snd.lanes = b.snd.lanes) (queues : ∀ k, (u.track k).queue = (b.track k).queue)
    (cells : ∀ k, NoItemOf k s → (u.track k).cellsHeld = (b.track k).cellsHeld)
    (flags : ∀ x, x = .clip ∨ x = .soundGap → flagSet u.mgmt.flags x = flagSet b.mgmt.flags x) : SoundShown s f u where
  length := by rw [lanes]; exact h.length
  lanes := by rw [lanes]; exact h.lanes
  queues k hk := (queues k).trans (h.queues k hk)
  cells k hk free := (cells k free).trans (h.cells k hk free)
  clip := by rw [flags _ (.inl rfl)]; exact h.clip
  gap := by rw [flags _ (.inr rfl)]; exact h.gap

/-- The subtitle engine's work and the due cues keep the sound path's part. -/
theorem SoundShown.cueWork (sub : b.sub = s.sub) : SoundShown s f ((b.subtitleWork f).cueWork f) := by
  have only := (subtitleWork_overlaid b f).only
  have laid : ∀ k, NoItemOf k s → Untouched k (b.track k) (b.subtitleWork f) := fun k free =>
    Untouched.subtitleWork ⟨⟨by rw [sub]; exact free.schedule, by rw [sub]; exact free.regions⟩, rfl⟩ f
  generalize b.subtitleWork f = p at only laid
  have cues := cueWork_taken p f
  generalize p.cueWork f = c at cues
  refine h.congr ?_ (fun k => ?_) (fun k free => ?_) fun x hx => ?_
  · rw [cues.rest, only.rest]
  · rw [cues.tracks, only.tracks]
  · rw [(laid k free).track_left cues.left, (laid k free).track]
  · have other : ¬ (x = .cueMark ∨ x = .cueNest) := by rcases hx with rfl | rfl <;> simp
    rw [cues.flags x other, only.rest]

/-- The end of the expansion, the countdown and the report keep the sound path's part. -/
theorem SoundShown.reported (rest : u = { b.endExpansion.reloadCountdown with mgmt := u.mgmt })
    (flags : ∀ x, x ≠ .showState → flagSet u.mgmt.flags x = flagSet b.endExpansion.reloadCountdown.mgmt.flags x) :
    SoundShown s f u := by
  have ended := (endExpansion_ended b).rest
  obtain ⟨mgmt, -⟩ := endExpansion_mgmt b
  generalize b.endExpansion = e at ended mgmt rest flags
  have tracks : ∀ k, u.track k = b.track k := fun k => by rw [rest, ended]; rfl
  refine h.congr (by rw [rest, ended]; rfl) (fun k => by rw [tracks]) (fun k _ => by rw [tracks]) fun x hx => ?_
  have other : x ≠ .showState := by rcases hx with rfl | rfl <;> simp
  rw [flags x other, ← mgmt]
  rfl

end

/-- A boundary in PLAYING with 0 < f < D does the sound path's part of a presented frame. -/
theorem boundary_sound {s : State} (h : s.inReset = false) (hl : s.tracks.length = 32) (hq : s.seq.state = .playing)
    (h0 : 0 < s.seq.frame) (hD : s.seq.frame < s.currentComposition.duration)
    (main : UnitFits s (s.currentTrack .soundMain) 16 s.seq.frame) (aux : UnitFits s (s.currentTrack .soundAux) 8 s.seq.frame) :
    SoundShown s s.seq.frame (event State.frameBoundary s) := by
  have reported := boundary_reported h
  have rest := reported.rest
  have flags := reported.flags
  rw [boundaryDone_playing hq h0 hD] at rest flags
  have stepped : SoundStands s (onward (dressed (fadedStep s) s)) :=
    ⟨⟨rfl, rfl, rfl⟩, rfl, rfl, rfl, fun _ => ⟨rfl, rfl⟩, rfl, rfl⟩
  obtain ⟨stands, judged⟩ := present_stands (onward (dressed (fadedStep s) s)) s.seq.frame
  obtain ⟨formed, sub⟩ := frameBlock_sound (stepped.trans stands) hl
    (fun x hx => judged x (by rcases hx with rfl | rfl <;> simp)) main aux
  exact (formed.cueWork sub).reported rest flags

theorem sounding_iff {s : State} {P : Nat → Prop} : (∃ k, Sounding s k ∧ P k) ↔
    ∃ k kind, (kind = .soundMain ∨ kind = .soundAux) ∧ s.currentTrack kind = some k ∧ P k := by
  constructor
  · rintro ⟨k, hk | hk, hp⟩
    · exact ⟨k, _, .inl rfl, hk, hp⟩
    · exact ⟨k, _, .inr rfl, hk, hp⟩
  · rintro ⟨k, kind, rfl | rfl, hk, hp⟩
    · exact ⟨k, .inl hk, hp⟩
    · exact ⟨k, .inr hk, hp⟩

/-- A lane's block with the meanings of the clamp and the clip count written out (R88). -/
theorem mixedLane_eq (s : State) (f j : Nat) (l : Lane) : mixedLane s f j l =
    { l with
      block := (List.range s.clk.period).map fun i => max (-8388608) (min 8388607 (laneValue s f j i))
      delay := (s.tables.lane.getD j LaneSetting.off).delay
      clips := min 65535 (l.clips + (List.range s.clk.period).countP fun i =>
        decide (laneValue s f j i < -8388608 ∨ 8388607 < laneValue s f j i)) } := by
  have block : (laneValues s f j).map clamp24 =
      (List.range s.clk.period).map fun i => max (-8388608) (min 8388607 (laneValue s f j i)) := by
    rw [laneValues, List.map_map]
    exact List.map_congr_left fun i _ => clamp24_eq _
  have count : clampCount (laneValues s f j) = (List.range s.clk.period).countP fun i =>
      decide (laneValue s f j i < -8388608 ∨ 8388607 < laneValue s f j i) := by
    rw [clampCount, laneValues, List.countP_map]
    exact List.countP_congr fun i _ => by simp only [Function.comp, decide_eq_true_eq]; exact clamp24_ne _
  rw [mixedLane, block, count, satAdd, Nat.min_comm]
  rfl

/-- Settles O40: each lane's block is the chain's values over the units taken, from the mix settings that stood before the
boundary; what follows the sound path in the boundary keeps its part. -/
theorem soundBlockMixed : Obligations.SoundBlockMixed := by
  unfold Obligations.SoundBlockMixed
  rintro s _ h hl hq rfl h0 hD main aux
  have shown := boundary_sound h hl hq h0 hD main aux
  refine ⟨_, boundary_exec h, shown.length, fun j l hj hc => ?_, shown.clip, shown.gap.trans (or_congr_right sounding_iff),
    fun k kind hkind hk => ?_⟩
  · rw [shown.lanes j l hj hc, mixedLane_eq]
  · have sounding : Sounding s k := by
      rcases hkind with rfl | rfl
      · exact .inl hk
      · exact .inr hk
    refine ⟨shown.queues k sounding, fun free => shown.cells k sounding ⟨fun i hi => free i (.inl hi), fun x hx => ?_⟩⟩
    exact free x.item (.inr (List.mem_map.mpr ⟨some x, hx, rfl⟩))

end Sys2Proof.Safety
end

-- ==== the subtitle engine's work at a presented frame ====
section
/-! PROOFS. The subtitle engine's work at a boundary that presents a frame above 0 (R109 to R113): the items admitted to each region
with the preemptions, the records of the admissions, the opacity refresh, and the four steps together. -/

namespace Sys2Proof.Safety

open Sys2Proof.Machine

/-! ### Admissions to the regions (R110) -/

/-- The items of a list that name a region. -/
def intoRegion (r : Nat) (l : List Item) : List Item := l.filter fun i => decide (i.region = r)

/-- What a region that held `x` holds once the items of a list have entered it in order. -/
def holderAfter (f : Nat) (l : List Item) (x : Option Shown) : Option Shown :=
  match l.getLast? with
  | some i => some ⟨i, i.opacity f⟩
  | none => x

/-- How many holders the items of a list preempt in regions that hold `held`: each entry preempts one, but for the first entry into an
empty region. -/
def preemptions (l : List Item) (held : Nat → Option Shown) : Nat :=
  (regionNumbers.map fun r => (intoRegion r l).length + (held r).toList.length - 1).sum

theorem intoRegion_append (r : Nat) (l k : List Item) : intoRegion r (l ++ k) = intoRegion r l ++ intoRegion r k :=
  List.filter_append ..

@[simp] theorem holderAfter_nil (f : Nat) (x : Option Shown) : holderAfter f [] x = x := rfl

theorem holderAfter_append (f : Nat) (l k : List Item) (x : Option Shown) :
    holderAfter f (l ++ k) x = holderAfter f k (holderAfter f l x) := by
  unfold holderAfter
  rw [List.getLast?_append]
  cases k.getLast? <;> rfl

/-- After one entry or more a region holds one item. -/
theorem holderAfter_toList (f : Nat) (l : List Item) (x : Option Shown) :
    (holderAfter f l x).toList.length = if l = [] then x.toList.length else 1 := by
  split
  · rename_i none_in
    rw [none_in, holderAfter_nil]
  · rename_i some_in
    rw [holderAfter, List.getLast?_eq_some_getLast some_in]
    rfl

@[simp] theorem preemptions_nil (held : Nat → Option Shown) : preemptions [] held = 0 := by
  have none_in : ∀ r, (intoRegion r []).length + (held r).toList.length - 1 = 0 := fun r => by
    have := Option.length_toList_le (o := held r)
    simp only [intoRegion, List.filter_nil, List.length_nil]
    omega
  simp only [preemptions, none_in, List.map_const', List.sum_replicate, smul_zero]

/-- One item preempts the holder of its region, if it has one. -/
theorem preemptions_singleton {i : Item} (hi : i.region ≤ 3) (held : Nat → Option Shown) :
    preemptions [i] held = (held i.region).toList.length := by
  have entered : ∀ r, (intoRegion r [i]).length + (held r).toList.length - 1 =
      if i.region = r then (held i.region).toList.length else 0 := fun r => by
    have := Option.length_toList_le (o := held r)
    unfold intoRegion
    by_cases h : i.region = r
    · subst h
      simp
    · simp [h]
  simp only [preemptions, entered, regionNumbers, List.map_cons, List.map_nil, List.sum_cons, List.sum_nil]
  split_ifs <;> omega

/-- Items that enter after others preempt the holders that those left. -/
theorem preemptions_append (f : Nat) (l k : List Item) (held : Nat → Option Shown) : preemptions (l ++ k) held =
    preemptions l held + preemptions k fun r => holderAfter f (intoRegion r l) (held r) := by
  unfold preemptions
  rw [← List.sum_map_add]
  refine congrArg List.sum (List.map_congr_left fun r _ => ?_)
  have one := Option.length_toList_le (o := held r)
  rw [intoRegion_append, List.length_append, holderAfter_toList]
  split
  · rename_i none_in
    rw [none_in, List.length_nil]
    omega
  · rename_i some_in
    have := List.length_pos_iff.mpr some_in
    omega

/-- The items of a list have entered their regions in order. -/
structure ItemsEntered (f : Nat) (l : List Item) (s u : State) : Prop where
  only      : OnlySubtitles s u
  link      : u.link = s.link
  sub       : u.sub = { s.sub with regions := u.sub.regions, preempted := u.sub.preempted }
  length    : u.sub.regions.length = s.sub.regions.length
  region    : ∀ r, u.region r = holderAfter f (intoRegion r l) (s.region r)
  preempted : u.sub.preempted = min 65535 (s.sub.preempted + preemptions l s.region)

theorem ItemsEntered.refl (f : Nat) {s : State} (h : s.sub.preempted ≤ 65535) : ItemsEntered f [] s s :=
  ⟨.refl s, rfl, rfl, rfl, fun _ => rfl, by rw [preemptions_nil]; omega⟩

theorem ItemsEntered.trans {f : Nat} {l k : List Item} {s u v : State} (h : ItemsEntered f l s u) (g : ItemsEntered f k u v) :
    ItemsEntered f (l ++ k) s v where
  only := h.only.trans g.only
  link := g.link.trans h.link
  sub := by rw [g.sub, h.sub]
  length := g.length.trans h.length
  region r := by rw [g.region, h.region, intoRegion_append, holderAfter_append]
  preempted := by
    have held : u.region = fun r => holderAfter f (intoRegion r l) (s.region r) := funext h.region
    rw [g.preempted, h.preempted, preemptions_append f, held]
    omega

/-- A region's new holder is the one item that has entered it. -/
theorem setRegion_holder {s : State} {i : Item} (hi : i.region < s.sub.regions.length) (f r : Nat) :
    (s.setRegion i.region (some ⟨i, i.opacity f⟩)).region r = holderAfter f (intoRegion r [i]) (s.region r) := by
  rw [State.region_setRegion]
  unfold intoRegion
  by_cases h : i.region = r
  · rw [if_pos ⟨h.symm, hi⟩, List.filter_cons_of_pos (by simpa using h)]
    rfl
  · rw [if_neg fun c => h c.1.symm, List.filter_cons_of_neg (by simpa using h)]
    rfl

theorem admitItem_entered {s : State} (hl : s.sub.regions.length = 4) (hp : s.sub.preempted ≤ 65535) {i : Item} (hi : i.region ≤ 3)
    (f : Nat) : ItemsEntered f [i] s (State.admitItem f s i) := by
  have only := (admitItem_overlaid f s i).only
  have inside : i.region < s.sub.regions.length := by omega
  have count := preemptions_singleton hi s.region
  have holder := setRegion_holder inside f
  have length : ∀ x, (s.sub.regions.set i.region x).length = s.sub.regions.length := fun x => List.length_set
  unfold State.admitItem at only ⊢
  split at only
  · rename_i x hx
    rw [hx] at count
    exact ⟨only, rfl, rfl, length _, holder, by rw [count]; exact Nat.min_comm ..⟩
  · rename_i hx
    rw [hx] at count
    exact ⟨only, rfl, rfl, length _, holder, by rw [count]; exact (Nat.min_eq_right hp).symm⟩

theorem admitItem_foldl_entered (f : Nat) (l : List Item) {s : State} (hl : s.sub.regions.length = 4)
    (hp : s.sub.preempted ≤ 65535) (hi : ∀ i ∈ l, i.region ≤ 3) : ItemsEntered f l s (l.foldl (State.admitItem f) s) := by
  induction l generalizing s with
  | nil => exact .refl f hp
  | cons i l ih =>
    have first := admitItem_entered hl hp (hi i List.mem_cons_self) f
    have counted : (State.admitItem f s i).sub.preempted ≤ 65535 := first.preempted ▸ Nat.min_le_left ..
    exact first.trans (ih (first.length.trans hl) counted fun j hj => hi j (List.mem_cons_of_mem _ hj))

/-! ### The records of the admissions (R110, R113) -/

/-- The records of a region whose holder changed from `before` to `now`. -/
def admissionRecords (r : Nat) (before now : Option Shown) : List LinkRecord :=
  (if before.isSome then [.clearRegion r] else []) ++
  match now with
  | some x => [.showItem r x.item.track x.item.id x.opacity x.item.text]
  | none => []

theorem sendAdmission_eq (before : List (Option Shown)) (s : State) (r : Nat) : State.sendAdmission before s r =
    { s with link := s.link ++ admissionRecords r (before.getD r none) (s.region r) } := by
  have same : (if (before.getD r none).isSome then s.send (.clearRegion r) else s) =
      { s with link := s.link ++ if (before.getD r none).isSome then [.clearRegion r] else [] } := by
    split
    · rfl
    · rw [List.append_nil]
  unfold State.sendAdmission admissionRecords
  dsimp only
  rw [same]
  cases s.region r with
  | none => simp only [List.append_nil]
  | some x => simp only [State.send, List.append_assoc]

theorem sendAdmission_foldl_eq (before : List (Option Shown)) (l : List Nat) (s : State) :
    l.foldl (State.sendAdmission before) s =
      { s with link := s.link ++ l.flatMap fun r => admissionRecords r (before.getD r none) (s.region r) } := by
  induction l generalizing s with
  | nil => simp only [List.foldl_nil, List.flatMap_nil, List.append_nil]
  | cons r l ih =>
    rw [List.foldl_cons, ih, sendAdmission_eq, List.flatMap_cons, ← List.append_assoc]
    rfl

/-! ### Admission -/

/-- The records of step 2 for a region that held `x`, when the items `l` enter it. -/
def entryRecords (f r : Nat) (l : List Item) (x : Option Shown) : List LinkRecord :=
  if l = [] then [] else admissionRecords r x (holderAfter f l x)

/-- The due items leave the schedule. -/
def withoutDue (f : Nat) (s : State) : State :=
  { s with sub := { s.sub with schedule := s.sub.schedule.filter fun i => !s.itemDue f i } }

/-- Step 2 has taken the due items. -/
structure Admitted (f : Nat) (s u : State) : Prop where
  only      : OnlySubtitles s u
  link      : u.link = s.link ++ regionNumbers.flatMap fun r =>
    entryRecords f r (intoRegion r (s.sub.schedule.filter (s.itemDue f))) (s.region r)
  sub       : u.sub = { s.sub with
    schedule := s.sub.schedule.filter fun i => !s.itemDue f i, regions := u.sub.regions, preempted := u.sub.preempted }
  region    : ∀ r, u.region r = holderAfter f (intoRegion r (s.sub.schedule.filter (s.itemDue f))) (s.region r)
  preempted : u.sub.preempted =
    min 65535 (s.sub.preempted + preemptions (s.sub.schedule.filter (s.itemDue f)) s.region)

/-- A region is named by a list exactly when items enter it. -/
theorem any_region_iff (r : Nat) (l : List Item) : (l.any fun i => i.region == r) = !decide (intoRegion r l = []) := by
  rw [Bool.eq_iff_iff]
  simp [intoRegion]

theorem flatMap_filter_eq {α β : Type} (p : α → Bool) (g : α → List β) (l : List α) :
    (l.filter p).flatMap g = l.flatMap fun a => if p a then g a else [] := by
  induction l with
  | nil => rfl
  | cons a l ih => cases h : p a <;> simp [h, ih]

theorem admitItems_admitted {s : State} (hl : s.sub.regions.length = 4) (hp : s.sub.preempted ≤ 65535)
    (hi : ∀ i ∈ s.sub.schedule, i.region ≤ 3) (f : Nat) : Admitted f s (s.admitItems f) := by
  have entered := admitItem_foldl_entered f (s.sub.schedule.filter (s.itemDue f)) (s := withoutDue f s) hl hp
    fun i h => hi i (List.mem_filter.mp h).1
  have left : OnlySubtitles s (withoutDue f s) := ⟨rfl, rfl, fun _ => rfl⟩
  have steps : s.admitItems f = (regionNumbers.filter fun r => (s.sub.schedule.filter (s.itemDue f)).any fun i => i.region == r).foldl
    (State.sendAdmission s.sub.regions) ((s.sub.schedule.filter (s.itemDue f)).foldl (State.admitItem f) (withoutDue f s)) := rfl
  rw [steps, sendAdmission_foldl_eq, flatMap_filter_eq]
  generalize List.foldl (State.admitItem f) _ _ = v at entered
  refine ⟨(left.trans entered.only).trans ⟨rfl, rfl, fun _ => rfl⟩, ?_, entered.sub, entered.region, entered.preempted⟩
  refine congrArg₂ (· ++ ·) entered.link (congrArg (regionNumbers.flatMap ·) (funext fun r => ?_))
  rw [any_region_iff, entered.region, entryRecords]
  by_cases none_in : intoRegion r (s.sub.schedule.filter (s.itemDue f)) = []
  · simp [none_in]
  · simp only [none_in, decide_false, Bool.not_false, if_true, if_false]
    rfl

/-! ### The opacity refresh (R112) -/

/-- A region's holder with its opacity at `f`. -/
def opacityAt (f : Nat) (x : Shown) : Shown := { x with opacity := x.item.opacity f }

/-- The record of step 4 for a region. -/
def refreshRecords (f r : Nat) (x : Option Shown) : List LinkRecord :=
  match x with
  | some x => if x.item.opacity f = x.opacity then [] else [.setOpacity r (x.item.opacity f)]
  | none => []

/-- The regions of a list have been refreshed. -/
structure Refreshed (f : Nat) (l : List Nat) (s u : State) : Prop where
  link   : u.link = s.link ++ l.flatMap fun r => refreshRecords f r (s.region r)
  sub    : u.sub = { s.sub with regions := u.sub.regions }
  region : ∀ r, u.region r = if r ∈ l then (s.region r).map (opacityAt f) else s.region r

theorem refreshRegion_refreshed (f : Nat) (s : State) (r : Nat) : Refreshed f [r] s (State.refreshRegion f s r) := by
  have stands : (s.region r).map (opacityAt f) = s.region r → ∀ k, s.region k =
      if k ∈ [r] then (s.region k).map (opacityAt f) else s.region k := fun same k => by
    split
    · rename_i here
      rw [List.mem_singleton.mp here, same]
    · rfl
  unfold State.refreshRegion
  cases hx : s.region r with
  | none =>
    refine ⟨?_, rfl, stands (by rw [hx]; rfl)⟩
    simp only [List.flatMap_singleton, hx, refreshRecords, List.append_nil]
  | some x =>
    dsimp only
    have inside : r < s.sub.regions.length := by
      by_contra past
      rw [State.region_past (Nat.le_of_not_lt past)] at hx
      cases hx
    split
    · rename_i same
      refine ⟨?_, rfl, stands ?_⟩
      · simp only [List.flatMap_singleton, hx, refreshRecords, same, if_true, List.append_nil]
      · rw [hx, Option.map_some, opacityAt, same]
    · rename_i other
      refine ⟨?_, rfl, fun k => ?_⟩
      · rw [List.flatMap_singleton, hx, refreshRecords, if_neg other]
        rfl
      · have set : ((s.setRegion r (some (opacityAt f x))).send (.setOpacity r (x.item.opacity f))).region k =
            if k = r ∧ r < s.sub.regions.length then some (opacityAt f x) else s.region k := State.region_setRegion ..
        refine set.trans ?_
        by_cases here : k = r
        · rw [if_pos ⟨here, inside⟩, if_pos (List.mem_singleton.mpr here), here, hx]
          rfl
        · rw [if_neg fun c => here c.1, if_neg fun c => here (List.mem_singleton.mp c)]

theorem refreshRegion_foldl_refreshed (f : Nat) (l : List Nat) (distinct : l.Nodup) (s : State) :
    Refreshed f l s (l.foldl (State.refreshRegion f) s) := by
  induction l generalizing s with
  | nil => exact ⟨(List.append_nil _).symm, rfl, fun _ => rfl⟩
  | cons a l ih =>
    obtain ⟨fresh, distinct⟩ := List.nodup_cons.mp distinct
    have first := refreshRegion_refreshed f s a
    have rest := ih distinct (State.refreshRegion f s a)
    have aside : ∀ r ∈ l, (State.refreshRegion f s a).region r = s.region r := fun r hr => by
      rw [first.region, if_neg]
      intro c
      exact fresh (List.mem_singleton.mp c ▸ hr)
    refine ⟨?_, by rw [List.foldl_cons, rest.sub, first.sub], fun r => ?_⟩
    · have records : (l.flatMap fun r => refreshRecords f r ((State.refreshRegion f s a).region r)) =
          l.flatMap fun r => refreshRecords f r (s.region r) := List.flatMap_congr fun r hr => by rw [aside r hr]
      rw [List.foldl_cons, rest.link, records, first.link, List.flatMap_singleton, List.flatMap_cons, List.append_assoc]
    · rw [List.foldl_cons, rest.region]
      by_cases hr : r ∈ l
      · rw [if_pos hr, aside r hr, if_pos (List.mem_cons_of_mem _ hr)]
      · rw [if_neg hr, first.region]
        simp only [List.mem_cons, List.not_mem_nil, hr]

/-! ### The four steps -/

theorem ofCurrent_only {s u : State} (h : OnlySubtitles s u) : u.ofCurrent = s.ofCurrent := by rw [h.rest]; rfl

theorem mem_regionNumbers {r : Nat} : r ∈ regionNumbers ↔ r ≤ 3 := by
  simp only [regionNumbers, List.mem_cons, List.not_mem_nil, or_false]
  omega

/-- The items due for a region, as those of the due items that name it. -/
theorem dueAt_eq (s : State) (f r : Nat) : dueAt s f r = intoRegion r (s.sub.schedule.filter (s.itemDue f)) := by
  rw [dueAt, intoRegion, List.filter_filter]
  refine List.filter_congr fun i _ => ?_
  rw [Bool.eq_iff_iff]
  simp only [State.itemDue, State.ofCurrent, decide_eq_true_eq, Bool.and_eq_true, beq_iff_eq]
  tauto

theorem keptAt_eq (s : State) (f r : Nat) : keptAt s f r = (s.region r).filter fun x => !decide (x.item.outFrame ≤ f) := by
  simp only [keptAt, ← Nat.not_le, decide_not]

/-- The subtitle engine has done its work at the boundary that presents frame `f` of `s`, its records behind `l` (R109 to R113). -/
structure SubtitlesShown (f : Nat) (l : List LinkRecord) (s u : State) : Prop where
  link   : u.link = l ++ overlayAt s f
  region : ∀ r, r ≤ 3 → u.region r = (holderAfter f (dueAt s f r) (keptAt s f r)).map (opacityAt f)
  sub    : u.sub = { s.sub with
    regions := u.sub.regions
    schedule := s.sub.schedule.filter fun i => !decide (s.seq.currentSlot = some (s.trackEntry i.track).slot ∧
      (i.outFrame ≤ f ∨ (s.sub.active = some i.track ∧ i.inFrame ≤ f)))
    preempted := min 65535 (s.sub.preempted + (regionNumbers.map fun r =>
      (dueAt s f r).length + (keptAt s f r).toList.length - 1).sum) }

/-- The overlay records, by what each step finds in the regions. -/
theorem overlayAt_eq (s : State) (f : Nat) : overlayAt s f =
    ((regionNumbers.filter fun r => (s.region r).any fun x => decide (x.item.outFrame ≤ f)).map LinkRecord.clearRegion) ++
    (regionNumbers.flatMap fun r => entryRecords f r (dueAt s f r) (keptAt s f r)) ++
    regionNumbers.flatMap fun r => refreshRecords f r (holderAfter f (dueAt s f r) (keptAt s f r)) := by
  unfold overlayAt
  refine congrArg₂ (· ++ ·) (congrArg₂ (· ++ ·) (congrArg _ (List.filter_congr fun r _ => ?_))
    (congrArg (regionNumbers.flatMap ·) (funext fun r => ?_))) (congrArg (regionNumbers.flatMap ·) (funext fun r => ?_))
  · rw [keptAt_eq]
    cases s.region r with
    | none => rfl
    | some x => by_cases ended : x.item.outFrame ≤ f <;> simp [Option.filter, ended]
  · rw [entryRecords, holderAfter]
    cases last : (dueAt s f r).getLast? with
    | none => rw [if_pos (List.getLast?_eq_none_iff.mp last)]
    | some i =>
      have some_in : dueAt s f r ≠ [] := fun c => by rw [c] at last; cases last
      exact (if_neg some_in).symm
  · rw [holderAfter]
    cases (dueAt s f r).getLast? with
    | none => cases keptAt s f r <;> rfl
    | some i => exact (if_pos rfl).symm

/-- The items that step 2 and step 3 leave in the schedule (R110, R111). -/
theorem schedule_left (s : State) (f : Nat) :
    ((s.sub.schedule.filter fun i => !s.itemDue f i).filter fun i => !(s.ofCurrent i && decide (i.outFrame ≤ f))) =
      s.sub.schedule.filter fun i => !decide (s.seq.currentSlot = some (s.trackEntry i.track).slot ∧
        (i.outFrame ≤ f ∨ (s.sub.active = some i.track ∧ i.inFrame ≤ f))) := by
  rw [List.filter_filter]
  refine List.filter_congr fun i _ => ?_
  rw [← Bool.not_or, Bool.eq_iff_iff]
  simp only [State.itemDue, State.ofCurrent, Bool.not_eq_true', Bool.eq_false_iff, ne_eq, Bool.or_eq_true, Bool.and_eq_true,
    decide_eq_true_eq, beq_iff_eq, ← Nat.not_le (a := i.outFrame)]
  tauto

/-- Step 1 has emptied the regions whose items are over (R109). -/
structure Expired (f : Nat) (s e : State) : Prop where
  only   : OnlySubtitles s e
  link   : e.link = s.link ++
    (regionNumbers.filter fun r => (s.region r).any fun x => decide (x.item.outFrame ≤ f)).map LinkRecord.clearRegion
  sub    : e.sub = { s.sub with regions := e.sub.regions }
  length : e.sub.regions.length = s.sub.regions.length
  region : ∀ r ∈ regionNumbers, e.region r = keptAt s f r

theorem emptyRegions_expired (s : State) (f : Nat) : Expired f s (s.emptyRegions fun i => decide (i.outFrame ≤ f)) := by
  obtain ⟨only, sub, length, kept, link⟩ := State.emptyRegions_spec s fun i => decide (i.outFrame ≤ f)
  exact ⟨only, link, sub, length, fun r hr => (kept r (mem_regionNumbers.mp hr)).trans (keptAt_eq s f r).symm⟩

section
variable {f : Nat} {s e : State} (h : Expired f s e)
include h

theorem Expired.schedule : e.sub.schedule = s.sub.schedule := (congrArg Subtitles.schedule h.sub :)

theorem Expired.preempted : e.sub.preempted = s.sub.preempted := (congrArg Subtitles.preempted h.sub :)

/-- Expiry leaves the items that are due. -/
theorem Expired.itemDue : e.itemDue f = s.itemDue f := by
  have active : e.sub.active = s.sub.active := (congrArg Subtitles.active h.sub :)
  funext i
  rw [State.itemDue, State.itemDue, ofCurrent_only h.only, active]

theorem Expired.intoRegion (r : Nat) : intoRegion r (e.sub.schedule.filter (e.itemDue f)) = dueAt s f r := by
  rw [h.itemDue, h.schedule, dueAt_eq]

theorem Expired.entries :
    (regionNumbers.flatMap fun r => entryRecords f r (Safety.intoRegion r (e.sub.schedule.filter (e.itemDue f))) (e.region r)) =
      regionNumbers.flatMap fun r => entryRecords f r (dueAt s f r) (keptAt s f r) :=
  List.flatMap_congr fun r hr => by rw [h.region r hr, h.intoRegion]

theorem Expired.preemptions : preemptions (e.sub.schedule.filter (e.itemDue f)) e.region =
    (regionNumbers.map fun r => (dueAt s f r).length + (keptAt s f r).toList.length - 1).sum :=
  congrArg List.sum (List.map_congr_left fun r hr => by rw [h.region r hr, h.intoRegion])

end

/-- The engine's work, step by step: expiry, admission, unshown expiry, opacity refresh. -/
theorem subtitleWork_shown {s : State} (hl : s.sub.regions.length = 4) (hp : s.sub.preempted ≤ 65535)
    (hi : ∀ i ∈ s.sub.schedule, i.region ≤ 3) {f : Nat} (h0 : 0 < f) : SubtitlesShown f s.link s (s.subtitleWork f) := by
  unfold State.subtitleWork
  rw [if_neg (Nat.ne_of_gt h0)]
  dsimp only
  have expired := emptyRegions_expired s f
  generalize s.emptyRegions _ = e at expired ⊢
  have admitted := admitItems_admitted (expired.length.trans hl) (expired.preempted ▸ hp) (expired.schedule ▸ hi) f
  generalize e.admitItems f = a at admitted ⊢
  obtain ⟨-, dropped, rest⟩ := State.dropItems_spec a fun i => a.ofCurrent i && decide (i.outFrame ≤ f)
  generalize a.dropItems _ = d at dropped rest ⊢
  have refreshed := refreshRegion_foldl_refreshed f regionNumbers (by decide) d
  generalize regionNumbers.foldl (State.refreshRegion f) d = u at refreshed
  have holder : ∀ r ∈ regionNumbers, d.region r = holderAfter f (dueAt s f r) (keptAt s f r) := fun r hr => by
    have same : d.region r = a.region r := by rw [State.region, State.region, rest]
    rw [same, admitted.region, expired.region r hr, expired.intoRegion]
  refine ⟨?_, fun r hr => ?_, ?_⟩
  · have refreshes : (regionNumbers.flatMap fun r => refreshRecords f r (d.region r)) =
        regionNumbers.flatMap fun r => refreshRecords f r (holderAfter f (dueAt s f r) (keptAt s f r)) :=
      List.flatMap_congr fun r hr => by rw [holder r hr]
    rw [refreshed.link, dropped, admitted.link, expired.link, expired.entries, refreshes, overlayAt_eq]
    simp only [List.append_assoc]
  · have inside : r ∈ regionNumbers := mem_regionNumbers.mpr hr
    rw [refreshed.region, if_pos inside, holder r inside]
  · have left := schedule_left s f
    rw [← expired.itemDue, ← expired.schedule, ← ofCurrent_only expired.only, ← ofCurrent_only admitted.only] at left
    rw [refreshed.sub, rest, admitted.sub, admitted.preempted, left, expired.preemptions, expired.preempted, expired.schedule,
      expired.sub]

/-! ### The boundary -/

/-- The engine's work depends on its own part of the state, the current slot and the track table. -/
theorem SubtitlesShown.congr {f : Nat} {l : List LinkRecord} {s u t : State} (h : SubtitlesShown f l u t) (sub : u.sub = s.sub)
    (slot : u.seq.currentSlot = s.seq.currentSlot) (tables : u.tables.track = s.tables.track) : SubtitlesShown f l s t := by
  have entry : u.trackEntry = s.trackEntry := funext fun k => by rw [State.trackEntry, State.trackEntry, tables]
  have region : u.region = s.region := funext fun r => by rw [State.region, State.region, sub]
  have due : dueAt u = dueAt s := by funext f r; simp only [dueAt, sub, slot, entry]
  have kept : keptAt u = keptAt s := by funext f r; simp only [keptAt, region]
  have records : overlayAt u f = overlayAt s f := by simp only [overlayAt, region, due, kept]
  obtain ⟨hlink, hregion, hsub⟩ := h
  rw [records] at hlink
  rw [due, kept] at hregion hsub
  rw [sub, slot, entry] at hsub
  exact ⟨hlink, hregion, hsub⟩

/-- The work on a frame is the engine's work after a marker; what comes before it changes nothing that the engine reads. -/
theorem frameWork_subtitles {s : State} (hl : s.sub.regions.length = 4) (hp : s.sub.preempted ≤ 65535)
    (hi : ∀ i ∈ s.sub.schedule, i.region ≤ 3) (m : Mix) {f : Nat} (h0 : 0 < f) :
    SubtitlesShown f (s.link ++ [verdictMark s f]) s (frameWork m f s) := by
  obtain ⟨-, presented, marked⟩ := present_shown s f
  obtain ⟨stands, -⟩ := present_stands s f
  have block := (frameBlock_formed (s.present f) m f).rest
  unfold frameWork
  generalize (s.present f).frameBlock m f = b at block ⊢
  have sub : b.sub = s.sub := (congrArg State.sub block).trans presented
  have link : b.link = s.link ++ [verdictMark s f] := (congrArg State.link block).trans marked
  have slot : b.seq.currentSlot = s.seq.currentSlot := (congrArg (fun u : State => u.seq.currentSlot) block).trans stands.slot
  have tables : b.tables.track = s.tables.track := (congrArg (fun u : State => u.tables.track) block).trans stands.tables.1
  rw [← link]
  rw [← sub] at hl hp hi
  exact (subtitleWork_shown hl hp hi h0).congr sub slot tables

theorem verdictMark_overlay (s : State) (f : Nat) : overlay (verdictMark s f) = false := by
  unfold verdictMark
  split <;> rfl

/-- Settles O41: with no cue due the boundary is the work on its frame, in which the engine's work comes after the marker. -/
theorem subtitleWork : Obligations.SubtitleWork := by
  unfold Obligations.SubtitleWork
  rintro s _ h ok hq rfl h0 hD hp quiet
  have regions : ∀ i ∈ s.sub.schedule, i.region ≤ 3 := fun i hi => by
    obtain ⟨-, region, -⟩ := ok.items i (.inl hi)
    exact region
  have shown := (frameWork_subtitles (s := onward (dressed (fadedStep s) s)) ok.regions hp regions s.mix h0).congr (s := s) rfl rfl rfl
  have rest := (boundary_reported h).rest
  rw [boundaryDone_playing hq h0 hD, frameWork_quiet (s := onward (dressed (fadedStep s) s)) s.mix quiet rfl] at rest
  generalize frameWork s.mix s.seq.frame (onward (dressed (fadedStep s) s)) = p at shown rest
  have tsub : (event State.frameBoundary s).sub = p.sub := (congrArg State.sub rest :)
  have tlink : (event State.frameBoundary s).link = p.link := (congrArg State.link rest :)
  refine ⟨_, verdictMark (onward (dressed (fadedStep s) s)) s.seq.frame, boundary_exec h, verdictMark_overlay .., ?_, fun r hr => ?_,
    ?_⟩
  · exact tlink.trans shown.link
  · rw [State.region, tsub]
    refine (shown.region r hr).trans ?_
    unfold holderAfter
    cases (dueAt s s.seq.frame r).getLast? <;> rfl
  · rw [tsub]
    exact shown.sub

end Sys2Proof.Safety
end

-- ==== inputs: levels, ticks and accepted edges ====
section
/-! PROOFS. The inputs (R147, R148): what a change of the raw level does, the one change that a millisecond tick accepts, and the
action of an accepted edge: none, a show command, or INPUT_REFUSED. -/

namespace Sys2Proof.Safety

open Sys2Proof.Machine

/-! ### One input line -/

theorem input_updInput_same {s : State} {i : Nat} (hi : i < s.booth.inputs.length) (f : Input → Input) :
    (s.updInput i f).input i = f (s.input i) := by
  simp [State.input, State.updInput, List.getD_eq_getElem?_getD, hi]

theorem updInput_updInput (s : State) (i : Nat) (f g : Input → Input) :
    (s.updInput i f).updInput i g = s.updInput i (g ∘ f) := by
  simp only [State.updInput, List.modify_modify_eq]

/-- A tick reaches every debounce count (R147). -/
theorem input_tickLines (s : State) (i : Nat) :
    s.tickLines.input i = { s.input i with waiting := (s.input i).waiting.map (· + 1) } :=
  List.getD_map s.booth.inputs (Input.powerOn .high) (fun k => ({ k with waiting := k.waiting.map (· + 1) } : Input))

/-- The acceptance of a change depends on the state that it leaves and on the raw level. -/
theorem acceptEdge_congr {s u : State} {i : Nat} (taken : edgeTaken u i = edgeTaken s i)
    (raw : (u.input i).raw = (s.input i).raw) : u.acceptEdge i = s.acceptEdge i := by
  have entry : u.inputEntry i = s.inputEntry i := (congrArg (fun v : State => v.inputEntry i) taken :)
  have seq : u.seq = s.seq := (congrArg State.seq taken :)
  have change : u.acceptChange i = s.acceptChange i := by
    unfold edgeTaken at taken
    simp only [State.acceptChange, taken, raw, entry]
  rw [State.acceptEdge, State.acceptEdge, event, event, change, seq]

/-! ### ACCEPTED_EDGE and INPUT_LEVEL_CHANGE -/

theorem exec_acceptedEdge_waiting {s : State} {i : Fin 8} (hr : s.inReset = false) (hw : (s.input i.val).waiting ≠ none) :
    exec (.acceptedEdge i) s = .next (s.acceptEdge i.val) := exec_acceptedEdge hr hw

theorem exec_acceptedEdge_stable {s : State} {i : Fin 8} (hr : s.inReset = false) (hw : (s.input i.val).waiting = none) :
    exec (.acceptedEdge i) s = .next s := by
  have stable : ¬ (s.input i.val).waiting.isSome = true := by simp [hw]
  exact (run_running hr).trans (congrArg _ (if_neg stable))

theorem exec_inputLevelChange {s : State} (hr : s.inReset = false) (i : Fin 8) (level : InLevel) :
    exec (.inputLevelChange i level) s = .next (s.changeInput i.val level) := congrArg _ (if_neg (by simp [hr]))

section
variable {s : State} {i : Nat} {level : InLevel}

theorem changeInput_same : s.changeInput i (s.input i).raw = s := if_pos rfl

/-- A level that goes back to the debounced one ends the change that is pending (R147). -/
theorem changeInput_back (other : level ≠ (s.input i).raw) (back : level = (s.input i).debounced) :
    s.changeInput i level = s.updInput i fun k => { k with raw := level, waiting := none } := by
  rw [State.changeInput, if_neg other.symm, if_pos back, updInput_updInput]
  rfl

/-- A level that leaves the debounced one starts the debounce count (R147). -/
theorem changeInput_waits (other : level ≠ (s.input i).raw) (away : level ≠ (s.input i).debounced)
    (debounced : (s.inputEntry i).debounce ≠ 0) :
    s.changeInput i level = s.updInput i fun k => { k with raw := level, waiting := some 0 } := by
  rw [State.changeInput, if_neg other.symm, if_neg away, if_neg debounced, updInput_updInput]
  rfl

/-- With debounce time 0 the change is accepted at once, as if its count had been started (R147). -/
theorem changeInput_accepted (hi : i < s.booth.inputs.length) (other : level ≠ (s.input i).raw)
    (away : level ≠ (s.input i).debounced) (immediate : (s.inputEntry i).debounce = 0) :
    s.changeInput i level = (s.updInput i fun k => { k with raw := level, waiting := some 0 }).acceptEdge i := by
  rw [State.changeInput, if_neg other.symm, if_neg away, if_pos immediate]
  refine acceptEdge_congr ?_ ?_
  · rw [edgeTaken, edgeTaken, updInput_updInput, updInput_updInput]
    rfl
  · rw [input_updInput_same hi, input_updInput_same hi]

end

/-! ### The changes that a tick accepts -/

theorem nodup_eraseDups {α : Type} [DecidableEq α] (l : List α) : l.eraseDups.Nodup := by
  match l with
  | [] => exact List.nodup_nil
  | a :: l =>
    rw [List.eraseDups_cons]
    exact List.nodup_cons.mpr ⟨by simp [List.mem_eraseDups], nodup_eraseDups _⟩
termination_by l.length
decreasing_by exact Nat.lt_succ_of_le (List.length_filter_le ..)

theorem dueAtTick_iff (s : State) (i : Nat) :
    s.dueAtTick i = true ↔ ∃ n, (s.input i).waiting = some n ∧ (s.inputEntry i).debounce ≤ n + 1 := by
  unfold State.dueAtTick
  cases (s.input i).waiting <;> simp

/-- Whatever order a tick gives, it judges each of the eight inputs once (R147). -/
theorem dueInputs_eq_filter (s : State) (order : List (Fin 8)) :
    ∃ l : List Nat, l.Nodup ∧ (∀ j, j ∈ l ↔ j < 8) ∧ s.dueInputs order = l.filter s.dueAtTick := by
  have rest : ∀ j, (j ∈ (List.range 8).filter fun k => !(order.map Fin.val).eraseDups.contains k) ↔
      j < 8 ∧ j ∉ (order.map Fin.val).eraseDups := fun j => by
    rw [List.mem_filter, List.mem_range, Bool.not_eq_true', ← Bool.not_eq_true, List.contains_iff_mem]
  have given : ∀ j ∈ (order.map Fin.val).eraseDups, j < 8 := fun j h => by
    obtain ⟨k, -, rfl⟩ := List.mem_map.mp (List.mem_eraseDups.mp h)
    exact k.isLt
  refine ⟨_, List.nodup_append.mpr ⟨nodup_eraseDups (order.map Fin.val), List.nodup_range.filter _, ?_⟩, fun j => ?_, rfl⟩
  · rintro a first _ second rfl
    exact ((rest a).mp second).2 first
  · have := given j
    rw [List.mem_append, rest]
    tauto

/-- A tick at which one input alone is due accepts that input's change. -/
theorem dueInputs_singleton {s : State} {i : Nat} (hi : i < 8) (due : s.dueAtTick i = true)
    (alone : ∀ j, j < 8 → j ≠ i → ¬ s.dueAtTick j = true) (order : List (Fin 8)) : s.dueInputs order = [i] := by
  obtain ⟨l, distinct, all, filtered⟩ := dueInputs_eq_filter s order
  have only : ∀ j ∈ l, s.dueAtTick j = (j == i) := fun j hj => by
    by_cases h : j = i
    · simp [h, due]
    · rw [Bool.eq_false_of_not_eq_true (alone j ((all j).mp hj) h), beq_false_of_ne h]
  rw [filtered, List.filter_congr only, List.filter_beq, List.count_eq_one_of_mem distinct ((all i).mpr hi)]
  rfl

/-- The generators and the debounce counts come before the one change that the tick accepts (log 10). -/
theorem millisecondTick_one {s : State} {i n : Nat} (hi : i < 8) (hn : (s.input i).waiting = some n)
    (due : (s.inputEntry i).debounce ≤ n + 1)
    (others : ∀ j m, j < 8 → j ≠ i → (s.input j).waiting = some m → m + 1 < (s.inputEntry j).debounce)
    (order : List (Fin 8)) : s.millisecondTick order = s.tickLines.acceptEdge i := by
  have alone : ∀ j, j < 8 → j ≠ i → ¬ s.dueAtTick j = true := fun j hj ne h => by
    obtain ⟨m, hm, reached⟩ := (dueAtTick_iff s j).mp h
    exact absurd (others j m hj ne hm) (Nat.not_lt.mpr reached)
  rw [State.millisecondTick, dueInputs_singleton hi ((dueAtTick_iff s i).mpr ⟨n, hn, due⟩) alone]
  rfl

/-! ### Show commands of an input -/

/-- The states of R34 are those in which a show command is taken. -/
theorem showCommand_some {s : State} {c : ShowCommand} (h : s.seq.state ∈ acceptedIn c) : ∃ u, s.showCommand c = some u := by
  cases c with
  | start => exact ⟨_, if_pos (by simpa [acceptedIn] using h)⟩
  | hold => exact ⟨_, if_pos (by simpa [acceptedIn] using h)⟩
  | resume => exact ⟨_, if_pos (by simpa [acceptedIn] using h)⟩
  | skip =>
    have running : s.seq.state.running = true := by
      revert h
      cases s.seq.state <;> decide
    exact ⟨_, if_pos running⟩
  | stop =>
    have active : s.seq.state.active = true := by
      revert h
      cases s.seq.state <;> decide
    exact ⟨_, if_pos active⟩
  | clear => exact ⟨_, if_pos (by simpa [acceptedIn] using h)⟩

/-- The flags outside `A` stand through every change that raises flags of `A` alone. -/
theorem flagsBut_closed (A : Flag → Prop) (s : State) : Closed A (FlagsBut A s) where
  raise _ hf h := h.trans (.raise _ hf)
  send _ h := h
  tracks _ _ h := h
  cells _ h := h
  sub _ _ h := h
  seq _ _ h := h
  period _ h := h
  repeats _ h := h
  lanes _ _ _ h := h
  acct _ h := h
  licence _ h := h
  fader _ _ h := h
  map _ h := h
  booth _ _ _ _ h := h
  cue _ h := h

/-- No show command raises INPUT_REFUSED. -/
theorem showCommand_flags {s u : State} {c : ShowCommand} (hu : s.showCommand c = some u) :
    FlagsBut (· ≠ .inputRefused) s u := by
  have both := (flagsBut_closed (· ≠ .inputRefused) s).alike
  have start : s = s ∧ FlagsBut (· ≠ .inputRefused) s s := ⟨rfl, .of_mgmt rfl⟩
  cases c with
  | start =>
    obtain ⟨-, ⟨⟩⟩ := Option.ite_none_right_eq_some.mp hu
    exact (both.enterPreroll start).2
  | hold =>
    obtain ⟨-, ⟨⟩⟩ := Option.ite_none_right_eq_some.mp hu
    exact (both.enterHolding start).2
  | resume =>
    obtain ⟨-, ⟨⟩⟩ := Option.ite_none_right_eq_some.mp hu
    exact (both.resumeEvent (both.seq (fun q => { q with state := .playing }) (fun _ => rfl) start)).2
  | skip =>
    obtain ⟨-, ⟨⟩⟩ := Option.ite_none_right_eq_some.mp hu
    have ended : FlagsBut (· ≠ .inputRefused) s s.endBySkip := fun f hf => by
      obtain rfl := not_not.mp hf
      rw [(endBySkip_ended s).flags]
      simp
    have advanced := both.advancePosition ⟨rfl, ended⟩ (by simp) (by simp)
    split
    · exact (both.enterEnded advanced).2
    · exact (both.enterPreroll advanced).2
  | stop =>
    obtain ⟨-, ⟨⟩⟩ := Option.ite_none_right_eq_some.mp hu
    exact (both.enterStopped start .command).2
  | clear =>
    obtain ⟨-, ⟨⟩⟩ := Option.ite_none_right_eq_some.mp hu
    exact (both.unscheduleAll start).2

/-- The inputs' actions that are show commands (R148). -/
def commandActions : List (InputAction × ShowCommand) :=
  [(.start, .start), (.hold, .hold), (.resume, .resume), (.stop, .stop), (.skip, .skip)]

/-- Such an action is its show command, or INPUT_REFUSED (R148). -/
theorem inputAction_command {a : InputAction} {c : ShowCommand} (h : (a, c) ∈ commandActions) (s : State) :
    s.inputAction a = (s.showCommand c).getD (s.raise .inputRefused) := by
  simp only [commandActions, List.mem_cons, Prod.mk.injEq, List.not_mem_nil, or_false] at h
  rcases h with ⟨rfl, rfl⟩ | ⟨rfl, rfl⟩ | ⟨rfl, rfl⟩ | ⟨rfl, rfl⟩ | ⟨rfl, rfl⟩ <;> rfl

/-! ### Accepted edges -/

/-- A disabled entry, the other edge and NONE take the edge and do nothing more (R148). -/
theorem acceptChange_inert {s : State} {i : Nat} (ha : (s.inputEntry i).action ≠ .emergency)
    (inert : (s.inputEntry i).enabled = false ∨ edgeTo (s.input i).raw ≠ (s.inputEntry i).edge ∨
      (s.inputEntry i).action = .nothing) : s.acceptChange i = edgeTaken s i := by
  by_cases active : (s.inputEntry i).enabled = true ∧ edgeTo (s.input i).raw = (s.inputEntry i).edge
  · obtain ⟨enabled, edge⟩ := active
    have nothing : (s.inputEntry i).action = .nothing := by simpa [enabled, edge] using inert
    rw [acceptChange_action enabled edge ha, nothing]
    rfl
  · by_cases enabled : (s.inputEntry i).enabled = true
    · rw [State.acceptChange, if_pos enabled, if_neg ha, if_neg fun edge => active ⟨enabled, edge⟩]
      rfl
    · rw [State.acceptChange, if_neg enabled]
      rfl

/-- The report of a change of show state does not touch INPUT_REFUSED. -/
theorem event_inputRefused (work : State → State) (s : State) :
    flagSet (event work s).mgmt.flags .inputRefused = flagSet (work s).mgmt.flags .inputRefused := by
  rw [event_flags]
  split
  · rfl
  · simp

section
variable {s : State} {i : Nat} {c : ShowCommand}

/-- A show command that the show takes is the work of its edge, and its report adds no INPUT_REFUSED (R148). -/
theorem acceptEdge_taken {u : State} (hu : (edgeTaken s i).showCommand c = some u) (work : s.acceptChange i = u) :
    s.acceptEdge i = { u with mgmt := (s.acceptEdge i).mgmt } ∧
    flagSet (s.acceptEdge i).mgmt.flags .inputRefused = flagSet s.mgmt.flags .inputRefused := by
  have reported := event_eq (fun s => s.acceptChange i) s
  have flags := event_inputRefused (fun s => s.acceptChange i) s
  rw [work] at reported flags
  exact ⟨reported, flags.trans (showCommand_flags hu .inputRefused (by simp))⟩

/-- A show command that the show refuses raises INPUT_REFUSED and nothing else (R148). -/
theorem acceptEdge_refused (work : s.acceptChange i = (edgeTaken s i).raise .inputRefused) :
    s.acceptEdge i = { edgeTaken s i with mgmt := (s.acceptEdge i).mgmt } ∧
    (s.acceptEdge i).mgmt.flags = withFlag s.mgmt.flags .inputRefused := by
  have reported := event_eq (fun s => s.acceptChange i) s
  have flags := event_flags (fun s => s.acceptChange i) s
  rw [work] at reported flags
  rw [if_pos (by rw [State.raise_seq]; rfl), State.raise_flags] at flags
  rw [State.raise_eq] at reported
  exact ⟨reported, flags⟩

end

/-- Settles O50: the branches of a level change, the one input due at a tick, and the kinds of action of an accepted edge. -/
theorem inputEdgesAndActions : Obligations.InputEdgesAndActions := by
  intro i s hr hq hl
  have inside : i.val < s.booth.inputs.length := by omega
  refine ⟨?_, fun level other => ⟨fun back => ?_, fun away debounced => ?_, fun away immediate => ?_⟩,
    fun order n hn due others => ?_, exec_acceptedEdge_stable hr, fun hw ha => ⟨fun inert => ?_, fun a c hac he hedge action => ?_⟩⟩
  · rw [exec_inputLevelChange hr, changeInput_same]
  · rw [exec_inputLevelChange hr, changeInput_back other back]
  · rw [exec_inputLevelChange hr, changeInput_waits other away debounced]
  · rw [exec_inputLevelChange hr, changeInput_accepted inside other away immediate]
    refine (exec_acceptedEdge_waiting (s := s.updInput i.val fun k => { k with raw := level, waiting := some 0 }) hr ?_).symm
    rw [input_updInput_same inside]
    exact Option.some_ne_none 0
  · have waits : (s.tickLines.input i.val).waiting ≠ none := by simp [input_tickLines, hn]
    calc exec (.millisecondTick order) s
        = .next (s.millisecondTick order) := run_running (work := fun s => s.millisecondTick order) hr
      _ = .next (s.tickLines.acceptEdge i.val) := by rw [millisecondTick_one i.isLt hn due others]
      _ = exec (.acceptedEdge i) s.tickLines := (exec_acceptedEdge_waiting (s := s.tickLines) hr waits).symm
  · have work := acceptChange_inert ha inert
    rw [exec_acceptedEdge hr hw]
    exact congrArg _ ((event_quiet (by rw [work]; rfl) (by rw [work]; rfl) hq.idle).trans work)
  · have work : s.acceptChange i.val = ((edgeTaken s i.val).showCommand c).getD ((edgeTaken s i.val).raise .inputRefused) := by
      rw [acceptChange_action he hedge ha, action, inputAction_command hac]
    refine ⟨fun accepted => ?_, fun refused => ?_⟩
    · obtain ⟨u, hu⟩ := showCommand_some (s := edgeTaken s i.val) accepted
      rw [hu] at work
      exact ⟨_, u, exec_acceptedEdge_waiting hr hw, hu, acceptEdge_taken hu work⟩
    · rw [showCommand_none (s := edgeTaken s i.val) refused] at work
      exact ⟨_, exec_acceptedEdge_waiting hr hw, acceptEdge_refused work⟩

end Sys2Proof.Safety
end

-- ==== the showing log: open and closed logs, the show ====
section
/-! PROOFS. The showing log (R159, R161 to R163): while a composition is on the timeline its record is the newest and open, with
as many frames presented as the show has taken; otherwise every record is closed. The show's own work keeps it so. -/

namespace Sys2Proof.Safety

open Sys2Proof.Machine

/-! ### Logs -/

/-- A log with no open record. -/
structure LogClosed (l : List Record) : Prop where
  length  : l.length ≤ Config.logRecords
  closed  : ∀ r ∈ l, r.outcome ≠ .opened
  repeats : ∀ r ∈ l, r.repeated ≤ r.presented

/-- A log whose newest record alone is open, with `n` frames presented. -/
structure LogOpen (n : Nat) (l : List Record) : Prop where
  length : l.length ≤ Config.logRecords
  newest : ∃ r, l = r :: l.tail ∧ r.outcome = .opened ∧ r.presented = n ∧ r.repeated ≤ n
  closed : ∀ r ∈ l.tail, r.outcome ≠ .opened
  repeats : ∀ r ∈ l.tail, r.repeated ≤ r.presented

theorem LogClosed.nil : LogClosed [] := ⟨Nat.zero_le _, fun _ h => (nomatch h), fun _ h => nomatch h⟩

/-- A closed record joins a closed log, whose oldest may leave (R161). -/
theorem LogClosed.join {l : List Record} (h : LogClosed l) {r : Record} (closed : r.outcome ≠ .opened)
    (fits : r.repeated ≤ r.presented) : LogClosed ((r :: l).take 64) := by
  refine ⟨List.length_take_le .., fun x hx => ?_, fun x hx => ?_⟩
  · rcases List.mem_cons.mp (List.mem_of_mem_take hx) with rfl | hx
    · exact closed
    · exact h.closed x hx
  · rcases List.mem_cons.mp (List.mem_of_mem_take hx) with rfl | hx
    · exact fits
    · exact h.repeats x hx

/-- An open record joins a closed log (R162). -/
theorem LogClosed.start {n : Nat} {l : List Record} (h : LogClosed l) {r : Record} (open_ : r.outcome = .opened)
    (presented : r.presented = n) (fits : r.repeated ≤ n) : LogOpen n ((r :: l).take 64) :=
  ⟨List.length_take_le .., ⟨r, rfl, open_, presented, fits⟩, fun x hx => h.closed x (List.mem_of_mem_take hx),
    fun x hx => h.repeats x (List.mem_of_mem_take hx)⟩

/-- The newest record of an open log changes and stays open. -/
theorem LogOpen.change {n m : Nat} {l : List Record} (h : LogOpen n l) {r : Record} (open_ : r.outcome = .opened)
    (presented : r.presented = m) (fits : r.repeated ≤ m) : LogOpen m (r :: l.tail) := by
  obtain ⟨x, hl, -⟩ := h.newest
  have length := h.length
  rw [hl] at length
  exact ⟨length, ⟨r, rfl, open_, presented, fits⟩, h.closed, h.repeats⟩

theorem LogClosed.filter {l : List Record} (h : LogClosed l) (p : Record → Bool) : LogClosed (l.filter p) :=
  ⟨(List.length_filter_le ..).trans h.length, fun r hr => h.closed r (List.mem_of_mem_filter hr),
    fun r hr => h.repeats r (List.mem_of_mem_filter hr)⟩

/-- A filter that lets open records pass keeps the open record. -/
theorem LogOpen.filter {n : Nat} {l : List Record} (h : LogOpen n l) {p : Record → Bool}
    (hp : ∀ r, r.outcome = .opened → p r = true) : LogOpen n (l.filter p) := by
  obtain ⟨r, hl, open_, newest⟩ := h.newest
  have kept : l.filter p = r :: l.tail.filter p := by rw [hl, List.filter_cons_of_pos (hp r open_)]; rfl
  refine ⟨(List.length_filter_le ..).trans h.length, ⟨r, by rw [kept]; rfl, open_, newest⟩, fun x hx => ?_, fun x hx => ?_⟩
  · rw [kept] at hx; exact h.closed x (List.mem_of_mem_filter hx)
  · rw [kept] at hx; exact h.repeats x (List.mem_of_mem_filter hx)

/-! ### The open record of a log -/

theorem LogClosed.openRecord {a : Accounting} (h : LogClosed a.log) : a.openRecord? = none := by
  cases hr : a.openRecord? with
  | none => rfl
  | some r => exact absurd (openRecord_outcome hr) (h.closed r (openRecord_log hr ▸ List.mem_cons_self))

theorem LogOpen.openRecord {n : Nat} {a : Accounting} (h : LogOpen n a.log) :
    ∃ r, a.openRecord? = some r ∧ r.presented = n ∧ r.repeated ≤ n := by
  obtain ⟨r, hl, open_, presented, fits⟩ := h.newest
  refine ⟨r, ?_, presented, fits⟩
  rw [Accounting.openRecord?, hl]
  exact if_pos open_

/-- A change that closes a record and keeps its counts (R165, R166). -/
def Closes (f : Record → Record) : Prop :=
  ∀ r, (f r).outcome ≠ .opened ∧ (f r).presented = r.presented ∧ (f r).repeated = r.repeated

theorem closes_closing : Closes fun r => { r with outcome := r.closing } := fun r => by
  refine ⟨?_, rfl, rfl⟩
  change r.closing ≠ .opened
  unfold Record.closing
  split
  · exact fun c => nomatch c
  · split <;> exact fun c => nomatch c

theorem closes_warm : Closes fun r => { r with outcome := if r.counted then .counted else .short } := fun r => by
  refine ⟨?_, rfl, rfl⟩
  change (if r.counted then Outcome.counted else .short) ≠ .opened
  split <;> exact fun c => nomatch c

theorem LogClosed.updOpen {a : Accounting} (h : LogClosed a.log) (f : Record → Record) : LogClosed (a.updOpen f).log := by
  rw [Accounting.updOpen_none h.openRecord]
  exact h

/-- The open record closes in its place. -/
theorem LogOpen.close {n : Nat} {a : Accounting} (h : LogOpen n a.log) {f : Record → Record} (hf : Closes f) :
    LogClosed (a.updOpen f).log := by
  obtain ⟨r, hr, presented, fits⟩ := h.openRecord
  obtain ⟨closed, hp, hq⟩ := hf r
  have length := h.length
  rw [openRecord_log hr] at length
  rw [Accounting.updOpen_some hr]
  refine ⟨length, fun x hx => ?_, fun x hx => ?_⟩
  · rcases List.mem_cons.mp hx with rfl | hx
    · exact closed
    · exact h.closed x hx
  · rcases List.mem_cons.mp hx with rfl | hx
    · omega
    · exact h.repeats x hx

/-! ### The two cases of the show -/

/-- No composition is on the timeline. -/
structure OffAir (s : State) : Prop where
  state : s.seq.state.onAir = false
  start : s.seq.state = .armed ∨ s.seq.state = .preroll → s.seq.frame = 0
  log   : LogClosed s.acct.log

/-- A composition is on the timeline. -/
structure OnAir (s : State) : Prop where
  state : s.seq.state.onAir = true
  frame : 1 ≤ s.seq.frame
  log   : LogOpen s.seq.frame s.acct.log

/-- The showing log in order. -/
def Records (s : State) : Prop := OffAir s ∨ OnAir s

theorem records_iff (s : State) : Records s ↔ RecordsOk s := by
  constructor
  · rintro (⟨state, start, log⟩ | ⟨state, frame, log⟩)
    · have none_open := log.openRecord
      exact ⟨log.length, by rw [state, none_open]; rfl, fun r hr => log.closed r (List.mem_of_mem_tail hr),
        fun r hr => (nomatch none_open.symm.trans hr), start, log.repeats⟩
    · obtain ⟨r, hr, presented, fits⟩ := log.openRecord
      refine ⟨log.length, by rw [state, hr]; rfl, log.closed, fun x hx => ?_, fun c => ?_, fun x hx => ?_⟩
      · obtain rfl : r = x := Option.some.inj (hr.symm.trans hx)
        exact ⟨presented, frame⟩
      · rcases c with c | c <;> rw [c] at state <;> cases state
      · rw [openRecord_log hr] at hx
        rcases List.mem_cons.mp hx with rfl | hx
        · omega
        · exact log.repeats x hx
  · rintro ⟨length, opened, newest, frames, start, repeats⟩
    cases hr : s.acct.openRecord? with
    | none =>
      rw [hr] at opened
      refine .inl ⟨opened, start, length, fun r hl => ?_, repeats⟩
      intro open_
      cases log : s.acct.log with
      | nil => rw [log] at hl; cases hl
      | cons x l =>
        rw [log] at hl newest
        rcases List.mem_cons.mp hl with rfl | hl
        · rw [Accounting.openRecord?, log] at hr
          exact nomatch (if_pos open_).symm.trans hr
        · exact newest r hl open_
    | some r =>
      rw [hr] at opened
      obtain ⟨presented, frame⟩ := frames r hr
      have log := openRecord_log hr
      have fits := repeats r (by rw [log]; exact List.mem_cons_self)
      exact .inr ⟨opened, frame, length, ⟨r, log, openRecord_outcome hr, presented, by omega⟩, newest,
        fun x hx => repeats x (List.mem_of_mem_tail hx)⟩

section
variable {s u : State}

theorem OffAir.congr (h : OffAir s) (state : u.seq.state = s.seq.state := by rfl) (frame : u.seq.frame = s.seq.frame := by rfl)
    (log : u.acct.log = s.acct.log := by rfl) : OffAir u :=
  ⟨by rw [state]; exact h.state, by rw [state, frame]; exact h.start, by rw [log]; exact h.log⟩

theorem OnAir.congr (h : OnAir s) (state : u.seq.state.onAir = s.seq.state.onAir := by rfl)
    (frame : u.seq.frame = s.seq.frame := by rfl) (log : u.acct.log = s.acct.log := by rfl) : OnAir u :=
  ⟨state.trans h.state, frame.symm ▸ h.frame, by rw [frame, log]; exact h.log⟩

theorem Records.congr (h : Records s) (state : u.seq.state = s.seq.state := by rfl)
    (frame : u.seq.frame = s.seq.frame := by rfl) (log : u.acct.log = s.acct.log := by rfl) : Records u :=
  h.imp (fun h => h.congr state frame log) fun h => h.congr (congrArg _ state) frame log

/-- What leaves the sequencer and the log as they are. -/
theorem Records.same (h : Records s) (seq : u.seq = s.seq) (acct : u.acct = s.acct) : Records u :=
  h.congr (by rw [seq]) (by rw [seq]) (by rw [acct])

theorem Records.raise (h : Records s) (f : Flag) : Records (s.raise f) := h.same (State.raise_seq s f) (State.raise_acct s f)

/-- The show's state tells the case. -/
theorem Records.onAir (h : Records s) (q : s.seq.state.onAir = true) : OnAir s :=
  h.resolve_left fun h => nomatch h.state.symm.trans q

theorem Records.offAir (h : Records s) (q : s.seq.state.onAir = false) : OffAir s :=
  h.resolve_right fun h => nomatch h.state.symm.trans q

/-- The close of the open record, if there is one, leaves a closed log. -/
theorem Records.close (h : Records s) {f : Record → Record} (hf : Closes f) : LogClosed (s.acct.updOpen f).log :=
  h.elim (fun h => h.log.updOpen f) fun h => h.log.close hf

/-- A show that rests asks for a closed log alone. -/
theorem OffAir.of_resting (hq : s.seq.state = .idle ∨ s.seq.state = .ended ∨ s.seq.state = .stopped)
    (log : LogClosed s.acct.log) : OffAir s := by
  refine ⟨?_, fun c => ?_, log⟩
  · rcases hq with hq | hq | hq <;> rw [hq] <;> rfl
  · rcases hq with hq | hq | hq <;> rw [hq] at c <;> exact nomatch c

theorem Records.stopped (h : Records s) (reason : StopReason) : OffAir (s.enterStopped reason) := by
  have stopped := enterStopped_stopped s reason
  refine .of_resting (.inr (.inr ?_)) ?_
  · rw [stopped.seq]
  · rw [stopped.acct]; exact h.close closes_closing

end

/-! ### The position advance (R49) -/

/-- Between two compositions: no record is open and no frame has been presented. -/
structure Between (s : State) : Prop where
  frame : s.seq.frame = 0
  log   : LogClosed s.acct.log

section
variable {s : State}

theorem writeBarred_log (s : State) (reason : BarReason) : (s.writeBarred reason).seq = s.seq ∧
    (s.writeBarred reason).acct.log =
      ({ s.newRecord (.barred reason) with number := s.acct.nextNumber } :: s.acct.log).take 64 := by
  obtain ⟨rest, log, -⟩ := joinLog_joined s (s.newRecord (.barred reason))
  unfold State.writeBarred
  dsimp only
  rw [State.raise_seq, State.raise_acct]
  exact ⟨(congrArg State.seq rest :), log⟩

/-- A BARRED record joins a closed log closed (R167). -/
theorem LogClosed.writeBarred (h : LogClosed s.acct.log) (reason : BarReason) : LogClosed (s.writeBarred reason).acct.log := by
  rw [(writeBarred_log s reason).2]
  exact h.join (fun c => nomatch c) (Nat.le_refl 0)

/-- One position on, over a barred composition too. -/
theorem LogClosed.advance_succ (h : LogClosed s.acct.log) {n : Nat} (later : ∀ v, Between v → Between (State.advance n v)) :
    Between (State.advance (n + 1) s) := by
  have moved := positionOn_rest s
  unfold State.advance
  dsimp only
  generalize s.leavePosition.movePosition = v at moved
  have frame : v.seq.frame = 0 := (congrArg (fun v : State => v.seq.frame) moved :)
  have log : LogClosed v.acct.log := by
    have acct : v.acct = s.acct := (congrArg State.acct moved :)
    rw [acct]
    exact h
  split
  · exact ⟨frame, log⟩
  · split
    · exact later _ ⟨(congrArg Sequencer.frame (writeBarred_log v _).1).trans frame, log.writeBarred _⟩
    · exact ⟨frame, log⟩

theorem Between.advance (n : Nat) {s : State} (h : Between s) : Between (State.advance n s) := by
  induction n generalizing s with
  | zero => exact h
  | succ n ih => exact h.log.advance_succ fun _ hv => ih hv

theorem LogClosed.advancePosition (h : LogClosed s.acct.log) : Between s.advancePosition :=
  h.advance_succ fun _ hv => hv.advance _

/-! ### Presented frames (R41) -/

/-- What the verdict and the judgement of the count leave of the open record's counts (R163). -/
theorem verdictRecord_counts (c : Composition) (f : Nat) (shown : Bool) (time : Option Nat) (r : Record) :
    (verdictRecord c f shown time r).outcome = r.outcome ∧ (verdictRecord c f shown time r).presented = r.presented + 1 ∧
      (verdictRecord c f shown time r).repeated ≤ r.repeated + 1 := by
  have verdict : (r.verdict c f shown).outcome = r.outcome ∧ (r.verdict c f shown).presented = r.presented + 1 ∧
      (r.verdict c f shown).repeated ≤ r.repeated + 1 := by
    cases shown
    · exact ⟨rfl, rfl, Nat.le_refl _⟩
    · exact ⟨rfl, rfl, Nat.le_succ _⟩
  have judged : ∀ q : Record, (judgedRecord time q).outcome = q.outcome ∧ (judgedRecord time q).presented = q.presented ∧
      (judgedRecord time q).repeated = q.repeated := fun q => by
    unfold judgedRecord
    split <;> exact ⟨rfl, rfl, rfl⟩
  unfold verdictRecord
  split
  · obtain ⟨outcome, presented, repeated⟩ := judged (r.verdict c f shown)
    rw [outcome, presented, repeated]
    exact verdict
  · exact verdict

/-- The work on a presented frame counts it in the open record; a stall stays on the timeline (R45, R61, R163). -/
theorem LogOpen.frameWork {n : Nat} (log : LogOpen n s.acct.log) (air : s.seq.state.onAir = true) (next : s.seq.frame = n + 1)
    (m : Mix) (f : Nat) : OnAir (frameWork m f s) := by
  have shown := frameWork_shown m f s
  obtain ⟨r, hr, presented, fits⟩ := log.openRecord
  obtain ⟨outcome, one_more, repeated⟩ := verdictRecord_counts s.currentComposition f (s.verdict f) s.clk.booth r
  have counted : LogOpen (n + 1) (Safety.frameWork m f s).acct.log := by
    rw [shown.record r hr]
    exact log.change (outcome.trans (openRecord_outcome hr)) (by omega) (by omega)
  have taken : 1 ≤ s.seq.frame := by omega
  rw [← next] at counted
  by_cases stalls : StallsAt s f
  · have seq := (shown.show_.stalled stalls).1
    exact ⟨by rw [seq]; rfl, by rw [seq]; exact taken, by rw [seq]; exact counted⟩
  · have seq := (shown.show_.goes stalls).1
    exact ⟨by rw [seq]; exact air, by rw [seq]; exact taken, by rw [seq]; exact counted⟩

/-- A frame is due: frame 0 of a composition that starts, or a later one of the composition on the timeline. -/
def FrameDue (s : State) : Prop := Between s ∨ LogOpen s.seq.frame s.acct.log ∧ 1 ≤ s.seq.frame

theorem FrameDue.close (h : FrameDue s) : LogClosed s.closeRecord.acct.log :=
  h.elim (fun h => h.log.updOpen _) fun h => h.1.close closes_closing

/-- At frame 0 the composition starts with an OPEN record that has presented no frame (R162). -/
theorem FrameDue.started (h : FrameDue s) : ∃ v, v = (if s.seq.frame = 0 then s.startComposition else s) ∧
    v.seq = s.seq ∧ LogOpen s.seq.frame v.acct.log := by
  refine ⟨_, rfl, ?_⟩
  rcases h with ⟨frame, log⟩ | ⟨log, frame⟩
  · have started := startComposition_started s
    obtain ⟨q, joined, rfl⟩ := started.log
    rw [if_pos frame, joined, frame]
    exact ⟨(congrArg State.seq started.rest :), log.start rfl rfl (Nat.le_refl 0)⟩
  · rw [if_neg (by omega)]
    exact ⟨rfl, log⟩

theorem cueWork_kept (s : State) (f : Nat) : (s.cueWork f).seq = s.seq ∧ (s.cueWork f).acct = s.acct := by
  have rest := (cueWork_taken s f).rest
  exact ⟨(congrArg State.seq rest :), (congrArg State.acct rest :)⟩

theorem FrameDue.playFrame (h : FrameDue s) (air : s.seq.state.onAir = true) (m : Mix) : OnAir (s.playFrame m) := by
  obtain ⟨v, hv, seq, log⟩ := h.started
  rw [playFrame_eq, presented_eq, ← hv]
  have worked : OnAir (frameWork m s.seq.frame (v.updSeq fun q => { q with frame := s.seq.frame + 1 })) :=
    LogOpen.frameWork (s := v.updSeq fun q => { q with frame := s.seq.frame + 1 }) log (by rw [← air, ← seq]; rfl) rfl m _
  obtain ⟨kept, acct⟩ := cueWork_kept (frameWork m s.seq.frame (v.updSeq fun q => { q with frame := s.seq.frame + 1 }))
    s.seq.frame
  exact worked.congr (by rw [kept]) (by rw [kept]) (by rw [acct])

/-! ### Boundaries (R26) -/

theorem enterPreroll_kept (s : State) :
    s.enterPreroll.seq = { s.seq with state := .preroll, prerollTimer := some 0, stallTimer := none } ∧
      s.enterPreroll.acct = s.acct := by
  unfold State.enterPreroll
  dsimp only
  split <;> exact ⟨rfl, rfl⟩

/-- PREROLL and ENDED are entered between two compositions. -/
theorem Between.enterPreroll (h : Between s) : OffAir s.enterPreroll := by
  obtain ⟨seq, acct⟩ := enterPreroll_kept s
  exact ⟨by rw [seq]; rfl, fun _ => by rw [seq]; exact h.frame, by rw [acct]; exact h.log⟩

theorem Between.enterEnded (h : Between s) : OffAir s.enterEnded := .of_resting (.inr (.inl rfl)) h.log

theorem Between.afterAdvance (h : Between s) (m : Mix) : Records (s.afterAdvance m) := by
  unfold State.afterAdvance
  split
  · exact .inl h.enterEnded.congr
  · split
    · have due : FrameDue (s.updSeq fun q => { q with state := .playing, prerollTimer := none, stallTimer := none }) :=
        .inl ⟨h.frame, h.log⟩
      exact .inr (due.playFrame rfl m)
    · exact .inl h.enterPreroll.congr

/-- The end boundary closes the record before the advance (R48). -/
theorem FrameDue.endBoundary (h : FrameDue s) (m : Mix) : Records (s.endBoundary m) := by
  have closed : LogClosed ((s.cueWork s.seq.frame).closeRecord.raise .compositionEnd).acct.log := by
    rw [State.raise_acct, State.closeRecord_acct, (cueWork_kept s _).2]
    exact h.close
  exact closed.advancePosition.afterAdvance m

theorem FrameDue.playBoundary (h : FrameDue s) (air : s.seq.state.onAir = true) (m : Mix) : Records (s.playBoundary m) := by
  unfold State.playBoundary
  split
  · exact .inr (h.playFrame air m)
  · exact h.endBoundary m

/-- A boundary in PREROLL waits, starts the composition, or bars it (R39). -/
theorem OffAir.prerollBoundary (h : OffAir s) (hq : s.seq.state = .preroll) (m : Mix) : Records (s.prerollBoundary m) := by
  have entered : FrameDue (s.updSeq fun q => { q with state := .playing, cleared := true, prerollTimer := none }) :=
    .inl ⟨h.start (.inr hq), h.log⟩
  unfold State.prerollBoundary
  split
  · dsimp only
    split
    · exact entered.playBoundary rfl m
    · split
      · exact entered.playBoundary rfl m
      · exact (h.log.writeBarred _).advancePosition.afterAdvance m
  · exact .inl h.congr

/-- A boundary in STALLED holds, or ends the stall (R46). -/
theorem OnAir.stalledBoundary (h : OnAir s) (m : Mix) : Records (s.stalledBoundary m) := by
  have resumed : FrameDue ((s.updSeq fun q => { q with state := .playing, stallTimer := none }).resumeEvent) :=
    .inr ⟨h.log, h.frame⟩
  unfold State.stalledBoundary
  split
  · exact resumed.playBoundary rfl m
  · exact .inr h.congr

theorem Records.boundaryWork (h : Records s) (m : Mix) : Records (s.boundaryWork m) := by
  unfold State.boundaryWork
  split
  · rename_i hq; exact (h.offAir (by rw [hq]; rfl)).prerollBoundary hq m
  · rename_i hq
    have air := h.onAir (by rw [hq]; rfl)
    exact FrameDue.playBoundary (.inr ⟨air.log, air.frame⟩) air.state m
  · rename_i hq; exact (h.onAir (by rw [hq]; rfl)).stalledBoundary m
  all_goals exact h.congr

/-- A pending hold holds the show where it plays (R43, R133). -/
theorem Records.endExpansion (h : Records s) : Records s.endExpansion := by
  unfold State.endExpansion
  dsimp only
  split
  · unfold State.holdShow
    split
    · rename_i playing
      have air : OnAir s := h.onAir (congrArg ShowState.onAir playing)
      exact .inr (air.congr air.state.symm)
    · exact h.congr
  · exact h.congr

theorem Records.frameBoundary (h : Records s) : Records s.frameBoundary := by
  have started : Records s.stepFader.startExpansion := h.congr
  have done : Records (boundaryDone s) := (started.boundaryWork s.mix).endExpansion.congr
  rw [frameBoundary_eq, countFlow_eq]
  exact done.congr

end

end Sys2Proof.Safety
end

-- ==== the showing log: every step ====
section
/-! PROOFS. The showing log under the show commands, the emergency latch, the inputs, the requests and every command (R159, R161,
R162, R166, R178). -/

namespace Sys2Proof.Safety

open Sys2Proof.Machine

/-- The unpacker leaves the sequencer and the log alone. -/
theorem records_alike : Alike (fun _ => True) fun s u => u = s ∧ Records s where
  agree := by rintro s _ ⟨rfl, -⟩; exact .refl _
  raise := by rintro s _ f - ⟨rfl, h⟩; exact ⟨rfl, h.raise f⟩
  send := by rintro s _ r ⟨rfl, h⟩; exact ⟨rfl, h.congr⟩
  tracks := by rintro s _ l - ⟨rfl, h⟩; exact ⟨rfl, h.congr⟩
  cells := by rintro s _ n ⟨rfl, h⟩; exact ⟨rfl, h.congr⟩
  sub := by rintro s _ x - ⟨rfl, h⟩; exact ⟨rfl, h.congr⟩

theorem onAir_active {q : ShowState} (h : q.active = false) : q.onAir = false := by
  cases q with
  | idle => rfl
  | armed => rfl
  | preroll => rfl
  | ended => rfl
  | stopped => rfl
  | playing => cases h
  | holding => cases h
  | stalled => cases h

section
variable {s : State} (h : Records s)
include h

/-! ### Show commands (R34) -/

/-- SKIP closes an open record before it advances (R50). -/
theorem Records.endBySkip : LogClosed s.endBySkip.acct.log := by
  rw [(endBySkip_ended s).acct]
  split
  · exact h.close closes_closing
  · rename_i off
    exact (h.offAir (Bool.eq_false_iff.mpr off)).log

/-- CLEAR leads to IDLE from states without an open record (R54). -/
theorem Records.clearShow {u : State} (hu : s.clearShow = some u) : Records u := by
  unfold State.clearShow at hu
  split at hu
  · rename_i hq
    cases hu
    have off : OffAir s := h.offAir (by rcases hq with hq | hq | hq <;> rw [hq] <;> rfl)
    have acct : s.unscheduleAll.acct = s.acct := (congrArg State.acct (State.unscheduleAll_spec s).rest :)
    refine .inl (.of_resting (.inl rfl) ?_)
    change LogClosed s.unscheduleAll.acct.log
    rw [acct]
    exact off.log
  · cases hu

theorem Records.showCommand {u : State} (c : ShowCommand) (hu : s.showCommand c = some u) : Records u := by
  have taken : ∀ {q : Prop} [Decidable q] {v : State}, (if q then some v else none) = some u → (q → Records v) → Records u :=
    fun {q} _ {v} e hv => by
      split at e
      · cases e; exact hv ‹q›
      · cases e
  cases c with
  | start =>
    refine taken hu fun armed => ?_
    have off := h.offAir (congrArg ShowState.onAir armed)
    exact .inl (Between.enterPreroll ⟨off.start (.inl armed), off.log⟩)
  | hold =>
    refine taken hu fun playing => ?_
    have air : OnAir s := h.onAir (congrArg ShowState.onAir playing)
    exact .inr (air.congr air.state.symm)
  | resume =>
    refine taken hu fun holding => ?_
    have air : OnAir s := h.onAir (congrArg ShowState.onAir holding)
    exact .inr (air.congr air.state.symm)
  | stop => exact taken hu fun _ => .inl (h.stopped _)
  | skip =>
    refine taken hu fun _ => ?_
    have between := h.endBySkip.advancePosition
    split
    · exact .inl between.enterEnded
    · exact .inl between.enterPreroll
  | clear => exact h.clearShow hu

/-! ### The emergency latch and the inputs -/

/-- The latch stops every show but one that rests (R52). -/
theorem Records.emergencyShow : Records s.emergencyShow := by
  unfold State.emergencyShow
  split
  · exact h.congr
  · exact h.congr
  all_goals exact .inl (h.stopped _)

theorem Records.setLatch : Records s.setLatch := by
  cases latch : s.booth.latch with
  | true => rw [setLatch_of_set latch]; exact h
  | false =>
    have silent : Records (silenced s.emergencyShow) := h.emergencyShow.congr
    rw [setLatch_of_clear latch]
    exact silent.raise _

theorem Records.releaseLatch {u : State} (hu : s.releaseLatch = some u) : Records u := by
  unfold State.releaseLatch at hu
  split at hu
  · cases hu; exact h.congr
  · cases hu

/-- A macro run from an input takes cues and may hold the show (R136). -/
theorem Records.inputMacro (first length : Nat) : Records (s.inputMacro first length) := by
  have started : Records s.startExpansion := h.congr
  unfold State.inputMacro
  rw [runEntries_flat (takeCue_flat Config.macroDepth)]
  have rest := (takeFlats_taken (flatRun s.startExpansion Config.macroDepth first length) s.startExpansion).rest
  exact (started.same (congrArg State.seq rest :) (congrArg State.acct rest :)).endExpansion

/-- A show command of an input is that command, or INPUT_REFUSED (R148). -/
theorem Records.inputCommand (c : ShowCommand) : Records ((s.showCommand c).getD (s.raise .inputRefused)) := by
  cases hu : s.showCommand c with
  | none => exact h.raise _
  | some u => exact h.showCommand c hu

theorem Records.inputAction (a : InputAction) : Records (s.inputAction a) := by
  cases a with
  | nothing => exact h
  | start => exact h.inputCommand .start
  | hold => exact h.inputCommand .hold
  | resume => exact h.inputCommand .resume
  | stop => exact h.inputCommand .stop
  | skip => exact h.inputCommand .skip
  | runMacro first length => exact h.inputMacro first length
  | emergency => exact h

theorem Records.acceptChange (i : Nat) : Records (s.acceptChange i) := by
  have taken : Records (edgeTaken s i) := h.congr
  unfold State.acceptChange
  dsimp only
  split
  · split
    · split
      · exact taken.setLatch
      · exact taken
    · split
      · exact taken.inputAction _
      · exact taken
  · exact taken

omit h in
theorem Records.event {work : State → State} (hw : Records (work s)) : Records (Machine.event work s) := by
  rw [event_eq]
  exact hw.congr

theorem Records.acceptEdge (i : Nat) : Records (s.acceptEdge i) := Records.event (h.acceptChange i)

theorem Records.changeInput (i : Nat) (level : InLevel) : Records (s.changeInput i level) := by
  have raw : Records (s.updInput i fun k => { k with raw := level }) := h.congr
  unfold State.changeInput
  split
  · exact h
  · dsimp only
    split
    · exact raw.congr
    · split
      · exact raw.acceptEdge i
      · exact raw.congr

theorem Records.millisecondTick (order : List (Fin 8)) : Records (s.millisecondTick order) := by
  have ticked : Records s.tickLines := h.congr
  unfold State.millisecondTick
  generalize s.dueInputs order = l
  generalize s.tickLines = u at ticked
  induction l generalizing u with
  | nil => exact ticked
  | cons i l ih => exact ih _ (ticked.acceptEdge i)

/-- A timer counts, or stops the show (R40, R47). -/
theorem Records.secondTick : Records s.secondTick := by
  have timed : ∀ {v : State} (c : Prop) [Decidable c] (reason : StopReason), Records v →
      Records (if c then v.enterStopped reason else v) := fun c _ reason hv => by
    split
    · exact .inl (hv.stopped reason)
    · exact hv
  have counted : Records { s with clk := s.clk.second } := h.congr
  unfold State.secondTick State.countTimers
  generalize ({ s with clk := s.clk.second } : State) = w at counted
  split
  · exact timed _ _ counted.congr
  · exact timed _ _ counted.congr
  all_goals exact counted

/-! ### Requests -/

theorem Records.storeEffects (before : State) (es : List Entry) (i : Nat) : Records (State.storeEffects before s i es) := by
  induction es generalizing s i with
  | nil => exact h
  | cons e es ih =>
    refine ih ?_ (i + 1)
    cases e with
    | input e =>
      unfold State.storeEffect
      dsimp only
      split
      · exact h.setLatch
      · exact h
    | _ => exact h.congr

theorem Records.writeEntries (table index count : Nat) (entries : Bytes) :
    Records (s.writeEntries table index count entries).1 := by
  unfold State.writeEntries
  split
  · exact h
  split
  · exact h
  split
  · exact h
  split
  · exact h
  split
  · exact h
  · refine Records.storeEffects ?_ s _ index
    exact h.congr

theorem Records.readEntries (table index count : Nat) : Records (s.readEntries table index count).1 := by
  unfold State.readEntries
  split
  · exact h
  split
  · exact h
  split
  · exact h
  · dsimp only
    split
    · exact h.congr
    · exact h

/-- ARM finds no open record, and the armed show has taken no frame (R35, R36). -/
theorem Records.armShow (slots : List Nat) : Records (s.armShow slots).1 := by
  unfold State.armShow
  split
  · exact h
  · rename_i refused
    split
    · exact h
    · have off := h.offAir (onAir_active (Bool.eq_false_iff.mpr fun c => refused (.inl c)))
      have armed : Records { s with seq := ⟨.armed, slots, 1, 0, false, none, none, .none⟩ } := .inl ⟨rfl, fun _ => rfl, off.log⟩
      exact (records_alike.scheduleSlot (records_alike.scheduleSlot ⟨rfl, armed⟩ _) _).2

/-- TRIM_SHOWINGS keeps the open record (R178). -/
theorem Records.trim (n : Nat) : Records { s with acct := { s.acct with log := s.acct.log.filter fun r => !s.trimmed n r } } := by
  have passes : ∀ r : Record, r.outcome = .opened → (!s.trimmed n r) = true := fun r open_ => by
    rw [State.trimmed, open_]
    rfl
  exact h.imp (fun h => ⟨h.state, h.start, h.log.filter _⟩) fun h => ⟨h.state, h.frame, h.log.filter passes⟩

/-- A warm reset closes the open record and leads to IDLE (R166, R184). -/
theorem Records.warm : Records s.warm := by
  have restarted := warm_restarted s
  refine .inl (.of_resting (.inl ?_) ?_)
  · rw [restarted.seq]; rfl
  · rw [restarted.acct]; exact h.close closes_warm

theorem Records.perform (r : Request) : Records (s.perform r).1 := by
  cases r with
  | writeTable tag table index count entries => exact h.writeEntries ..
  | readTable tag table index count => exact h.readEntries ..
  | arm tag slots => exact h.armShow _
  | showCommand tag c =>
    unfold State.perform
    dsimp only
    split
    · rename_i u hu; exact h.showCommand c hu
    · exact h
  | releaseEmergency tag =>
    unfold State.perform
    dsimp only
    split
    · rename_i u hu; exact h.releaseLatch hu
    · exact h
  | trimShowings tag n => exact h.trim n.toNat
  | warmReset tag => exact h.warm
  | _ => exact h.congr

theorem Records.arbitrate : Records s.arbitrate := h.same (State.arbitrate_seq s) (State.arbitrate_acct s)

theorem Records.execRequest (r : Request) : Records (s.execRequest r) := by
  have performed := Records.perform (s := s.setReserved true) h.congr r
  unfold State.execRequest
  dsimp only
  generalize (s.setReserved true).perform r = x at performed
  refine Records.arbitrate (Records.congr (s := if r.isWarm then x.1 else x.1.reportChange s.seq.state) ?_)
  split
  · exact performed
  · exact performed.same (State.reportChange_seq ..) (State.reportChange_acct ..)

omit h in
theorem Records.serve (n : Nat) {s : State} (h : Records s) : Records (State.serve n s) := by
  induction n generalizing s with
  | zero => exact h
  | succ n ih =>
    unfold State.serve
    split
    · split
      · exact ih (Records.execRequest h.congr _)
      · exact h
    · exact h

theorem Records.submit (r : Request) : Records (s.submit r) := by
  unfold State.submit
  split
  · exact Records.serve _ h.congr
  · exact (h.raise _).arbitrate

/-! ### Commands -/

theorem Records.route (p : Parcel) : Records (s.route p) := by
  unfold State.route
  split
  · exact h.congr
  · split
    · exact Records.submit h.congr _
    · exact h.congr
  · split
    · exact (records_alike.essence ⟨rfl, h⟩ trivial trivial trivial _).2.arbitrate
    · exact h.congr
  · exact h.congr

theorem Records.endMark (b : Bytes) : Records (s.endMark b) := by
  have hunting : Records (s.setFraming .hunting) := h.congr
  unfold State.endMark
  split
  · exact h
  · split
    · exact hunting.congr
    · unfold State.receive
      split
      · exact hunting.congr
      · exact hunting.congr
      · exact hunting.route _

theorem Records.endTransmission : Records s.endTransmission := by
  unfold State.endTransmission
  split
  · exact Records.serve _ (Records.arbitrate h.congr)
  · exact h

omit h in
theorem records_powerOn (raw : List InLevel) (link : List LinkRecord) (pending : List Instr) :
    Records (State.powerOn raw link pending) :=
  .inl (.of_resting (.inl rfl) .nil)

theorem Records.exec (c : Instr) {t : State} (ht : Machine.exec c s = .next t) : Records t := by
  have run : ∀ work, Machine.exec c s = Machine.run work s → Records (work s) → Records t := fun work e hw => by
    rw [e, Machine.run] at ht
    cases ht
    split
    · exact h
    · exact hw
  have guarded : ∀ (q : Prop) [Decidable q] (u : State), (q → Records u) → Records (if q then u else s) := fun q _ u hu => by
    split
    · exact hu ‹q›
    · exact h
  cases hr : requestOf c with
  | some r => exact run (fun s => s.submit r) (exec_request hr s) (h.submit r)
  | none =>
    cases c with
    | powerOnReset => cases ht; exact records_powerOn ..
    | resetAsserted => cases ht; exact (records_powerOn s.rawLevels s.link s.pending).congr
    | parcelComplete bytes => exact run (fun s => s.endMark bytes) rfl (h.endMark bytes)
    | frameBoundary => exact run _ rfl (.event h.frameBoundary)
    | millisecondTick order => exact run (fun s => s.millisecondTick order) rfl (h.millisecondTick order)
    | secondTick => exact run _ rfl (.event h.secondTick)
    | prerollTimeout => exact run _ rfl (.event (guarded _ _ fun _ => .inl (h.stopped _)))
    | stallTimeout => exact run _ rfl (.event (guarded _ _ fun _ => .inl (h.stopped _)))
    | stallTrigger =>
      refine run _ rfl (.event (guarded _ _ fun playing => ?_))
      have air : OnAir s := h.onAir (congrArg ShowState.onAir playing)
      have stalled : OnAir (s.updSeq fun q => { q with state := .stalled, stallTimer := some 0 }) := air.congr air.state.symm
      exact (Records.raise (.inr stalled) .stall).congr
    | flowInterval => exact run _ rfl (.event (guarded _ _ fun _ => h.congr))
    | phaseEnd g => exact run _ rfl (.event h.congr)
    | inputLevelChange i level =>
      cases ht
      split
      · exact h.congr
      · exact h.changeInput _ _
    | acceptedEdge i => exact run _ rfl (guarded _ _ fun _ => h.acceptEdge i.val)
    | transmissionEnd => exact run _ rfl h.endTransmission
    | startMark =>
      refine run _ rfl ?_
      unfold State.beginParcel
      split
      · exact h.congr
      · exact h.congr
    | oversizeParcel =>
      refine run _ rfl ?_
      unfold State.oversize
      split
      · exact h
      · exact h.congr
    | samplePeriod =>
      refine run _ rfl ?_
      unfold State.samplePeriod
      split
      · exact h
      · exact h.congr
    | _ => cases hr

end

/-- Settles O58: the log, in its two cases, is kept by every command. -/
theorem stepsKeepRecords : Obligations.StepsKeepRecords := by
  intro s t h ht
  have records := (records_iff s).mpr h
  refine (records_iff t).mp ?_
  unfold step at ht
  split at ht
  · exact Records.exec records.congr _ ht
  · cases ht; exact records

end Sys2Proof.Safety
end

-- ==== accounting: the count of a showing and the licence check ====
section
/-! PROOFS. The count of a showing at its count frame (R163, R164) and the order of the licence check's tests (R157). -/

namespace Sys2Proof.Safety

open Sys2Proof.Machine

/-! ### The count of a showing -/

/-- The verdict impairs a showing by a repeat past the tolerance at or before the count frame (R163). -/
theorem verdict_impaired (r : Record) (c : Composition) (f : Nat) (shown : Bool) : (r.verdict c f shown).impaired = true ↔
    r.impaired = true ∨ (shown = false ∧ c.tolerance < r.repeated + 1 ∧ f ≤ c.countFrame ∧ r.counted = false) := by
  cases shown with
  | true => simp [Record.verdict]
  | false => simp [Record.verdict, and_assoc]

/-- The verdict counts no showing. -/
theorem verdict_counted (r : Record) (c : Composition) (f : Nat) (shown : Bool) :
    (r.verdict c f shown).counted = r.counted ∧ (r.verdict c f shown).countTime = r.countTime ∧
      (r.verdict c f shown).licence = r.licence := by
  unfold Record.verdict
  split <;> exact ⟨rfl, rfl, rfl⟩

/-- The verdict on the open record, before the count is judged. -/
theorem accountVerdict_eq {s : State} {r : Record} (h : s.acct.openRecord? = some r) (f : Nat) (shown : Bool) :
    ∃ v, v = { s with acct := { s.acct with log := r.verdict s.currentComposition f shown :: s.acct.log.tail } } ∧
      v.acct.openRecord? = some (r.verdict s.currentComposition f shown) ∧
      s.accountVerdict f shown = if f = s.currentComposition.countFrame then v.judgeCount else v := by
  refine ⟨_, rfl, openRecord_cons ((verdict_outcome ..).trans (openRecord_outcome h)), ?_⟩
  unfold State.accountVerdict
  dsimp only
  rw [Accounting.updOpen_some h]

/-- An impaired showing is not counted (R164). -/
theorem judgeCount_impaired {s : State} {r : Record} (h : s.acct.openRecord? = some r) (impaired : r.impaired = true) :
    s.judgeCount = s := by
  unfold State.judgeCount
  rw [h]
  exact if_pos impaired

/-- The used count of the licence entry rises, and no other (R164). -/
theorem useLicence_entry (s : State) (k i : Nat) :
    (s.useLicence k).tables.licence[i]? = (s.tables.licence[i]?).map fun l => if k = i then { l with used := l.used + 1 } else l := by
  rw [State.useLicence_tables, List.getElem?_modify]
  split <;> rfl

/-- An unimpaired showing is counted, with its licence's used count and COUNTED (R164). -/
theorem judgeCount_counts {s : State} {r : Record} (h : s.acct.openRecord? = some r) (whole : r.impaired = false) :
    s.judgeCount.acct.openRecord? = some { r with counted := true, countTime := s.clk.booth } ∧
    s.judgeCount.acct.log.tail = s.acct.log.tail ∧ flagSet s.judgeCount.mgmt.flags .counted = true ∧
    ∀ i l, s.tables.licence[i]? = some l → s.judgeCount.tables.licence[i]? =
      some (if r.licence = some i then { l with used := l.used + 1 } else l) := by
  unfold State.judgeCount
  rw [h]
  dsimp only
  rw [if_neg (by simp [whole]), Accounting.updOpen_some h, State.raise_acct, State.raise_flags, State.raise_tables]
  have opened := openRecord_outcome h
  have marked : Accounting.openRecord? { s.acct with
      log := { r with counted := true, countTime := s.clk.booth } :: s.acct.log.tail } =
        some { r with counted := true, countTime := s.clk.booth } :=
    openRecord_cons (r := { r with counted := true, countTime := s.clk.booth }) opened
  have raised : ∀ m, flagSet (withFlag m .counted) .counted = true := fun m => by simp
  split
  · rename_i k licence
    refine ⟨marked, rfl, raised _, fun i l hl => ?_⟩
    rw [useLicence_entry, hl, licence]
    simp
  · rename_i licence
    refine ⟨marked, rfl, raised _, fun i l hl => ?_⟩
    rw [licence]
    exact hl

/-- Settles O42: the verdict changes the open record alone, and the count frame judges what it leaves. -/
theorem showingCountJudged : Obligations.ShowingCountJudged := by
  rintro s f shown r c hr rfl
  obtain ⟨v, hv, open_, taken⟩ := accountVerdict_eq hr f shown
  have impaired := verdict_impaired r s.currentComposition f shown
  obtain ⟨counted, time, licence⟩ := verdict_counted r s.currentComposition f shown
  generalize r.verdict s.currentComposition f shown = q at *
  have log : v.acct.log.tail = s.acct.log.tail := by rw [hv]; rfl
  have tables : v.tables = s.tables := by rw [hv]
  have mgmt : v.mgmt = s.mgmt := by rw [hv]
  have clk : v.clk = s.clk := by rw [hv]
  by_cases hf : f = s.currentComposition.countFrame
  · rw [if_pos hf] at taken
    cases hq : q.impaired with
    | true =>
      rw [judgeCount_impaired open_ hq] at taken
      exact ⟨v, q, taken.symm, open_, log, impaired, fun _ whole => (nomatch hq.symm.trans whole),
        fun _ => ⟨counted, time, tables, mgmt⟩⟩
    | false =>
      obtain ⟨now, tail, flag, used⟩ := judgeCount_counts open_ hq
      rw [clk] at now
      rw [tables, licence] at used
      refine ⟨_, _, taken.symm, now, tail.trans log, impaired, fun _ _ => ⟨rfl, rfl, flag, used⟩, fun c => ?_⟩
      exact c.elim (fun c => absurd hf c) fun c => nomatch hq.symm.trans c
  · rw [if_neg hf] at taken
    exact ⟨v, q, taken.symm, open_, log, impaired, fun c => absurd c hf, fun _ => ⟨counted, time, tables, mgmt⟩⟩

/-! ### The licence check (R157) -/

/-- The entry has a window, and booth time is unset. -/
def Untimed (l : Licence) (booth : Option Nat) : Prop := (l.windowStart ≠ none ∨ l.windowEnd ≠ none) ∧ booth = none

/-- The window has not begun. -/
def Early (l : Licence) (booth : Option Nat) : Prop := ∃ a b, l.windowStart = some a ∧ booth = some b ∧ b < a

/-- The window is over. -/
def Late (l : Licence) (booth : Option Nat) : Prop := ∃ z b, l.windowEnd = some z ∧ booth = some b ∧ z ≤ b

/-- The allowed showings are used, or the used count is at its end. -/
def Spent (l : Licence) : Prop := (∃ n, l.allowed = some n ∧ n ≤ l.used) ∨ l.used = 65535

/-- What the check answers: the first test that holds gives the reason. -/
inductive Checked (l : Licence) (booth : Option Nat) : Option BarReason → Prop
  | timeUnset (h : Untimed l booth) : Checked l booth (some .timeUnset)
  | notYet (early : Early l booth) : Checked l booth (some .notYet)
  | expired (before : ¬ Early l booth) (late : Late l booth) : Checked l booth (some .expired)
  | exhausted (timed : ¬ Untimed l booth) (before : ¬ Early l booth) (inside : ¬ Late l booth) (spent : Spent l) :
      Checked l booth (some .exhausted)
  | passes (timed : ¬ Untimed l booth) (before : ¬ Early l booth) (inside : ¬ Late l booth) (spare : ¬ Spent l) :
      Checked l booth none

theorem check_checked (l : Licence) (booth : Option Nat) : Checked l booth (l.check booth) := by
  have untimed : (l.windowStart.isSome ∨ l.windowEnd.isSome) ∧ booth = none ↔ Untimed l booth := by
    simp only [Untimed, Option.isSome_iff_ne_none]
  have early : (∃ a ∈ l.windowStart, ∃ b ∈ booth, b < a) ↔ Early l booth := by
    simp only [Early, Option.mem_def, exists_and_left]
  have late : (∃ z ∈ l.windowEnd, ∃ b ∈ booth, z ≤ b) ↔ Late l booth := by
    simp only [Late, Option.mem_def, exists_and_left]
  unfold Licence.check
  split
  · rename_i h; exact .timeUnset (untimed.mp h)
  rename_i timed
  rw [untimed] at timed
  split
  · rename_i h; exact .notYet (early.mp h)
  rename_i before
  rw [early] at before
  split
  · rename_i h; exact .expired before (late.mp h)
  rename_i inside
  rw [late] at inside
  split
  · rename_i h; exact .exhausted timed before inside (.inl h)
  rename_i allowed
  split
  · rename_i h; exact .exhausted timed before inside (.inr h)
  · rename_i counts; exact .passes timed before inside fun c => c.elim allowed counts

/-- Booth time is set where it is before a window or past it. -/
theorem Early.timed {l : Licence} {booth : Option Nat} (h : Early l booth) : ¬ Untimed l booth := by
  obtain ⟨a, b, -, time, -⟩ := h
  exact fun c => nomatch time.symm.trans c.2

theorem Late.timed {l : Licence} {booth : Option Nat} (h : Late l booth) : ¬ Untimed l booth := by
  obtain ⟨z, b, -, time, -⟩ := h
  exact fun c => nomatch time.symm.trans c.2

section
variable (l : Licence) (booth : Option Nat)

theorem check_timeUnset : l.check booth = some .timeUnset ↔ Untimed l booth := by
  have checked := check_checked l booth
  generalize l.check booth = r at checked
  cases checked with
  | timeUnset h => exact iff_of_true rfl h
  | notYet early => exact iff_of_false (fun c => nomatch c) early.timed
  | expired before late => exact iff_of_false (fun c => nomatch c) late.timed
  | exhausted timed before inside spent => exact iff_of_false (fun c => nomatch c) timed
  | passes timed before inside spare => exact iff_of_false (fun c => nomatch c) timed

theorem check_notYet : l.check booth = some .notYet ↔ Early l booth := by
  have checked := check_checked l booth
  generalize l.check booth = r at checked
  cases checked with
  | timeUnset h => exact iff_of_false (fun c => nomatch c) fun early => early.timed h
  | notYet early => exact iff_of_true rfl early
  | expired before late => exact iff_of_false (fun c => nomatch c) before
  | exhausted timed before inside spent => exact iff_of_false (fun c => nomatch c) before
  | passes timed before inside spare => exact iff_of_false (fun c => nomatch c) before

theorem check_expired : l.check booth = some .expired ↔ Late l booth ∧ ¬ Early l booth := by
  have checked := check_checked l booth
  generalize l.check booth = r at checked
  cases checked with
  | timeUnset h => exact iff_of_false (fun c => nomatch c) fun c => c.1.timed h
  | notYet early => exact iff_of_false (fun c => nomatch c) fun c => c.2 early
  | expired before late => exact iff_of_true rfl ⟨late, before⟩
  | exhausted timed before inside spent => exact iff_of_false (fun c => nomatch c) fun c => inside c.1
  | passes timed before inside spare => exact iff_of_false (fun c => nomatch c) fun c => inside c.1

theorem check_passes : l.check booth = none ↔ ¬ Spent l ∧ ¬ Untimed l booth ∧ ¬ Early l booth ∧ ¬ Late l booth := by
  have checked := check_checked l booth
  generalize l.check booth = r at checked
  cases checked with
  | timeUnset h => exact iff_of_false (fun c => nomatch c) fun ⟨_, timed, _⟩ => timed h
  | notYet early => exact iff_of_false (fun c => nomatch c) fun ⟨_, _, before, _⟩ => before early
  | expired before late => exact iff_of_false (fun c => nomatch c) fun ⟨_, _, _, inside⟩ => inside late
  | exhausted timed before inside spent => exact iff_of_false (fun c => nomatch c) fun c => c.1 spent
  | passes timed before inside spare => exact iff_of_true rfl ⟨spare, timed, before, inside⟩

/-- A bar always has a reason. -/
theorem check_reason : l.check booth ≠ some .none := by
  have checked := check_checked l booth
  intro c
  rw [c] at checked
  exact nomatch checked

theorem spare_iff : ¬ Spent l ↔ (∀ n, l.allowed = some n → l.used < n) ∧ l.used ≠ 65535 := by
  simp only [Spent, not_or, not_exists, not_and, Nat.not_le, ne_eq]

theorem early_some (b : Nat) : Early l (some b) ↔ ∃ a, l.windowStart = some a ∧ b < a := by
  simp [Early]

theorem late_some (b : Nat) : Late l (some b) ↔ ∃ z, l.windowEnd = some z ∧ z ≤ b := by
  simp [Late]

/-- While booth time is unset a window has neither begun nor ended. -/
theorem window_untimed : ¬ Early l none ∧ ¬ Late l none :=
  ⟨fun ⟨_, _, _, time, _⟩ => (nomatch time), fun ⟨_, _, _, time, _⟩ => nomatch time⟩

/-- The window is open: booth time is set where the entry has a window, and within it. -/
theorem window_open_iff : ¬ Untimed l booth ∧ ¬ Early l booth ∧ ¬ Late l booth ↔
    (∀ a, l.windowStart = some a → ∃ b, booth = some b ∧ a ≤ b) ∧
      ∀ z, l.windowEnd = some z → ∃ b, booth = some b ∧ b < z := by
  cases booth with
  | none =>
    obtain ⟨before, inside⟩ := window_untimed l
    simp [before, inside, Untimed, Option.eq_none_iff_forall_ne_some]
  | some b =>
    have timed : ¬ Untimed l (some b) := fun c => nomatch c.2
    simp [timed, early_some, late_some]

/-- The window is over, and has begun before. -/
theorem window_over_iff : Late l booth ∧ ¬ Early l booth ↔
    ∃ z b, l.windowEnd = some z ∧ booth = some b ∧ z ≤ b ∧ ∀ a, l.windowStart = some a → a ≤ b := by
  cases booth with
  | none => exact iff_of_false (fun c => (window_untimed l).2 c.1) fun ⟨_, _, _, time, _⟩ => nomatch time
  | some b => simp [early_some, late_some, ← and_assoc]

end

/-- Settles O46: each reason is its test with the tests before it failed. -/
theorem licenceCheckOrder : Obligations.LicenceCheckOrder := by
  intro s c
  refine ⟨fun none_named => by rw [State.licenceCheck, none_named], ?_⟩
  rintro i _ named rfl
  have check : s.licenceCheck c = (s.licence i).check s.clk.booth := by rw [State.licenceCheck, named]
  rw [check]
  refine ⟨check_timeUnset .., check_notYet .., (check_expired ..).trans (window_over_iff ..), ?_, check_reason _ _⟩
  rw [check_passes, spare_iff, window_open_iff, and_assoc]

end Sys2Proof.Safety
end
